-- ==== Sys2Proof/Word.lean ====
section
/-!
DEFINITION. Word.lean: the word types of the unit and their plainest arithmetic.
A register is 32 bits (R6); a stored nonet is 9 bits, 8 data bits and one stitch bit (R164); a Nyate register is 18 bits.
-/
namespace Sys2Proof

/-- A page register: 32 bits (R6). -/
abbrev Word := BitVec 32

/-- A byte of host memory or of a frame on the wire. -/
abbrev Byte := BitVec 8

/-- A nonet: 8 data bits and, as bit 8, the stitch bit (chapter 0, "Terms"; R164). -/
abbrev Nonet := BitVec 9

/-- A Nyate register or data-memory word: 18 bits, two nonets. -/
abbrev NWord := BitVec 18

end Sys2Proof
end

