-- ==== Sys2Proof/Types.lean ====
section
/-!
DEFINITION. Types.lean: the names the commands use for the unit's parts: islands, pages, masters and page requests.
-/
namespace Sys2Proof

/-- The islands of Bruith (R11); `nyc c` is NYC0 to NYC7. -/
inductive Island where
  | host | fab | prg | pup
  | nyc (c : Fin 8)
  | cry | tun | sto | tbl | mgt | saf
  deriving DecidableEq, Repr

/-- The masters of R24, each with what tells it from others of its number (the VF, the supervisor's cluster). -/
inductive Master where
  /-- Master 1. -/
  | pf0
  /-- Masters 2, 3 and 4: PF1, PF2 and PF3 for k = 0, 1, 2. -/
  | pf (k : Fin 3)
  /-- Master 5: VF number n + 1, ARI function n + 4. -/
  | vf (n : Fin 1020)
  /-- Master 6, the management controller. -/
  | mgt
  /-- Master 7, Yemor. -/
  | yemor
  /-- Master 8, the supervisor thread of cluster c. -/
  | nyate (c : Fin 8)
  /-- Master 9, the safety supervisor. -/
  | saf
  /-- Master 10, the meter core. -/
  | meter
  /-- Master 11, the two-wire port. -/
  | twp
  /-- Master 12, the KRDS service. -/
  | krds
  deriving DecidableEq, Repr

/-- The register pages of R466 and R467. -/
inductive Page where
  | unit | prec | hlnk | hwin | wq | ham | fab
  | port (p : Fin 4)
  | gate (p : Fin 4)
  | ring | ptp | swt | tbl | darn | cry | tun | sto
  | nyc (c : Fin 8)
  | isl | clk | pwr | mgt | mbxSaf | mbxMet | log | img
  | saf (i : Fin 2)
  | met | twp | yem
  | func (f : Fin 1024)
  | mbx (f : Fin 1024)
  deriving DecidableEq, Repr

/-- What one request asks of a page's arbiter: an access of `width` bytes at byte offset `off` that writes `val`,
or a lock read (R37), which the arbiter treats as a write. -/
inductive ReqKind where
  | write (val : Word)
  | lockRead
  deriving DecidableEq, Repr

/-- One request that reaches a page's arbiter in a page cycle (R20, R32). -/
structure Req where
  master : Master
  off    : BitVec 12
  width  : Nat
  kind   : ReqKind
  deriving DecidableEq, Repr

/-- The requests that reach one page's arbiter in a cycle, and those that reach other pages of MGT in the same cycle (R48). -/
structure CycleReqs where
  here : List Req
  also : List (Page × List Req)
  deriving DecidableEq, Repr

/-- What the PCS found in the codewords of a frame (R185, R189): an error inside it, and the codewords FEC corrected or lost. -/
structure Codewords where
  bad       : Bool
  corrected : Nat
  lost      : Nat
  deriving DecidableEq, Repr

/-- What a pluggable module says of itself (R183, R375): its SFF identifier, and vendor name, part number and serial number. -/
structure ModuleInfo where
  sff   : BitVec 8
  ident : List Byte
  deriving DecidableEq, Repr

/-- A direct-access lock that is broken (R244): its table, and what a transfer into it has brought by then. -/
structure BrokenLock where
  table : Fin 4
  image : List (List Byte)
  deriving DecidableEq, Repr

/-- One of the two mains inputs (R49). -/
inductive Input where | a | b
  deriving DecidableEq, Repr

/-- What the unit measures at a mains input: its kind, its voltage (0.1 V), its frequency (0.01 Hz, AC only), whether
a zero crossing was seen within 15 ms (AC), and, for DC, whether the polarity is the accepted one (R49, R50). -/
structure Measure where
  dc       : Bool
  volt     : Nat
  freq     : Nat
  crossing : Bool
  polarity : Bool
  deriving DecidableEq, Repr

/-- What a flash burst is for; it fixes the reason of the short record that a refusal writes (R60, R61, R62). `boot` is a write of
the boot record's mirror (R71). -/
inductive BurstKind where
  | log | final | image | erase | wear | boot
  deriving DecidableEq, Repr

/-- The causes of a host link reset (R18, R80). -/
inductive LinkCause where | perst | hotReset | linkDown
  deriving DecidableEq, Repr

/-- A configuration-space field that a host write can change and the unit acts on (R88 to R94, R102, R105, R106). -/
inductive CfgField where
  | busNumber | numVFs | vfEnable | maxPayload | maxReadReq | extTag | tag10 | idoReq | idoCpl | cplTimeout
  | msixEnable | msixMask | pmeEn | pmeStatusClear | aspmL1 | l11 | l12 | ltrEnable
  deriving DecidableEq, Repr

/-- The settings an image set records for a thread of a core (R314), and whether it is started. -/
structure ThreadSetting where
  t     : Fin 16
  code  : Word
  data  : Word
  bind  : Word
  entry : Word
  start : Bool
  deriving DecidableEq, Repr

/-- An operator Nyate program of an image set (R314): the core it goes to, its instructions and data words from their bases, and the
thread settings. -/
structure Program where
  cluster : Fin 8
  core    : Fin 8
  ibase   : BitVec 15
  code    : List (BitVec 36)
  dbase   : BitVec 16
  data    : List NWord
  threads : List ThreadSetting
  deriving DecidableEq, Repr

end Sys2Proof
end

