-- ==== Sys2Proof/Syntax.lean ====
section
/-!
DEFINITION. Syntax.lean: the commands of the unit, one constructor per row of spec/opcode_table.json, in its order.
A row that is a register write carries the writing master, the value where the row leaves it open, and `rivals`, the
other requests that reach the same page's arbiter in that page cycle (R32). Operands that come from outside the unit
(bytes of a frame, of a descriptor, of a host answer; the outcome of a cryptographic check; a measured value) are what
the environment supplies at that event.
-/
namespace Sys2Proof

/-- One Yemor command line, parsed (R399); `bad` is a line whose syntax, page name or offset is invalid. -/
inductive YemLine where
  | help | info
  | rd (p : Page) (off count : Nat)
  | dump (p : Page)
  | wr (p : Page) (off : BitVec 12) (v : Word)
  | lock (p : Page)
  | unlock (p : Page)
  | log (seq : Word) (count : Nat)
  | sens
  | reset (keepRing selMgt : Bool)
  | cold (i : Island)
  | clk (i : Fin 16) (pll : Bool)
  | wake | twp | bye | bad
  deriving DecidableEq, Repr

/-- The commands. -/
inductive Instr where
  /-- REGISTER_WRITE (R32). A write to a register page that has no row of its own is settled by the page arbiter: it is refused, lost or applied in its page cycle. -/
  | registerWrite (p : Page) (reqs : CycleReqs)
  /-- LOCK_READ (R36). A read of PG_LOCK acquires a free lock for a master allowed to write the page, or returns the number of the holder. -/
  | lockRead (p : Page) (m : Master) (rivals : List Req)
  /-- LOCK_RELEASE (R39). A write of the holder's number to PG_LOCK, by the holder or by an overseer, releases the lock. -/
  | lockRelease (p : Page) (m : Master) (v : Word) (rivals : List Req)
  /-- RC_FIELD_READ (R7). A read that addresses any byte of an RC field returns the field and clears all of it, or subtracts the snapshot value while FREEZE is 1. -/
  | rcFieldRead (p : Page) (m : Master) (off : BitVec 12) (width : Nat)
  /-- CONFLICT_CLEAR (R35). A write of 1 to PG_CONFLICT.CLEAR zeroes MASTER, KIND, WORD and COUNT. -/
  | conflictClear (p : Page) (m : Master) (rivals : List Req)
  /-- OWNER_WRITE (R29). An overseer writes PG_OWNER, which is refused for forbidden values or fixed pages and otherwise takes effect from the next page cycle. -/
  | ownerWrite (p : Page) (m : Master) (v : Word) (rivals : List Req)
  /-- FREEZE_SNAPSHOT (R42). A write that sets PG_CTRL.FREEZE from 0 to 1 captures every RO and RC field from offset 0x040 in one page cycle. -/
  | freezeSnapshot (p : Page) (m : Master) (v : Word) (rivals : List Req)
  /-- FREEZE_TIMEOUT (R43). FREEZE returns to 0 by itself 100 ms after it was set. -/
  | freezeTimeout (p : Page)
  /-- INPUT_LOST (R50). A mains input is declared lost by the RMS, zero-crossing, frequency, undervoltage or overvoltage test, which aborts any capacitance test. -/
  | inputLost (i : Input) (x : Measure)
  /-- INPUT_RETURNED (R50). An input that has stayed within its rating for 5 ms is returned and present, and a DC input's polarity is accepted. -/
  | inputReturned (i : Input) (x : Measure)
  /-- INPUT_GOOD (R50). An input that has stayed within its rating for 200 ms becomes good, which may raise MAINS_x_RETURN and cancel a shed sequence. -/
  | inputGood (i : Input) (x : Measure)
  /-- MAINS_LOSS (R52). Both inputs are declared lost: the unit enters U2, logs MAINS_LOST to FRAM and suspends erases. -/
  | mainsLoss
  /-- SHED_ISLANDS (R56). 20 ms after mains loss, the listed islands are drained to S2 OFF and UNIT_READY is released. -/
  | shedIslands
  /-- GAUGE_LOW_SHED (R57). E_gauge falls below PWR_FRAM_RESERVE + 2,500 mJ before 5 s, which brings steps 3, 4 and 6 of the shed sequence forward. -/
  | gaugeLowShed
  /-- SHED_RING_DROP (R56). At 5 s, or once the dying gasp has left, PRG and the parts of FAB not serving SAF go to S2 OFF and the final log commit begins. -/
  | shedRingDrop
  /-- STORE_EXHAUSTED (R56). The hold-up store is exhausted, and MGT and SAF lose power. -/
  | storeExhausted
  /-- GAUGE_UPDATE (R55). Every 1 ms, E_gauge is recomputed from the bank voltage and C_low, and FULL is updated. -/
  | gaugeUpdate (volt load : Nat)
  /-- FLASH_BURST_REQUEST (R60). The management controller asks for a flash burst, which is begun only if E_gauge admits it. -/
  | flashBurstRequest (kind : BurstKind) (pages : Nat)
  /-- FLASH_BURST_DONE (R380). An admitted flash burst ends, and any erase or wear-levelling move it suspended resumes. -/
  | flashBurstDone (bad0 bad1 dead0 dead1 : Bool)
  /-- CAPTEST_PERIOD_EXPIRY (R63). PERIOD_H hours after the last test, a capacitance test starts if both inputs are good. -/
  | captestPeriodExpiry
  /-- CAPTEST_START (R63). A write of PWR_CAPTEST.START = 1 starts a capacitance test. -/
  | captestStart (m : Master) (rivals : List Req)
  /-- CAPTEST_DONE (R65). A capacitance test completes: C_low is updated, RESULT is set, and HOLDUP_WORN is raised if the store is worn. -/
  | captestDone (c : Nat)
  /-- HOLDUP_TEST_STALE (R65). Seven days without a completed capacitance test raise HOLDUP_TEST_STALE. -/
  | holdupTestStale
  /-- MAINS_COLD_START (R70). MAINS_GOOD first reads 1 after the store was exhausted, and the start-up timeline begins. -/
  | mainsColdStart
  /-- UNIT_READY_ASSERT (R75). A start or reset completes, and the endpoint can answer configuration requests, so UNIT_READY is asserted. -/
  | unitReadyAssert (ms : Nat)
  /-- READY_LATE (R87). A start exceeds its R70 or R75 bound, which raises READY_LATE. -/
  | readyLate
  /-- UNIT_RESET_GO (R81). A write to UNIT_RESET with GO = 1 and KEY 0x4B52 starts a unit reset with the scope given by SEL_MGT and KEEP_RING. -/
  | unitResetGo (m : Master) (v : Word) (rivals : List Req)
  /-- UNIT_RESET_EXTEND (R81). A valid write with SEL_MGT = 1 made during a reset without MGT extends that reset to include MGT. -/
  | unitResetExtend (m : Master) (v : Word) (rivals : List Req)
  /-- HOST_LINK_RESET (R471). PERST# assertion, a hot reset or link down resets HOST state and takes every function through a function reset. -/
  | hostLinkReset (cause : LinkCause)
  /-- PERST_DEASSERT (R76). Filtered PERST# is deasserted, and link training starts once HOST has started. -/
  | perstDeassert
  /-- FUNCTION_LEVEL_RESET (R123). The host issues an FLR to a function, which starts a function reset. -/
  | functionLevelReset (f : Fin 1024)
  /-- FUNC_RESET_GO (R123). Master 1 writes FUNC_RESET.GO = 1 on a VF's page, which starts a function reset. -/
  | funcResetGo (f : Fin 1024) (m : Master) (rivals : List Req)
  /-- FUNC_RESET_DONE (R124). After the drain, the function's resources and bound entries are released, pending assignments are checked and applied, and RESET_DONE is raised. -/
  | funcResetDone (fs : List (Fin 1024))
  /-- ISLAND_COLD_RESET (R85). Master 6 writes ISL_COLDRST with KEY 0x4943, which drains and resets the named island. -/
  | islandColdReset (m : Master) (v : Word) (rivals : List Req)
  /-- COLDRST_DONE (R364). An island cold reset ends, the island restarts, NYC islands are reloaded, and COLDRST_DONE is raised. -/
  | coldrstDone (i : Island)
  /-- LINK_TRAINING_START (R113). Host link training begins, which releases WAKE#. -/
  | linkTrainingStart
  /-- LINK_UP (R90). The link reaches L0 with the data link layer active, pending PM_PMEs are sent and SPEED_DOWN is judged. -/
  | linkUp (gen width : Nat)
  /-- CONFIG_WRITE (R91). The host writes configuration space, and unsupported field values keep their previous value. -/
  | configWrite (f : Fin 1024) (field : CfgField) (v : Nat)
  /-- VF_ENABLE (R118). Setting VF Enable acts as a function reset of every VF, which applies their pending assignments. -/
  | vfEnable
  /-- D3HOT_WRITE (R107). The host writes D3hot to a function, which stops fetching and drains its work. -/
  | d3hotWrite (f : Fin 1024)
  /-- D3HOT_ENTERED (R107). The drain ends, ABORTED_POWER completions are written, and the function enters D3hot. -/
  | d3hotEntered (f : Fin 1024)
  /-- D0_WRITE (R108). The host returns a function to D0, which keeps its state and resumes fetching at the next poll. -/
  | d0Write (f : Fin 1024)
  /-- BAR_ACCESS (R97). A host memory request reaches a BAR and is translated through a window, or misses and is counted under R99. -/
  | barAccess (f : Fin 1024) (bar off width : Nat) (wr : Option (BitVec 64)) (poison : Bool)
  /-- READ_COMPLETION (R102). A completion for a host read arrives and is accepted, or is discarded as unexpected, poisoned or late. -/
  | readCompletion (id : Nat) (poison : Bool)
  /-- COMPLETION_TIMEOUT (R103). A host read exceeds the Completion Timeout Value, and its work item ends with HOST_READ_ERROR. -/
  | completionTimeout (id : Nat)
  /-- MSIX_UNMASK (R105). A vector or function is unmasked, or returns to D0, with its PBA bit set, so its message is sent once. -/
  | msixUnmask (f : Fin 1024) (v : Nat)
  /-- L1_ENTRY (R110). The link has been idle for HLNK_L1.IDLE_US, and the unit requests L1. -/
  | l1Entry (sub : Nat)
  /-- LTR_SEND (R111). Busy or idle state changes, and an LTR message is sent, at most one per 100 µs. -/
  | ltrSend
  /-- PME_STATUS_SET (R112). An enabled wake source sets PME_Status, and a PM_PME is sent or WAKE# is asserted. -/
  | pmeStatusSet (src : Nat) (k : Fin 4)
  /-- PME_RESEND (R113). PME_Status stays 1 for 100 ms after its PM_PME, so another PM_PME is sent. -/
  | pmeResend (k : Fin 4)
  /-- FUNC_STALL (R128). A function that has work makes no progress for PERIOD_MS, so it is judged stalled and reported. -/
  | funcStall (f : Fin 1024)
  /-- QUEUE_ENABLE (R134). A write of FUNC_QCMD.ENABLE copies the staged values into the selected queue's context if every check passes. -/
  | queueEnable (f : Fin 1024) (m : Master) (rivals : List Req)
  /-- WQ_DOORBELL (R146). A work-queue doorbell replaces the tail and sets the pending poll, or is coalesced or discarded. -/
  | wqDoorbell (f : Fin 1024) (q : Fin 256) (width : Nat) (v : Word)
  /-- CQ_DOORBELL (R147). A completion-queue doorbell replaces the head and may arm the queue, which sends a message at once if entries stand. -/
  | cqDoorbell (f : Fin 1024) (q : Fin 256) (width : Nat) (v : Word)
  /-- WQ_POLL (R148). An eligible work queue wins the fetch arbiter and reads up to 32 descriptors from its fetch point. -/
  | wqPoll (f : Fin 1024) (q : Fin 256)
  /-- DESCRIPTOR_READ_RETURN (R150). Descriptor read data returns: owned descriptors are taken, and the rest are discarded and counted. -/
  | descriptorReadReturn (id : Nat) (descs : List (List Byte))
  /-- TXD (R139). A transmit frame gathered from TXD descriptors is checked, admitted and handed to its cluster. -/
  | txd (f : Fin 1024) (q : Fin 256) (data : List Byte)
  /-- NOP_DESCRIPTOR (R157). A NOP descriptor finishes OK under its queue kind's rules. -/
  | nopDescriptor (f : Fin 1024) (q : Fin 256)
  /-- COMPLETION_WRITE (R154). A finished batch, frame or operation has its completion entry written once its completion queue has a free entry. -/
  | completionWrite (f : Fin 1024) (q : Fin 256)
  /-- RX_DELIVERY (R155). A frame classified to a receive queue is written into consecutive fetched RXB buffers. -/
  | rxDelivery (f : Fin 1024) (q : Fin 256)
  /-- RX_BUFFER_TIMEOUT (R160). A frame that has waited 1 ms without enough buffers is dropped and counted in FUNC_RX_DISCARD. -/
  | rxBufferTimeout (f : Fin 1024) (q : Fin 256)
  /-- HAM_BURST_REQUEST (R175). A DMA burst asks its channel for all its cells and is re-evaluated every FAB cycle until it is granted. -/
  | hamBurstRequest (f : Fin 1024) (q : Fin 256) (idx cells : Nat)
  /-- HAM_BURST_AGED (R176). A waiting burst passes its class's age limit, which blocks younger smaller grants beyond their minimums. -/
  | hamBurstAged (id : Nat)
  /-- HAM_TRANSFER (R173). A frame queued to another consumer has its cells moved to that consumer's channel, or is dropped. -/
  | hamTransfer (id : Nat) (chan : Nat)
  /-- CELL_RELEASE (R172). The last consumer finishes with a frame, and its cells return to their part. -/
  | cellRelease (id : Nat)
  /-- HAM_SCRUB (R166). A patrol scrub access reads and corrects one Hamper cell. -/
  | hamScrub (errs : Nat) (frame : Option Nat)
  /-- HAM_CHAN_CFG_WRITE (R169). A write to HAM_CHAN_CFG is applied, or is refused with MIN_REFUSED if the sum of minimums would be broken. -/
  | hamChanCfgWrite (i : Fin 19) (m : Master) (v : Word) (rivals : List Req)
  /-- FRAME_INGRESS_DECIDE (R184). At a frame's 64th byte, the port decides its fate, parts and class and reserves its cells. -/
  | frameIngressDecide (p : Fin 4) (head : List Byte) (whole : Bool)
  /-- FRAME_END_CHECK (R185). At a frame's end the MAC checks it, then hands it on, discards it, or delivers it flagged. -/
  | frameEndCheck (id : Nat) (rest : List Byte) (len : Nat) (fcsBad : Bool) (code : Codewords)
  /-- PORT_CFG_WRITE (R180). A write to PORT_CFG is refused with CFG_REFUSED, or retrains the link and is saved to FRAM for ring ports. -/
  | portCfgWrite (p : Fin 4) (m : Master) (v : Word) (rivals : List Req)
  /-- MODULE_CHANGE (R183). A transceiver module is inserted or removed, which takes the link down and raises MODULE_CHANGE. -/
  | moduleChange (p : Fin 4) (present fault : Bool) (info : ModuleInfo)
  /-- LINK_CHANGE (R183). A port link goes up or down, which may flush learned entries and clear STORM_IGNORING at a flap. -/
  | linkChange (p : Fin 4) (lock localFault remoteFault : Bool)
  /-- PAUSE_RX (R191). A received PAUSE or PFC frame sets, restarts or ends pause timers, or is counted and discarded. -/
  | pauseRx (p : Fin 4) (pfc : Bool) (times : List (Fin 8 × BitVec 16))
  /-- PAUSE_TIMER_EXPIRY (R191). A port or priority pause timer expires, and transmission resumes. -/
  | pauseTimerExpiry (p : Fin 4) (pri : Fin 9)
  /-- PAUSE_XOFF (R192). Held cells reach XOFF, so the port sends a pause frame with QUANTA. -/
  | pauseXoff (p : Fin 4) (pri : Fin 9)
  /-- PAUSE_REPEAT (R192). Half the pause time has passed above XOFF, so the pause frame is repeated. -/
  | pauseRepeat (p : Fin 4) (pri : Fin 9)
  /-- PAUSE_XON (R192). Held cells fall to XON, so the port sends one pause frame with quanta 0. -/
  | pauseXon (p : Fin 4) (pri : Fin 9)
  /-- PAUSE_STORM (R195). A continuous pause exceeds PORT_STORM_LIMIT, which raises PAUSE_STORM and may start ignoring pause. -/
  | pauseStorm (p : Fin 4)
  /-- FLAP (R195). A write of PORT_CTRL.FLAP = 1 holds the link down for 10 ms. -/
  | flap (p : Fin 4) (m : Master) (rivals : List Req)
  /-- STEER_WORD_A_WRITE (R200). A write to word A of a steering rule applies it together with any held word B. -/
  | steerWordAWrite (p : Fin 4) (r : Fin 256) (m : Master) (v : Word) (rivals : List Req)
  /-- STEER_WORD_B_WRITE (R200). A write to word B of a steering rule is held until the next word A write. -/
  | steerWordBWrite (p : Fin 4) (r : Fin 256) (m : Master) (v : Word) (rivals : List Req)
  /-- FRAME_TRANSMIT (R211). An egress frame starts when its combined gate allows it to finish, or is dropped for link down, oversize or no fit. -/
  | frameTransmit (id : Nat)
  /-- PTP_CFG_WRITE (R204). A write of PTP_CFG sets the clock mode and ports, and is ignored whole when CLOCK is 3. -/
  | ptpCfgWrite (m : Master) (v : Word) (rivals : List Req)
  /-- PTP_STEP (R206). A write to PTP_STEP steps the time by the signed value while CLOCK is 0, and raises TIME_STEP. -/
  | ptpStep (m : Master) (v : Word) (rivals : List Req)
  /-- PTP_MESSAGE_RX (R206). A PTP message reaches the stack, and the servo slews or steps the time engine. -/
  | ptpMessageRx (p : Fin 4) (role : Fin 4) (offset : Int)
  /-- ANNOUNCE_RECEIPT_TIMEOUT (R206). The slave port loses its master, and PTP enters HOLDOVER. -/
  | announceReceiptTimeout
  /-- PTP_TIME_READ (R225). A read of PTP_TIME_NS latches the seconds registers. -/
  | ptpTimeRead (m : Master)
  /-- TXTS_POP (R207). A write of PTP_TXTS_CTL.POP removes the head entry of the timestamp FIFO. -/
  | txtsPop (m : Master) (rivals : List Req)
  /-- GATE_PEG_ADVANCE (R208). A peg's duration ends or a cycle boundary is reached, and the next peg of the gate list comes into force. -/
  | gatePegAdvance (p : Fin 4)
  /-- ARM (R209). A write of GATE_CMD.ARM = 1 arms a list swap at PENDING_BASE or a later cycle. -/
  | arm (p : Fin 4) (m : Master) (rivals : List Req)
  /-- DISARM (R209). A write of GATE_CMD.DISARM = 1 cancels an armed swap. -/
  | disarm (p : Fin 4) (m : Master) (rivals : List Req)
  /-- GATE_SWAP (R209). At the swap instant, the pending list becomes active and ARMED clears. -/
  | gateSwap (p : Fin 4)
  /-- GATE_PEG_DATA_ACCESS (R210). An access to GATE_PEG_DATA or GATE_PEG_ACT reaches the peg at GATE_PEG_IDX and advances the index. -/
  | gatePegDataAccess (p : Fin 4) (m : Master) (active : Bool) (wr : Option Word) (rivals : List Req)
  /-- RING_CFG_WRITE (R214). A write of RING_CFG is applied and saved, or is refused with CFG_REFUSED when the ring port speeds differ. -/
  | ringCfgWrite (m : Master) (v : Word) (rivals : List Req)
  /-- HSR_SUPERVISION_TX (R214). Every INTERVAL_MS, the node sends HSR supervision frames. -/
  | hsrSupervisionTx
  /-- HSR_RX (R217). A tagged ring frame is removed, discarded as a duplicate, delivered, or forwarded by the pass-through. -/
  | hsrRx (id : Nat)
  /-- DD_ENTRY_EXPIRE (R218). A duplicate-discard entry leaves the table 400 ms after it was made. -/
  | ddEntryExpire (prp : Bool)
  /-- PRP_RX (R221). A frame on the PRP pair is delivered with its trailer removed, or is discarded as a duplicate. -/
  | prpRx (id : Nat)
  /-- RING_OPEN (R220). A node's supervision frames arrive on only one ring port for 3 × INTERVAL_MS, which raises RING_OPEN. -/
  | ringOpen (node : BitVec 48)
  /-- RING_CLOSED (R220). Supervision frames arrive on both ports again, which raises RING_CLOSED. -/
  | ringClosed (node : BitVec 48)
  /-- MAC_LEARN (R236). A learning request for a frame's source address refreshes, moves or inserts a learned MAC entry. -/
  | macLearn (p : Fin 4) (vid : BitVec 12) (src : BitVec 48)
  /-- AGEING_TICK (R237). Every TICK_S seconds, an ageing walk clears HIT, decrements AGE and deletes expired entries. -/
  | ageingTick
  /-- SEARCH (R239). The TBL command SEARCH finds the valid entry with the staged key. -/
  | tblSearch (m : Master) (v : Word) (rivals : List Req)
  /-- NEXT (R239). The TBL command NEXT returns the first valid entry at or after TBL_INDEX, optionally filtered. -/
  | tblNext (m : Master) (v : Word) (rivals : List Req)
  /-- INSERT (R239). The TBL command INSERT writes the staged entry, subject to quota, binding and key checks. -/
  | tblInsert (m : Master) (v : Word) (rivals : List Req)
  /-- DELETE (R239). The TBL command DELETE clears the entry that SEARCH would find. -/
  | tblDelete (m : Master) (v : Word) (rivals : List Req)
  /-- WRING (R239). The TBL command WRING deletes every MAC and flow entry whose DEST names a port. -/
  | tblWring (m : Master) (v : Word) (rivals : List Req)
  /-- CMD_DONE (R238). A TBL command ends, its status is placed in TBL_RESULT, and CMD_DONE is raised. -/
  | cmdDone
  /-- TBL_DMA_LOCK_WRITE (R242). A write to TBL_DMA_LOCK takes or frees a table's direct-access bit. -/
  | tblDmaLockWrite (m : Master) (v : Word) (rivals : List Req)
  /-- TBL_DMA_START (R243). A write of TBL_DMA_CTL.GO = 1 starts a table DMA transfer, or ends it at once as refused. -/
  | tblDmaStart (m : Master) (v : Word) (rivals : List Req)
  /-- DMA_DONE (R243). A table DMA transfer ends, and DMA_DONE is raised. -/
  | dmaDone (image : List (List Byte)) (hostError : Bool)
  /-- TBL_LOCK_BREAK (R244). A direct-access bit held for 10 ms is broken, and learning resumes. -/
  | tblLockBreak (broken : BrokenLock)
  /-- DARN_VISIT (R247). The darning pass compares one table index with its shadow entry. -/
  | darnVisit (shadow : Option (List Byte))
  /-- DARN_RECHECK (R247). After RECHECK_US, a mismatch is read again and reported to the ring if it is still present. -/
  | darnRecheck (shadow : Option (List Byte))
  /-- TBL_SCRUB (R250). A background scrub access reads and corrects table memory, and invalidates uncorrectable entries. -/
  | tblScrub (table : Fin 4) (idx : Nat) (errs : Nat)
  /-- TUN_ENC_WRITE (R259). TUN_ENC_CMD.WRITE replaces a 128-byte encapsulation record, or is refused. -/
  | tunEncWrite (m : Master) (rivals : List Req)
  /-- TUN_ENC_READ (R259). TUN_ENC_CMD.READ copies a stored encapsulation record into the staging registers. -/
  | tunEncRead (m : Master) (rivals : List Req)
  /-- TUNNEL_DECAP (R260). TUN checks and decapsulates a VXLAN or Geneve frame, or drops it, or hands OAM frames on. -/
  | tunnelDecap (id : Nat) (csumBad : Bool)
  /-- MACSEC_RX_VERIFY (R263). A SecTAG frame is looked up and verified, or dropped, under the port's validation mode. -/
  | macsecRxVerify (id : Nat) (icvOk : Bool) (plain : List Byte)
  /-- ESP_INBOUND (R267). An ESP packet to a receive queue is decrypted and verified under its SA, or delivered unchanged. -/
  | espInbound (id : Nat) (icvOk : Bool) (plain : List Byte)
  /-- PN_WARN (R275). An SA's remaining numbers reach the warning threshold, so STATE becomes 1 and a note is queued. -/
  | pnWarn (sa : BitVec 16)
  /-- SA_EXHAUSTED (R275). PN_MAX is used, so the SA becomes exhausted and a note is queued. -/
  | saExhausted (sa : BitVec 16)
  /-- LOAD (R271). A write of CRY_KEY_CMD.LOAD = 1 loads the staged key and salt into the selected slot, or is refused. -/
  | keyLoad (m : Master) (v : Word) (rivals : List Req)
  /-- KEY_STAGE_TIMEOUT (R271). 1 ms after the last staging write with no LOAD, the key staging registers are set to 0. -/
  | keyStageTimeout
  /-- KEY_SLOT_ZEROISED (R273). After an SA DELETE, once nothing uses it, the key slot is zeroised within 20 µs. -/
  | keySlotZeroised (slot : BitVec 16)
  /-- CRY_NOTE_POP (R275). A write of CRY_NOTE.POP removes the head of the note FIFO. -/
  | cryNotePop (m : Master) (rivals : List Req)
  /-- SEAL (R276). A crypto queue operation with OPCODE 1 encrypts SRC to DST and writes TAG. -/
  | seal (f : Fin 1024) (q : Fin 256) (cipher tag : List Byte)
  /-- OPEN (R276). A crypto queue operation with OPCODE 2 verifies TAG and writes DST only on success. -/
  | cryOpen (f : Fin 1024) (q : Fin 256) (plain : List Byte) (tagOk : Bool)
  /-- STO_CONN_WRITE (R284). STO_CONN_CMD.WRITE stores the staged connection context, or is refused. -/
  | stoConnWrite (m : Master) (rivals : List Req)
  /-- STO_CONN_READ (R284). STO_CONN_CMD.READ copies a connection context into the staging registers. -/
  | stoConnRead (m : Master) (rivals : List Req)
  /-- STO_CONN_OPEN (R286). STO_CONN_CMD.OPEN starts the TCP open and the ICReq exchange of an IDLE or FAILED context. -/
  | stoConnOpen (m : Master) (rivals : List Req)
  /-- STO_CONN_CLOSE (R288). STO_CONN_CMD.CLOSE moves an OPEN connection to CLOSING. -/
  | stoConnClose (m : Master) (rivals : List Req)
  /-- ICRESP_RX (R286). ICResp is received and checked, and the connection becomes OPEN or fails. -/
  | icrespRx (conn : Fin 4096) (pfv cpda : BitVec 8) (hdgst ddgst : Bool) (maxh2c : Word)
  /-- STO_OPEN_TIMEOUT (R286). An open that has not succeeded within 10 s fails with TCP_TIMEOUT. -/
  | stoOpenTimeout (conn : Fin 4096)
  /-- CLOSE_WAIT_END (R288). When OPEN_CMDS reaches 0, or after 1 s, a closing connection ends with FIN or RST and becomes IDLE. -/
  | closeWaitEnd (conn : Fin 4096)
  /-- FIN_ACK_TIMEOUT (R287). A FIN not acknowledged within 100 ms is followed by RST. -/
  | finAckTimeout (conn : Fin 4096)
  /-- TCP_RETRANSMIT_TIMEOUT (R280). The retransmission timer expires, and the segment is resent, or the connection fails once RETRIES is exhausted. -/
  | tcpRetransmitTimeout (conn : Fin 4096)
  /-- TCP_SEGMENT_RX (R282). A TCP segment of a connection is received, and out-of-order segments are held in STO cells. -/
  | tcpSegmentRx (conn : Fin 4096) (seq len : Nat) (pduOk hdrOk : Bool)
  /-- RST_RX (R287). A received RST fails the connection with TCP_REFUSED or PEER_RESET. -/
  | rstRx (conn : Fin 4096)
  /-- FIN_RX (R287). A received FIN fails the connection with PEER_CLOSED. -/
  | finRx (conn : Fin 4096)
  /-- C2HTERMREQ_RX (R287). A received C2HTermReq fails the connection with TARGET_TERM. -/
  | c2htermreqRx (conn : Fin 4096) (fes : BitVec 8)
  /-- STO_OP_START (R291). A storage operation starts once fewer than MAXCMD commands are open, and its command capsule is sent. -/
  | stoOpStart (f : Fin 1024) (q : Fin 256) (sqe : List Byte)
  /-- C2HDATA_RX (R294). C2HData is placed into host buffers at its offset, and its data digest is checked at the end of the PDU. -/
  | c2hdataRx (conn : Fin 4096) (cid off : Nat) (data : List Byte) (pduEnd digestOk lastOk : Bool)
  /-- CAPSULERESP_RX (R292). A CapsuleResp completes its operation: the CQE is written to RESP and an entry is written. -/
  | capsulerespRx (conn : Fin 4096) (cid : Nat) (cqe : List Byte)
  /-- STO_CMD_TIMEOUT (R289). An operation open for TIMEOUT_S seconds fails its connection with CMD_TIMEOUT. -/
  | stoCmdTimeout (conn : Fin 4096) (cid : Nat)
  /-- FRAME_DISPATCH (R306). A frame enters a cluster's dispatch class and is given to a waiting thread, or is dropped when the queue is full. -/
  | frameDispatch (id : Nat)
  /-- WINDOW_ROOM (R307). The cluster window gains room, so a thread parked on WINDOW maps its frame. -/
  | windowRoom (c : Fin 8) (t : Fin 128)
  /-- ORDER_GATE_RELEASE (R308). An emitted frame leaves the cluster once every earlier frame of its gate has left. -/
  | orderGateRelease (id : Nat)
  /-- HOLD_LIMIT (R309). A thread that holds a frame longer than NYC_HOLD.US faults with HOLD_LIMIT. -/
  | holdLimit (c : Fin 8) (t : Fin 128) (us : Nat)
  /-- TABLE_ANSWER (R336). The table engine answers a thread's TREQ, writes back its block and status, and makes the thread runnable. -/
  | tableAnswer (c : Fin 8)
  /-- ENGINE_ACCEPT (R335). The first engine accepts a frame handed over by ENG, and the thread becomes runnable. -/
  | engineAccept (id : Nat)
  /-- SLEEP_EXPIRY (R305). A thread's timed wait expires, and it becomes runnable. -/
  | sleepExpiry (c : Fin 8) (t : Fin 128)
  /-- NYC_LOAD_START (R313). A write of NYC_LOAD_CTL.GO = 1 reads a program image by DMA into a core, or is refused. -/
  | nycLoadStart (c : Fin 8) (m : Master) (v : Word) (rivals : List Req)
  /-- LOAD_DONE (R313). A program load ends, with its state in NYC_LOAD_STAT, and LOAD_DONE is raised. -/
  | loadDone (c : Fin 8) (image : List Byte) (sigOk hostError : Bool)
  /-- START (R315). The thread command START clears an IDLE thread and makes it runnable at ENTRY. -/
  | thStart (c : Fin 8) (m : Master) (rivals : List Req)
  /-- STOP (R315). The thread command STOP makes a thread IDLE and drops its frames. -/
  | thStop (c : Fin 8) (m : Master) (rivals : List Req)
  /-- RESTART (R315). The thread command RESTART, written by the supervisor, restarts another thread of its cluster at ENTRY. -/
  | thRestart (c : Fin 8) (m : Master) (rivals : List Req)
  /-- FLT_POP (R317). A write of NYC_CMD.FLT_POP = 1 removes the oldest fault record. -/
  | fltPop (c : Fin 8) (m : Master) (rivals : List Req)
  /-- RESUME (R320). A write of NYC_CMD.RESUME = 1 by an overseer resumes a cluster halted with cause 1. -/
  | resume (c : Fin 8) (m : Master) (rivals : List Req)
  /-- NYC_HP_WRITE (R301). A write of NYC_HP changes a core's high-priority thread from the next slot-ring revolution. -/
  | nycHpWrite (c : Fin 8) (core : Fin 8) (m : Master) (v : Word) (rivals : List Req)
  /-- NOP (R325). The Nyate instruction NOP does nothing. -/
  | nNop (c : Fin 8) (t : Fin 128) (rd ra rb : BitVec 4) (imm : BitVec 18)
  /-- LI (R325). LI loads IMM into n[rd]. -/
  | nLi (c : Fin 8) (t : Fin 128) (rd ra rb : BitVec 4) (imm : BitVec 18)
  /-- ADD (R325). ADD adds two registers and sets Z, N, C and V. -/
  | nAdd (c : Fin 8) (t : Fin 128) (rd ra rb : BitVec 4) (imm : BitVec 18)
  /-- ADDI (R325). ADDI adds IMM to a register and sets Z, N, C and V. -/
  | nAddi (c : Fin 8) (t : Fin 128) (rd ra rb : BitVec 4) (imm : BitVec 18)
  /-- ADC (R325). ADC adds two registers and C. -/
  | nAdc (c : Fin 8) (t : Fin 128) (rd ra rb : BitVec 4) (imm : BitVec 18)
  /-- ADCI (R325). ADCI adds IMM and C to a register. -/
  | nAdci (c : Fin 8) (t : Fin 128) (rd ra rb : BitVec 4) (imm : BitVec 18)
  /-- SUB (R325). SUB subtracts two registers, with C as borrow. -/
  | nSub (c : Fin 8) (t : Fin 128) (rd ra rb : BitVec 4) (imm : BitVec 18)
  /-- SUBI (R325). SUBI subtracts IMM from a register. -/
  | nSubi (c : Fin 8) (t : Fin 128) (rd ra rb : BitVec 4) (imm : BitVec 18)
  /-- SBC (R325). SBC subtracts a register and C. -/
  | nSbc (c : Fin 8) (t : Fin 128) (rd ra rb : BitVec 4) (imm : BitVec 18)
  /-- SBCI (R325). SBCI subtracts IMM and C. -/
  | nSbci (c : Fin 8) (t : Fin 128) (rd ra rb : BitVec 4) (imm : BitVec 18)
  /-- AND (R325). AND forms the bitwise AND of two registers. -/
  | nAnd (c : Fin 8) (t : Fin 128) (rd ra rb : BitVec 4) (imm : BitVec 18)
  /-- ANDI (R325). ANDI forms the bitwise AND of a register and IMM. -/
  | nAndi (c : Fin 8) (t : Fin 128) (rd ra rb : BitVec 4) (imm : BitVec 18)
  /-- OR (R325). OR forms the bitwise OR of two registers. -/
  | nOr (c : Fin 8) (t : Fin 128) (rd ra rb : BitVec 4) (imm : BitVec 18)
  /-- ORI (R325). ORI forms the bitwise OR of a register and IMM. -/
  | nOri (c : Fin 8) (t : Fin 128) (rd ra rb : BitVec 4) (imm : BitVec 18)
  /-- XOR (R325). XOR forms the bitwise XOR of two registers. -/
  | nXor (c : Fin 8) (t : Fin 128) (rd ra rb : BitVec 4) (imm : BitVec 18)
  /-- XORI (R325). XORI forms the bitwise XOR of a register and IMM. -/
  | nXori (c : Fin 8) (t : Fin 128) (rd ra rb : BitVec 4) (imm : BitVec 18)
  /-- CMP (R325). CMP sets flags as SUB of two registers, without writing a result. -/
  | nCmp (c : Fin 8) (t : Fin 128) (rd ra rb : BitVec 4) (imm : BitVec 18)
  /-- CMPI (R325). CMPI sets flags as SUBI, without writing a result. -/
  | nCmpi (c : Fin 8) (t : Fin 128) (rd ra rb : BitVec 4) (imm : BitVec 18)
  /-- SHL (R326). SHL shifts left by a register count. -/
  | nShl (c : Fin 8) (t : Fin 128) (rd ra rb : BitVec 4) (imm : BitVec 18)
  /-- SHLI (R326). SHLI shifts left by IMM. -/
  | nShli (c : Fin 8) (t : Fin 128) (rd ra rb : BitVec 4) (imm : BitVec 18)
  /-- SHR (R326). SHR shifts right, zero-filled, by a register count. -/
  | nShr (c : Fin 8) (t : Fin 128) (rd ra rb : BitVec 4) (imm : BitVec 18)
  /-- SHRI (R326). SHRI shifts right, zero-filled, by IMM. -/
  | nShri (c : Fin 8) (t : Fin 128) (rd ra rb : BitVec 4) (imm : BitVec 18)
  /-- SAR (R326). SAR shifts right, sign-filled, by a register count. -/
  | nSar (c : Fin 8) (t : Fin 128) (rd ra rb : BitVec 4) (imm : BitVec 18)
  /-- SARI (R326). SARI shifts right, sign-filled, by IMM. -/
  | nSari (c : Fin 8) (t : Fin 128) (rd ra rb : BitVec 4) (imm : BitVec 18)
  /-- ROL (R326). ROL rotates left by a register count mod 18. -/
  | nRol (c : Fin 8) (t : Fin 128) (rd ra rb : BitVec 4) (imm : BitVec 18)
  /-- ROLI (R326). ROLI rotates left by IMM mod 18. -/
  | nRoli (c : Fin 8) (t : Fin 128) (rd ra rb : BitVec 4) (imm : BitVec 18)
  /-- ROR (R326). ROR rotates right by a register count mod 18. -/
  | nRor (c : Fin 8) (t : Fin 128) (rd ra rb : BitVec 4) (imm : BitVec 18)
  /-- RORI (R326). RORI rotates right by IMM mod 18. -/
  | nRori (c : Fin 8) (t : Fin 128) (rd ra rb : BitVec 4) (imm : BitVec 18)
  /-- NEG (R327). NEG negates a register, with the edge case of −131,072. -/
  | nNeg (c : Fin 8) (t : Fin 128) (rd ra rb : BitVec 4) (imm : BitVec 18)
  /-- ABS (R327). ABS takes the absolute value, with the edge case of −131,072. -/
  | nAbs (c : Fin 8) (t : Fin 128) (rd ra rb : BitVec 4) (imm : BitVec 18)
  /-- MULU (R325). MULU writes the 36-bit unsigned product to a register pair. -/
  | nMulu (c : Fin 8) (t : Fin 128) (rd ra rb : BitVec 4) (imm : BitVec 18)
  /-- MULS (R325). MULS writes the 36-bit signed product to a register pair. -/
  | nMuls (c : Fin 8) (t : Fin 128) (rd ra rb : BitVec 4) (imm : BitVec 18)
  /-- DIVU (R328). DIVU writes the unsigned quotient and remainder, and handles a zero divisor by TRAP_DZ. -/
  | nDivu (c : Fin 8) (t : Fin 128) (rd ra rb : BitVec 4) (imm : BitVec 18)
  /-- DIVS (R328). DIVS writes the signed truncated quotient and remainder, and handles a zero divisor by TRAP_DZ. -/
  | nDivs (c : Fin 8) (t : Fin 128) (rd ra rb : BitVec 4) (imm : BitVec 18)
  /-- RDSW (R325). RDSW copies SW into a register. -/
  | nRdsw (c : Fin 8) (t : Fin 128) (rd ra rb : BitVec 4) (imm : BitVec 18)
  /-- WRSW (R325). WRSW writes the defined bits of SW from a register. -/
  | nWrsw (c : Fin 8) (t : Fin 128) (rd ra rb : BitVec 4) (imm : BitVec 18)
  /-- LD (R330). LD loads a data-memory word, or faults with DATA_RANGE. -/
  | nLd (c : Fin 8) (t : Fin 128) (rd ra rb : BitVec 4) (imm : BitVec 18)
  /-- ST (R330). ST stores a register to data memory, or faults with DATA_RANGE. -/
  | nSt (c : Fin 8) (t : Fin 128) (rd ra rb : BitVec 4) (imm : BitVec 18)
  /-- LDN (R331). LDN loads a nonet with its stitch bit from a held frame. -/
  | nLdn (c : Fin 8) (t : Fin 128) (rd ra rb : BitVec 4) (imm : BitVec 18)
  /-- LDB (R331). LDB loads a nonet's data byte. -/
  | nLdb (c : Fin 8) (t : Fin 128) (rd ra rb : BitVec 4) (imm : BitVec 18)
  /-- LDW (R331). LDW loads two nonets as one word. -/
  | nLdw (c : Fin 8) (t : Fin 128) (rd ra rb : BitVec 4) (imm : BitVec 18)
  /-- STN (R331). STN stores a nonet with its stitch bit. -/
  | nStn (c : Fin 8) (t : Fin 128) (rd ra rb : BitVec 4) (imm : BitVec 18)
  /-- STB (R331). STB stores a data byte and keeps the stitch bit. -/
  | nStb (c : Fin 8) (t : Fin 128) (rd ra rb : BitVec 4) (imm : BitVec 18)
  /-- STW (R331). STW stores a word as two nonets. -/
  | nStw (c : Fin 8) (t : Fin 128) (rd ra rb : BitVec 4) (imm : BitVec 18)
  /-- STS (R331). STS sets or clears a stitch bit and keeps the data. -/
  | nSts (c : Fin 8) (t : Fin 128) (rd ra rb : BitVec 4) (imm : BitVec 18)
  /-- FSS (R332). FSS finds the next offset that carries a stitch bit, or the frame's length with Z = 1. -/
  | nFss (c : Fin 8) (t : Fin 128) (rd ra rb : BitVec 4) (imm : BitVec 18)
  /-- TAKE (R333). TAKE takes the next frame into a slot, or parks the thread. -/
  | nTake (c : Fin 8) (t : Fin 128) (rd ra rb : BitVec 4) (imm : BitVec 18)
  /-- DROP (R333). DROP drops a held frame and releases its order-gate place. -/
  | nDrop (c : Fin 8) (t : Fin 128) (rd ra rb : BitVec 4) (imm : BitVec 18)
  /-- EMIT (R333). EMIT queues a held frame to a destination code, or faults with DENIED. -/
  | nEmit (c : Fin 8) (t : Fin 128) (rd ra rb : BitVec 4) (imm : BitVec 18)
  /-- GETM (R334). GETM reads a metadata field of a held frame. -/
  | nGetm (c : Fin 8) (t : Fin 128) (rd ra rb : BitVec 4) (imm : BitVec 18)
  /-- SETM (R334). SETM writes a writable metadata field of a held frame. -/
  | nSetm (c : Fin 8) (t : Fin 128) (rd ra rb : BitVec 4) (imm : BitVec 18)
  /-- ADJH (R333). ADJH moves a frame's start, removing nonets or prepending them from headroom. -/
  | nAdjh (c : Fin 8) (t : Fin 128) (rd ra rb : BitVec 4) (imm : BitVec 18)
  /-- ENG (R335). ENG hands a frame to CRY and TUN for the selected operations and parks the thread. -/
  | nEng (c : Fin 8) (t : Fin 128) (rd ra rb : BitVec 4) (imm : BitVec 18)
  /-- TREQ (R336). TREQ issues a table request from a data-memory block and parks the thread. -/
  | nTreq (c : Fin 8) (t : Fin 128) (rd ra rb : BitVec 4) (imm : BitVec 18)
  /-- BR (R329). BR branches when its condition holds. -/
  | nBr (c : Fin 8) (t : Fin 128) (rd ra rb : BitVec 4) (imm : BitVec 18)
  /-- JAL (R329). JAL saves the return address and jumps. -/
  | nJal (c : Fin 8) (t : Fin 128) (rd ra rb : BitVec 4) (imm : BitVec 18)
  /-- JR (R329). JR jumps to the address in a register. -/
  | nJr (c : Fin 8) (t : Fin 128) (rd ra rb : BitVec 4) (imm : BitVec 18)
  /-- SLEEP (R337). SLEEP parks the thread for IMM µs. -/
  | nSleep (c : Fin 8) (t : Fin 128) (rd ra rb : BitVec 4) (imm : BitVec 18)
  /-- TRAP (R337). TRAP faults the thread with cause TRAP. -/
  | nTrap (c : Fin 8) (t : Fin 128) (rd ra rb : BitVec 4) (imm : BitVec 18)
  /-- PGR (R337). PGR lets the supervisor read a register of its NYC page, which may be a lock read. -/
  | nPgr (c : Fin 8) (t : Fin 128) (rd ra rb : BitVec 4) (imm : BitVec 18) (rivals : List Req)
  /-- PGW (R337). PGW lets the supervisor post a write to a register of its NYC page as master 8. -/
  | nPgw (c : Fin 8) (t : Fin 128) (rd ra rb : BitVec 4) (imm : BitVec 18) (rivals : List Req)
  /-- ISL_SLEEP_REQUEST (R355). A write of S1 or S2 to ISL_TARGET starts a drain and sleep entry, or is refused with TARGET_REFUSED. -/
  | islSleepRequest (m : Master) (v : Word) (rivals : List Req)
  /-- ISL_SLEEP_ENTER (R356). After the drain, clamps engage, the clock stops and power is withdrawn to retention or off. -/
  | islSleepEnter (i : Island)
  /-- ISL_RUN_REQUEST (R357). A write of RUN to ISL_TARGET wakes an island in S1, or cold-resets and reloads one in S2. -/
  | islRunRequest (m : Master) (v : Word) (rivals : List Req)
  /-- ISL_WAKE (R357). An enabled wake source acts, and an island in S1 is powered, clocked and unclamped within 20 µs. -/
  | islWake (i : Island) (row : Fin 7)
  /-- WAKE_TIMER_MATCH (R360). PTP time reaches ISL_WAKE_TIME for selected islands, which wakes them or sets the timer latch. -/
  | wakeTimerMatch
  /-- PL_CHANGE_REQUEST (R351). A write to a level field starts a performance-level change, or is held until the current change ends. -/
  | plChangeRequest (pl1 : Bool) (m : Master) (v : Word) (rivals : List Req)
  /-- REGULATOR_STEP (R352). A PMBus VOUT_COMMAND write is acknowledged and POWER_GOOD arrives, so the level change proceeds. -/
  | regulatorStep (mv : Nat)
  /-- REGULATOR_STEP_FAIL (R353). A regulator step misses its 1 ms bound, so the change is reverted and PL_REVERT is raised. -/
  | regulatorStepFail (noAck revertFails : Bool)
  /-- REG_FAULT_SHUTDOWN (R354). POWER_GOOD is still absent 10 ms after REG_FAULT, so every variable island goes to S2. -/
  | regFaultShutdown
  /-- PLL_CHANGE_DONE (R350). An island's PLL relocks to its new frequency, and its multiplexer switches back. -/
  | pllChangeDone
  /-- CLK_SWITCH (R345). The management controller switches an island's multiplexer when the old source is running. -/
  | clkSwitch (i : Fin 16) (pll : Bool)
  /-- MUX_STUCK (R346). A switch that has not completed in 64 reference cycles sets CLK_STUCK and may trigger an automatic cold reset. -/
  | muxStuck (i : Fin 16)
  /-- REF_LOST (R341). The 25 MHz reference fails: MGT and SAF move to fallback, and switchable islands stop. -/
  | refLost
  /-- PLL_UNLOCK (R365). A PLL loses lock, which is counted in CLK_UNLOCKS. -/
  | pllUnlock (i : Fin 16)
  /-- BRIDGE_ACCESS_TIMEOUT (R359). An access not taken by a clockless island within 128 reference cycles is ended from the source side. -/
  | bridgeAccessTimeout (p : Page)
  /-- DRAIN_LIMIT_EXPIRY (R363). DRAIN_LIMIT passes, so work still in flight is ended with ABORTED_POWER and bridges are idled. -/
  | drainLimitExpiry (i : Island)
  /-- MGT_WATCHDOG_EXPIRY (R368). The MGT hardware watchdog expires, which issues a unit reset with MGT kept on the ring. -/
  | mgtWatchdogExpiry
  /-- UP_SEND (R369). The function sends its UP message, which sets UP_FULL. -/
  | upSend (f : Fin 1024) (m : Master) (rivals : List Req)
  /-- UP_ACK (R369). Master 1 acknowledges the UP message, which clears UP_FULL. -/
  | upAck (f : Fin 1024) (m : Master) (rivals : List Req)
  /-- DOWN_SEND (R369). Master 1 sends a DOWN message, which sets DOWN_FULL. -/
  | downSend (f : Fin 1024) (m : Master) (rivals : List Req)
  /-- DOWN_ACK (R369). The function acknowledges the DOWN message. -/
  | downAck (f : Fin 1024) (m : Master) (rivals : List Req)
  /-- MUP_SEND (R369). A PF sends a message to the management controller. -/
  | mupSend (f : Fin 1024) (m : Master) (rivals : List Req)
  /-- MUP_ACK (R369). Master 6 acknowledges the MUP message. -/
  | mupAck (f : Fin 1024) (m : Master) (rivals : List Req)
  /-- MDOWN_SEND (R369). Master 6 sends an MDOWN message to a PF, which may set PME_Status. -/
  | mdownSend (f : Fin 1024) (m : Master) (rivals : List Req)
  /-- MDOWN_ACK (R369). The PF acknowledges the MDOWN message. -/
  | mdownAck (f : Fin 1024) (m : Master) (rivals : List Req)
  /-- TO_SUP_SEND (R371). An overseer sends a message to a cluster supervisor, which also acts as a wake source. -/
  | toSupSend (c : Fin 8) (m : Master) (rivals : List Req)
  /-- TO_SUP_ACK (R371). The supervisor acknowledges the message sent to it. -/
  | toSupAck (c : Fin 8) (m : Master) (rivals : List Req)
  /-- FROM_SUP_SEND (R371). The supervisor sends a message to the overseers. -/
  | fromSupSend (c : Fin 8) (m : Master) (rivals : List Req)
  /-- FROM_SUP_ACK (R371). An overseer acknowledges the supervisor's message. -/
  | fromSupAck (c : Fin 8) (m : Master) (rivals : List Req)
  /-- SENSOR_SAMPLE (R374). A periodic sensor sample is taken, and crossing events such as TEMP_CRIT and RAIL_OUT are judged. -/
  | sensorSample (k : Fin 32) (v w : Nat)
  /-- LID_OPEN (R374). The lid switch opens, which raises LID_OPEN and counts the opening. -/
  | lidOpen
  /-- METER_COVER (R374). The meter-bay cover switch changes, which raises METER_COVER. -/
  | meterCover (opened : Bool)
  /-- LOG_BURST_TIMER (R377). The oldest pending record is 10 s old, so a padded log burst is asked for. -/
  | logBurstTimer
  /-- LOG_REPEAT_WINDOW_END (R378). At the end of the 1 s repeat window, one record carries the count of coalesced repeats. -/
  | logRepeatWindowEnd (p : Page) (bit : Fin 32)
  /-- LOG_READ_SELECT (R393). A write of LOG_READ_SEQ fetches the selected record into LOG_RD. -/
  | logReadSelect (m : Master) (v : Word) (rivals : List Req)
  /-- BEGIN (R383). The image command BEGIN moves the inactive set to WRITING and erases it. -/
  | imgBegin (m : Master) (v : Word) (rivals : List Req)
  /-- WRITE (R383). The image command WRITE writes IMG_LEN bytes at IMG_OFFSET of the set being written. -/
  | imgWrite (m : Master) (v : Word) (data : List Byte) (hostError : Bool) (rivals : List Req)
  /-- VERIFY (R383). The image command VERIFY marks the set VALID or INVALID. -/
  | imgVerify (m : Master) (v : Word) (sigs : List Bool) (rivals : List Req)
  /-- TRIAL (R383). The image command TRIAL names the valid inactive set active on trial. -/
  | imgTrial (m : Master) (v : Word) (rivals : List Req)
  /-- CONFIRM (R383). The image command CONFIRM clears TRIAL and stops the trial timer. -/
  | imgConfirm (m : Master) (v : Word) (rivals : List Req)
  /-- CONFIRM_RAISE (R384). The image command CONFIRM_RAISE confirms and raises the rollback counter to VERSION. -/
  | imgConfirmRaise (m : Master) (v : Word) (rivals : List Req)
  /-- ABORT (R383). The image command ABORT moves a set in WRITING to INVALID. -/
  | imgAbort (m : Master) (v : Word) (rivals : List Req)
  /-- KEYS (R387). The image command KEYS reads a key package by DMA and enrols, replaces or removes a key. -/
  | imgKeys (m : Master) (v : Word) (pkg : List Byte) (sigOk hostError : Bool) (rivals : List Req)
  /-- TRIAL_EXPIRED (R385). The trial timer expires, which issues a unit reset with MGT selected and counts a trial start. -/
  | trialExpired
  /-- KRDS_HANDSHAKE (R388). A DTLS handshake opens a KRDS session with the role of its certificate, or is refused. -/
  | krdsHandshake (id : Nat) (certOk operate : Bool) (peer : Word)
  /-- KRDS_SESSION_TIMEOUT (R389). 300 s without a valid request ends a KRDS session and releases its locks. -/
  | krdsSessionTimeout (id : Nat)
  /-- KRDS_INFO (R391). The KRDS command INFO returns identity, boot and image state. -/
  | krdsInfo (id req : Nat)
  /-- KRDS_READ (R391). The KRDS command READ returns up to 256 registers, never as a lock read. -/
  | krdsRead (id req : Nat) (p : Page) (off count : Nat)
  /-- KRDS_DUMP (R391). The KRDS command DUMP returns a whole page, skipping 0x024. -/
  | krdsDump (id req : Nat) (p : Page)
  /-- KRDS_WRITE (R391). The KRDS command WRITE writes one register as master 12 and returns PG_SEQ and PG_CONFLICT. -/
  | krdsWrite (id req : Nat) (p : Page) (off : BitVec 12) (v : Word) (rivals : List Req)
  /-- KRDS_LOCK (R391). The KRDS command LOCK makes a lock read. -/
  | krdsLock (id req : Nat) (p : Page) (rivals : List Req)
  /-- KRDS_UNLOCK (R391). The KRDS command UNLOCK releases a lock. -/
  | krdsUnlock (id req : Nat) (p : Page) (rivals : List Req)
  /-- KRDS_LOG_READ (R391). The KRDS command LOG_READ returns up to 32 records from a SEQ. -/
  | krdsLogRead (id req : Nat) (seq : Word) (count : Nat)
  /-- KRDS_SENSORS (R391). The KRDS command SENSORS returns fresh sensor reads. -/
  | krdsSensors (id req : Nat)
  /-- KRDS_IMAGE (R391). The KRDS command IMAGE issues an image command with its data. -/
  | krdsImage (id req : Nat) (v : Word) (off : Nat) (data : List Byte) (sigs : List Bool)
  /-- KRDS_UNIT_RESET (R391). The KRDS command UNIT_RESET writes UNIT_RESET. -/
  | krdsUnitReset (id req : Nat) (v : Word) (rivals : List Req)
  /-- KRDS_COLD_RESET (R391). The KRDS command COLD_RESET asks master 6 for an island cold reset. -/
  | krdsColdReset (id req : Nat) (i : Island)
  /-- KRDS_CLK_SWITCH (R391). The KRDS command CLK_SWITCH asks master 6 for a multiplexer switch. -/
  | krdsClkSwitch (id req : Nat) (i : Fin 16) (pll : Bool)
  /-- KRDS_HOST_WAKE (R391). The KRDS command HOST_WAKE acts as the SRC_CMD wake source. -/
  | krdsHostWake (id req : Nat)
  /-- KRDS_MBX_SEND (R391). The KRDS command MBX_SEND places a type 1 notice in a PF's MDOWN direction. -/
  | krdsMbxSend (id req : Nat) (k : Fin 4) (text : List Word)
  /-- KRDS_YEM (R402). The KRDS command YEM runs one Yemor command line as master 12. -/
  | krdsYem (id req : Nat) (line : YemLine) (rivals : List Req)
  /-- KRDS_SAF (R430). The KRDS command SAF carries a safety commissioning request into the safety inbox. -/
  | krdsSaf (id req : Nat) (op : Nat) (off : Nat) (final : Bool) (body sig : List Byte) (slot : Nat)
  /-- KRDS_CLOSE (R391). The KRDS command CLOSE ends the session. -/
  | krdsClose (id req : Nat)
  /-- KRDS_KEYS (R387). The KRDS command KEYS carries one part of a key package. -/
  | krdsKeys (id req : Nat) (off : Nat) (final : Bool) (part : List Byte) (sigOk : Bool)
  /-- CONSOLE_SESSION_START (R395). A carriage return on an idle console starts a Yemor session. -/
  | consoleSessionStart
  /-- CONSOLE_BREAK (R396). A received break ends the console session and releases its locks. -/
  | consoleBreak
  /-- CONSOLE_IDLE_TIMEOUT (R396). IDLE_S seconds without input end the console session. -/
  | consoleIdleTimeout
  /-- YEM_HELP (R399). The Yemor command help lists commands. -/
  | yemHelp
  /-- YEM_INFO (R399). The Yemor command info shows unit identity as KRDS INFO does. -/
  | yemInfo
  /-- YEM_RD (R399). The Yemor command rd reads 1 to 64 registers, never as a lock read. -/
  | yemRd (p : Page) (off count : Nat)
  /-- YEM_DUMP (R399). The Yemor command dump shows a whole page. -/
  | yemDump (p : Page)
  /-- YEM_WR (R398). The Yemor command wr writes one register and judges the outcome from PG_CONFLICT. -/
  | yemWr (p : Page) (off : BitVec 12) (v : Word) (rivals : List Req)
  /-- YEM_LOCK (R399). The Yemor command lock makes a lock read. -/
  | yemLock (p : Page) (rivals : List Req)
  /-- YEM_UNLOCK (R399). The Yemor command unlock releases a lock. -/
  | yemUnlock (p : Page) (rivals : List Req)
  /-- YEM_LOG (R399). The Yemor command log shows decoded log records. -/
  | yemLog (seq : Word) (count : Nat)
  /-- YEM_SENS (R399). The Yemor command sens shows fresh sensor reads. -/
  | yemSens
  /-- YEM_RESET (R399). The Yemor command reset writes UNIT_RESET with KEY 0x4B52. -/
  | yemReset (keepRing selMgt : Bool) (rivals : List Req)
  /-- YEM_COLD (R399). The Yemor command cold asks master 6 for an island cold reset. -/
  | yemCold (i : Island)
  /-- YEM_CLK (R399). The Yemor command clk asks master 6 for a multiplexer switch. -/
  | yemClk (i : Fin 16) (pll : Bool)
  /-- YEM_WAKE (R399). The Yemor command wake acts as the SRC_CMD wake source. -/
  | yemWake
  /-- YEM_TWP (R399). The Yemor command twp shows the TWP page decoded. -/
  | yemTwp
  /-- YEM_BYE (R396). The Yemor command bye ends the session and releases master 7's locks. -/
  | yemBye
  /-- RINFO (R403). The recovery command rinfo reports each set's state and the cause of its failure. -/
  | rinfo
  /-- RLOAD (R403). The recovery command rload receives a package by XMODEM, writes it to a set and verifies it. -/
  | rload (setB : Bool)
  /-- XMODEM_BLOCK (R403). An XMODEM block arrives and is written, or is answered NAK while a burst is refused. -/
  | xmodemBlock (num : Nat) (data : List Byte) (crcOk final : Bool) (sigs : List Bool)
  /-- RBOOT (R403). The recovery command rboot starts a unit reset with MGT after a successful rload. -/
  | rboot
  /-- TWP_TRANSACTION (R405). An I²C transaction addressed to the port sets or continues the pointer. -/
  | twpTransaction (addr : BitVec 7) (read : Bool) (ptr : Option (BitVec 16))
  /-- TWP_REGISTER_FETCH (R407). A read of a register's first byte fetches the whole register, which may be a lock read. -/
  | twpRegisterFetch (rivals : List Req)
  /-- TWP_REGISTER_WRITE (R407). Bytes 0 to 3 of one register arriving in order issue one master-11 write, and partial writes are counted. -/
  | twpRegisterWrite (bytes : List Byte) (rivals : List Req)
  /-- STRETCH_CUT (R408). A stretch reaching 25 ms performs the two-wire self-reset. -/
  | stretchCut
  /-- BUS_HELD (R409). SCL or SDA held low by another device for 35 ms raises BUS_HELD. -/
  | busHeld
  /-- BUS_FREE (R409). Both lines high for 1 ms raise BUS_FREE. -/
  | busFree
  /-- TWP_SUMMARY_REFRESH (R411). Every 100 ms, the two-wire summary registers are refreshed. -/
  | twpSummaryRefresh
  /-- SAF_PUBLISH (R414). SAF publishes SAF.0 every 1 ms, or within 100 µs of a change of cause or output. -/
  | safPublish
  /-- SAF_START (R431). SAF ends its self-test, loads its parameter block, sets START and begins telegram cycles. -/
  | safStart (copies : List (List Byte × Nat))
  /-- ESTOP_INPUT_CHANGE (R417). A debounced ESTOP input becomes active or inactive, which sets ESTOP. -/
  | estopInputChange (inB active quiet : Bool)
  /-- ESTOP_RAW_CHANGE (R415). A raw change on an input is counted, and a fifth change within 100 ms sets CHATTER. -/
  | estopRawChange (inB high : Bool) (recent : Nat)
  /-- DISCREPANCY (R415). ESTOP_A and ESTOP_B differ for more than 100 ms, which sets DISCREPANCY. -/
  | discrepancy
  /-- LOCAL_RESET (R418). RESET_IN goes low after 100 ms to 5 s high, which gives a local release held to the end of the cycle. -/
  | localReset (ms : Nat)
  /-- ENROLL_CONFIRMATION (R418). A RESET_IN high of 10 to 20 s during a pending ENROLL confirms the enrolment. -/
  | enrollConfirmation (sec : Nat)
  /-- KPT_RX (R421). SAF judges a KPT frame against the telegram checks and discards it or acts on its command. -/
  | kptRx (id : Nat)
  /-- HEARTBEAT (R423). An accepted HEARTBEAT restarts the peer's watchdog. -/
  | heartbeat (tel : List Byte)
  /-- STOP_TELEGRAM (R424). An accepted STOP sets TELEGRAM_STOP and opens SAFE_OUT at once. -/
  | stopTelegram (tel : List Byte)
  /-- RELEASE (R424). An accepted RELEASE is held to the end of the current telegram cycle. -/
  | release (tel : List Byte)
  /-- DYING_GASP (R423). An accepted DYING_GASP is logged in SAF_LAST_GASP and raises GASP_RX. -/
  | dyingGasp (tel : List Byte)
  /-- TELEGRAM_CYCLE_END (R422). At each cycle boundary, held releases act or are dropped and telegrams are sent to each peer. -/
  | telegramCycleEnd
  /-- KPT_WATCHDOG_EXPIRY (R423). A WATCHED peer is silent longer than WDOG_MS, which sets WATCHDOG. -/
  | kptWatchdogExpiry (k : Fin 8)
  /-- SAFE_OUT_TEST (R416). Every 5 s, each switch of SAFE_OUT is opened briefly and read back, and a failure sets OUTPUT_FAULT. -/
  | safeOutTest (ok : Bool)
  /-- OUT_SUPPLY_LOW (R415). SAF_24V falls below 19.2 V, which sets OUT_SUPPLY. -/
  | outSupplyLow (mv : Nat)
  /-- OUT_SUPPLY_RESTORED (R415). SAF_24V at or above 20.4 V for 100 ms clears OUT_SUPPLY. -/
  | outSupplyRestored (mv : Nat)
  /-- SAF_INTERNAL_FAULT (R432). A lockstep mismatch, memory error or self-test failure opens SAFE_OUT and starts a safety restart. -/
  | safInternalFault
  /-- SAF_RESTART_DONE (R432). A safety restart ends with RESTART set, or with LOCKOUT on the third within 24 h. -/
  | safRestartDone (within : Nat)
  /-- ENROLL (R426). The safety request ENROLL names a slot and a key and waits for the RESET_IN confirmation. -/
  | enroll (slot : Nat) (key : List Byte) (seq : BitVec 16)
  /-- ENROLL_TIMEOUT (R426). No confirmation within 60 s refuses the ENROLL with REASON 6. -/
  | enrollTimeout
  /-- PROPOSE (R427). The safety request PROPOSE verifies a block and its first signature and publishes SAF_PEND_CRC. -/
  | propose (block : List Byte) (slot : Nat) (sigOk : Bool) (seq : BitVec 16)
  /-- SAF_CONFIRM (R429). The safety request CONFIRM, with the other slot's signature, applies the block, opens SAFE_OUT and arms the safety lists. -/
  | safConfirm (slot : Nat) (sigOk : Bool) (seq : BitVec 16)
  /-- CANCEL (R427). The safety request CANCEL discards a pending proposal. -/
  | cancel (seq : BitVec 16)
  /-- STATUS (R428). The safety request STATUS returns SAF_COMM, SAF_KEYS and SAF_PEND_CRC and changes nothing. -/
  | safStatus (session : Nat)
  /-- PROPOSAL_EXPIRY (R427). A proposal not confirmed within 1 h goes to STATE 5, EXPIRED. -/
  | proposalExpiry
  /-- CALIBRATION_SLOT (R439). A 10 s calibration slot swaps channel 0 in and calibrates a channel, which may set MEAS_FAULT. -/
  | calibrationSlot (ppmMoved : Nat) (matched : Bool)
  /-- ENERGY_INTEGRATE (R440). Each second, the meter integrates the three-phase totals into the six energy registers. -/
  | energyIntegrate (p q : Int) (volts amps : List Nat)
  /-- INTERVAL_RECORD (R443). At each period boundary, the meter creates, signs and places an interval record. -/
  | intervalRecord
  /-- DAILY_RECORD (R443). At 00:00:00 UTC, the meter creates a daily record and any pending code 12 entry. -/
  | dailyRecord
  /-- MET_PUBLISH (R448). The meter publishes MET.0 every 1 s and after each placement or answer. -/
  | metPublish
  /-- READ_RECORD (R450). The meter command READ_RECORD places a held record in the ring unchanged. -/
  | readRecord
  /-- TIME_PROPOSAL (R451). The meter command TIME_PROPOSAL slews, steps or refuses meter time. -/
  | timeProposal (ptpNs : Nat) (state : Fin 4)
  /-- PING (R450). The meter command PING copies ARG0 to MET_PING_ECHO. -/
  | ping
  /-- METER_LOST (R449). No meter answer within 1 s clears PENDING and raises METER_LOST. -/
  | meterLost
  /-- METER_SLEW_END (R451). A slew of meter time removes the offset, and SLEWING clears. -/
  | meterSlewEnd
  /-- METER_SUPPLY_LOST (R454). Both mains inputs are lost to the meter, which runs on its own hold-up. -/
  | meterSupplyLost
  /-- METER_HOLDUP_END (R454). After the meter's hold-up, it closes the interval with POWER_FAIL, logs code 1 and keeps only its clock. -/
  | meterHoldupEnd
  /-- METER_SUPPLY_RESTORED (R454). Supply returns to the meter, which logs code 2, and code 11 if the clock was lost, and resumes. -/
  | meterSupplyRestored (seconds : Nat)
  /-- PHASE_LOSS (R444). A phase below 0.8 × Un for 1 s begins or ends a phase loss, with a legal-log entry. -/
  | phaseLoss (phase : Fin 3) (began : Bool)
  /-- TERMINAL_COVER_OPENED (R456). Opening or closing the sealed meter cover makes a code 6 or code 7 entry. -/
  | terminalCoverOpened (opened : Bool)
  /-- DISPLAY_BUTTON (R455). A press of the scroll button advances the display, and a 3 s hold shows every segment. -/
  | displayButton (held3s : Bool)
  /-- DISPLAY_TIMEOUT (R455). 60 s without a press returns the display to A−. -/
  | displayTimeout
  /-- METER_MODULE_REPLACE (R457). The KMC-3 module is removed and a new one fitted while the rest of the unit runs. -/
  | meterModuleReplace (id fw : Nat) (pubkey : List Byte)
  /-- INPUT_NOT_GOOD (R50). A present input leaves its R49 rating without meeting a loss condition, for example AC at 270 V, and stops being good at once, which may drop MAINS_GOOD. -/
  | inputNotGood (i : Input) (x : Measure)
  /-- CAPTEST_RETRY (R64). 10 min after both inputs are good again following an aborted capacitance test, the next test attempt starts. -/
  | captestRetry
  /-- PDU_R2T_RX (R291). A received R2T PDU makes STO read write data by DMA and send H2CData PDUs of at most MAXH2CDATA bytes, or fail the connection with PROTOCOL if the R2T exceeds the data length. -/
  | pduR2tRx (conn : Fin 4096) (cid off len : Nat)
  /-- METER_SERVICE_PORT_CHANGE (R444). A sealed setting, such as PERIOD, or the legal firmware is changed through the meter's service port under the seal; the change makes a code 4 or 5 legal-log entry, or is refused when the legal log is full. -/
  | meterServicePortChange (firmware : Bool) (setting old new : Nat)
  /-- METER_CLOCK_BACKUP_EXHAUSTED (R452). While the meter is unsupplied, its clock backup runs out and the real-time clock and the monotonic counter are lost. -/
  | meterClockBackupExhausted
  /-- CLK_MONITOR_WINDOW (R345). At the end of each 8-reference-cycle window, the clock monitor updates every CLK_RUN bit from the edges seen in the last four windows. -/
  | clkMonitorWindow (edges : Word)
  deriving DecidableEq, Repr

end Sys2Proof
end

