-- ==== Sys2Proof/Decode.lean ====
section
/-!
DEFINITION. Decode.lean: the command a word spells by the bits of spec/opcode_table.json. No row of the table has bits, so no word
spells one. The 36-bit words of Nyate instructions (R323) stand in Machine/Operands.lean, where an instruction is issued.
-/
namespace Sys2Proof

/-- The command that a word of `nbits` bits spells: none, since no row of the table gives bits. -/
def decodeTableWord (_nbits _w : Nat) : Option Instr := none

end Sys2Proof
end

