-- ==== Sys2Proof/Config.lean ====
section
/-!
DEFINITION. Config.lean: the values the spec does not let this model compute: results of ciphers and hashes that the unit
only shows or attaches, never branches on. They are opaque constants: nothing can be proved of their values.
-/
namespace Sys2Proof.Config

open Sys2Proof

/-- First 3 bytes of the AES encryption of an all-zero block under a slot's key (R272): key words, whether 256 bits. -/
opaque keyCheck : List Word → Bool → BitVec 24

/-- First 3 bytes of the SHA-384 of an enrolled key's 97 bytes (R394). -/
opaque keyHash : List Byte → BitVec 24

/-- What AES-GCM makes of bytes, its tag behind them (R262, R266): key words, nonce, additional data, plain bytes. -/
opaque gcm : List Word → List Byte → List Byte → List Byte → List Byte

/-- The IV that an ESP packet carries, which RFC 4106 leaves to the sender (R266): by sequence number. -/
opaque espIv : Nat → List Byte

/-- The identification field of an outer IPv4 header, for which the spec gives no rule (R257): the inner bytes. -/
opaque ipId : List Byte → Nat

/-- The frequency correction the servo sets (R204, R206), which the spec does not compute: offset in ns, old correction. -/
opaque servo : Int → Word → Word

/-- A meter record's ECDSA P-256 signature over the SHA-256 of its bytes 0 to 63 (R441), by record number. -/
opaque recordSig : List Byte → List Byte

/-- The first 8 hexadecimal digits of the SHA-256 of the meter's public key (R442). -/
opaque fingerprint : List Byte → Word

/-- The receive-timestamp metadata of a frame that a function sent, which no port timestamped (R334): the frame's number,
even for nanoseconds and odd for seconds. -/
opaque txStamp : Nat → Nat

/-- PCP and DEI of the tag that VLAN_SET adds to an untagged frame, for which the spec gives no rule (R233): the bytes. -/
opaque newTag : List Byte → Nat

/-- WDOG_MS of a dying-gasp telegram, which goes to every peer at once and so to no one pair (R222, R419): the parameter
block. -/
opaque gaspWdog : List Byte → Nat

/-- The operator programs that the body of a TYPE 4 component holds, whose layout the spec does not give (R314, R382). -/
opaque programs : List Byte → List Program

/-- Does a TYPE 4 component verify under an operator signing key, or under the Henoim key where none is enrolled (R72, R382)? Asked
only of a key other than the one it was verified under. -/
opaque programsVerify : List Byte → Option (List Byte) → Bool

end Sys2Proof.Config
end

