-- ==== Sys2Proof/Machine/Bits.lean ====
section
/-!
DEFINITION. Machine/Bits.lean: fields of a register word, counters, byte orders and the three checksums of the spec.
-/
namespace Sys2Proof.Machine

open Sys2Proof

/-- Field [hi:lo] of a register, as a number. -/
def fld (w : Word) (hi lo : Nat) : Nat := w.toNat / 2 ^ lo % 2 ^ (hi + 1 - lo)

/-- A register with field [hi:lo] set to `v`, taken modulo the field. -/
def setFld (w : Word) (hi lo v : Nat) : Word :=
  BitVec.ofNat 32 (w.toNat - fld w hi lo * 2 ^ lo + v % 2 ^ (hi + 1 - lo) * 2 ^ lo)

/-- Bit i of a register. -/
def bitOn (w : Word) (i : Nat) : Bool := w.getLsbD i

/-- A register with bit i set to `b`. -/
def putBit (w : Word) (i : Nat) (b : Bool) : Word := setFld w i i b.toNat

/-- The mask of one bit. -/
def bit (i : Nat) : Word := BitVec.ofNat 32 (2 ^ i)

/-- A number as a register. -/
def word (n : Nat) : Word := BitVec.ofNat 32 n

/-- One more in field [hi:lo], wrapping. -/
def incFld (w : Word) (hi lo : Nat) : Word := setFld w hi lo (fld w hi lo + 1)

/-- One more in field [hi:lo], saturating. -/
def satFld (w : Word) (hi lo : Nat) : Word := setFld w hi lo (min (fld w hi lo + 1) (2 ^ (hi + 1 - lo) - 1))

/-- The nearer limit of a value outside lo..hi. -/
def clamp (lo hi v : Nat) : Nat := if v < lo then lo else if hi < v then hi else v

/-- A register read as a signed number. -/
def sword (w : Word) : Int := w.toInt

/-- `k` bytes of n, least significant first (R5). -/
def leBytes (k n : Nat) : List Byte :=
  match k with
  | 0 => []
  | k + 1 => BitVec.ofNat 8 n :: leBytes k (n / 256)

/-- The number that bytes spell, least significant first (R5). -/
def leNat (b : List Byte) : Nat :=
  match b with
  | [] => 0
  | x :: r => x.toNat + 256 * leNat r

/-- The number that bytes spell in network byte order. -/
def beNat (b : List Byte) : Nat := b.foldl (fun n x => n * 256 + x.toNat) 0

/-- `k` bytes of n in network byte order. -/
def beBytes (k n : Nat) : List Byte := (leBytes k n).reverse

/-- Bytes i to i + n − 1; bytes beyond the end read 0. -/
def slice (b : List Byte) (i n : Nat) : List Byte :=
  let r := (b.drop i).take n
  r ++ List.replicate (n - r.length) 0

/-- The first n bytes, 0 beyond the end: as many as asked for, whatever the bytes are. -/
def firstBytes : Nat → List Byte → List Byte
  | 0, _ => []
  | n + 1, b => b.headD 0 :: firstBytes n b.tail

/-- Byte i, 0 beyond the end. -/
def byteAt (b : List Byte) (i : Nat) : Nat := (b.getD i 0).toNat

/-- Little-endian number of bytes i to i + n − 1. -/
def leAt (b : List Byte) (i n : Nat) : Nat := leNat (slice b i n)

/-- Network-order number of bytes i to i + n − 1. -/
def beAt (b : List Byte) (i n : Nat) : Nat := beNat (slice b i n)

/-- `new` written over `b` from byte i; `b` is extended with 0 where it is shorter. -/
def splice (b : List Byte) (i : Nat) (new : List Byte) : List Byte :=
  slice b 0 i ++ new ++ b.drop (i + new.length)

/-- Bytes whose reserved bits read 0 (R8): of each byte listed, the bits of its mask are kept. -/
def keepBits (masks : List (Nat × Nat)) (b : List Byte) : List Byte :=
  masks.foldl (fun e x => splice e x.1 [BitVec.ofNat 8 (byteAt e x.1 &&& x.2)]) b

/-- The bits of a DEST that its TYPE gives a meaning (R228). -/
def destBits (d : Nat) : Nat :=
  match d / 2 ^ 29 % 8 with
  | 0 | 4 => 0xE0000000
  | 1 => 0xE0000007
  | 2 => 0xEFFFFC00
  | _ => 0xFFFFFFFF

/-- Bytes whose DEST at byte i reads 0 in the bits its TYPE calls reserved (R8, R228). -/
def keepDest (i : Nat) (b : List Byte) : List Byte := splice b i (leBytes 4 (leAt b i 4 &&& destBits (leAt b i 4)))

/-- Bit i of a number. -/
def nbit (n i : Nat) : Bool := n.testBit i

/-- One reflected CRC step on a byte. -/
def crcReflByte (poly : Nat) (k : Nat) (c : Nat) : Nat :=
  match k with
  | 0 => c
  | k + 1 => crcReflByte poly k (if c % 2 = 1 then (c / 2) ^^^ poly else c / 2)

/-- A reflected 32-bit CRC with initial value and final exclusive-or 0xFFFF_FFFF. -/
def crcRefl (poly : Nat) (b : List Byte) : Nat :=
  (b.foldl (fun c x => crcReflByte poly 8 (c ^^^ x.toNat)) 0xFFFFFFFF) ^^^ 0xFFFFFFFF

/-- CRC-32 of IEEE 802.3, as log and short records carry it (R62, R376). -/
def crc32 (b : List Byte) : Nat := crcRefl 0xEDB88320 b

/-- CRC-32C (R235). -/
def crc32c (b : List Byte) : Nat := crcRefl 0x82F63B78 b

/-- One step of the safety CRC on a byte, most significant bit first. -/
def safCrcByte (k : Nat) (c : Nat) : Nat :=
  match k with
  | 0 => c
  | k + 1 => safCrcByte k (if c.testBit 31 then (c * 2 % 2 ^ 32) ^^^ 0x741B8CD7 else c * 2 % 2 ^ 32)

/-- The safety CRC (R420): polynomial 0x741B_8CD7 in normal form, initial value and final exclusive-or 0xFFFF_FFFF. -/
def safCrc (b : List Byte) : Nat :=
  (b.foldl (fun c x => safCrcByte 8 (c ^^^ (x.toNat * 2 ^ 24))) 0xFFFFFFFF) ^^^ 0xFFFFFFFF

/-- Remove the elements of a list that satisfy p. -/
def dropAll {α : Type} (p : α → Bool) (l : List α) : List α := l.filter (fun x => !p x)

/-- Replace element i of a list whose elements beyond the end read `d`. -/
def setAt {α : Type} (d : α) (l : List α) (i : Nat) (x : α) : List α :=
  match l, i with
  | [], 0 => [x]
  | [], i + 1 => d :: setAt d [] i x
  | _ :: r, 0 => x :: r
  | y :: r, i + 1 => y :: setAt d r i x

end Sys2Proof.Machine
end

