-- ==== Sys2Proof/Machine/Sparse.lean ====
section
/-!
DEFINITION. Machine/Sparse.lean: finite maps held as plain data in ONE canonical form.
A map is a list of (key, value) pairs with strictly rising keys. `get`/`set` read and write a map in which an unlisted
key has a default value and no entry equal to that default is listed, so that equal maps are equal lists.
-/
namespace Sys2Proof.Machine

/-- A finite map from numbers, keys strictly rising. -/
abbrev Sparse (α : Type) := List (Nat × α)

variable {α : Type}

/-- The listed value at `k`, if any. -/
def Sparse.find (m : Sparse α) (k : Nat) : Option α :=
  match m with
  | [] => none
  | (j, v) :: r => if j = k then some v else Sparse.find r k

/-- List `v` at `k`, keeping the order. -/
def Sparse.put (m : Sparse α) (k : Nat) (v : α) : Sparse α :=
  match m with
  | [] => [(k, v)]
  | (j, w) :: r => if k < j then (k, v) :: (j, w) :: r else if j = k then (k, v) :: r else (j, w) :: Sparse.put r k v

/-- Unlist `k`. -/
def Sparse.del (m : Sparse α) (k : Nat) : Sparse α := m.filter (fun e => decide (e.1 ≠ k))

/-- The value at `k`, `d` where nothing is listed. -/
def Sparse.get (d : α) (m : Sparse α) (k : Nat) : α := (Sparse.find m k).getD d

/-- Write `v` at `k` in a map whose unlisted value at `k` is `d`: writing `d` unlists the key. -/
def Sparse.set [DecidableEq α] (d : α) (m : Sparse α) (k : Nat) (v : α) : Sparse α :=
  if v = d then Sparse.del m k else Sparse.put m k v

/-- Strictly rising keys, all above `lo`. -/
def Sparse.above (lo : Nat) (m : Sparse α) : Bool :=
  match m with
  | [] => true
  | (j, _) :: r => decide (lo < j) && Sparse.above j r

/-- The canonical order: keys strictly rising. -/
def Sparse.sorted (m : Sparse α) : Bool :=
  match m with
  | [] => true
  | (j, _) :: r => Sparse.above j r

/-- The canonical form of a map with default `d`: sorted, and no entry equal to the default at its key. -/
def Sparse.wf [DecidableEq α] (d : Nat → α) (m : Sparse α) : Bool :=
  Sparse.sorted m && m.all (fun e => !decide (e.2 = d e.1))

/-- Keep the entries whose key satisfies `p`. -/
def Sparse.keep (p : Nat → Bool) (m : Sparse α) : Sparse α := m.filter (fun e => p e.1)

end Sys2Proof.Machine
end

