-- ==== Sys2Proof/Machine/State.lean ====
section
/-!
DEFINITION. Machine/State.lean: everything the spec gives the unit, as plain data, and the state after reset.
Page registers live in one sparse map whose unlisted value is the register's reset value (Machine/RegTable.lean); what
the unit holds beside its registers has a structure of its own below.
-/
namespace Sys2Proof.Machine

open Sys2Proof

/-- Why a command stops. No command of this unit stops on every path; the faults below are the model's own edges. -/
inductive Fault where
  /-- Raised by no meaning of this model: the unit reports a refusal by its registers and goes on (R33). Safe. -/
  | noStop
  deriving DecidableEq, Repr

/-- Why the model gives a command no meaning. -/
inductive Refusal where
  /-- Answered by the dispatch for a command that has no meaning yet. Safe: nothing is claimed of it. -/
  | notModelled (mnemonic : String)
  deriving DecidableEq, Repr

/-! ## The log (R376 to R381) -/

/-- A log record (R376); the CRC of bytes 28 to 31 is computed when the record is read. -/
structure LogRec where
  seq  : Word
  time : Nat
  type : Nat
  code : Nat
  page : Nat
  d0   : Word
  d1   : Word
  d2   : Word
  deriving DecidableEq, Repr

/-- A record of the FRAM tail and whether flash holds it too (R377). -/
structure TailRec where
  entry   : LogRec
  inFlash : Bool
  deriving DecidableEq, Repr

/-- A repeat window of R378: repeats of one page event counted within 1 s of its first record. -/
structure RepWin where
  count : Nat
  deriving DecidableEq, Repr

/-- A short record of R62 (its CRC is computed when read). -/
structure ShortRec where
  reason : Nat
  first  : Word
  last   : Word
  time   : Nat
  gauge  : Nat
  need   : Nat
  pages  : Nat
  mains  : Nat
  deriving DecidableEq, Repr

/-- An admitted flash burst (R60) and whether it suspended an erase or a wear-levelling move (R380). -/
structure FlashBurst where
  kind      : BurstKind
  pages     : Nat
  recs      : Nat
  suspended : Bool
  deriving DecidableEq, Repr

/-- The event log: FRAM tail (at most 512 records, oldest first), the records in flash, the open repeat windows
(keyed by 32 times the page's code plus the bit), a loss still to be recorded, the burst in progress, an erase or move
that mains loss or a log burst suspended, whether the sector of an erase that mains loss cut is marked for re-erase (R56), the short records (at most 64, newest first), the devices that answer and
their spare sectors, and details for records: of the last crossing of each sensor event (keyed 4 × bit + 0, 1, 2), and
the page of the last broken lock (100) and of the last refused write (101). -/
structure LogSt where
  next    : Word
  tail    : List TailRec
  flash   : List LogRec
  wins    : Sparse RepWin
  lost    : Nat
  lostSeq : Word
  burst   : Option FlashBurst
  busyOp  : Option BurstKind
  opHeld  : Bool
  reErase : Bool
  shorts  : List ShortRec
  dev0    : Bool
  dev1    : Bool
  spare0  : Nat
  spare1  : Nat
  sens    : Sparse Word
  deriving DecidableEq, Repr

/-! ## Mains and hold-up (chapter 3) -/

/-- What the unit knows of one mains input (R50): present, good, declared lost since it was last good, disconnected
for overvoltage, and its kind. -/
structure InputSt where
  present : Bool
  good    : Bool
  lost    : Bool
  cut     : Bool
  dc      : Bool
  deriving DecidableEq, Repr

/-- Mains and hold-up: both inputs, the shed step of R56 (0 outside U2), whether the dying gasp has left, PWR_MAINS_STAT and PTP time at mains loss (R222), whether a
burst was refused in U2 (R61), whether a capacitance test runs or waits for its retry (R63, R64), the ns since the last completed
test (R68), and whether MGT has started since the store was last exhausted (R70). -/
structure PwrSt where
  a        : InputSt
  b        : InputSt
  shed     : Nat
  gasp     : Bool
  lossStat : Word
  lossTime : Nat
  noBurst  : Bool
  testing  : Bool
  retry    : Bool
  age      : Nat
  started  : Bool
  deriving DecidableEq, Repr

/-! ## Images, keys and boot (R72, R382 to R387) -/

/-- One image set: its IMG_STAT state code, its version, whether every component's signature verified when it was last verified, and
under which operator signing key its TYPE 4 (R382), and the bytes written to it (unwritten bytes of erased flash read 0xFF). -/
structure ImgSet where
  st    : Nat
  ver   : Nat
  sigOk : Bool
  data  : Sparse Byte
  key   : Option (List Byte) := none
  deriving DecidableEq, Repr

/-- The boot record and the image store: the two sets, which is active (`activeB`), trial state, rollback counter,
whether the running firmware was started from a set on trial and its timer is armed, whether the last start fell back,
recovery mode, whether the unit reset in progress selects MGT (R81), whether the boot record's mirror in flash is out of date (R71),
and the offset and bytes of a WRITE whose bursts are not finished (R383). -/
structure BootSt where
  setA      : ImgSet
  setB      : ImgSet
  activeB   : Bool
  trial     : Bool
  tries     : Nat
  rollback  : Nat
  fallback  : Bool
  fromTrial : Bool
  timer     : Bool
  recovery  : Bool
  mgtSel    : Bool
  mirror    : Bool
  write     : Option (Nat × List Byte)
  deriving DecidableEq, Repr

/-- The enrolled keys (R386): bytes of the 97-byte form, COUNT, the part of a package carried over KRDS, and the package of a KEYS
command whose host read has not ended, with the verdict on its signature. -/
structure KeySt where
  opKey  : Option (List Byte)
  anchor : Option (List Byte)
  count  : Nat
  part   : List Byte
  wait   : Option (List Byte × Bool)
  deriving DecidableEq, Repr

/-- What FRAM keeps for a later start besides the log: the ring ports' settings (R181, R215), YEM_CFG (R410), MGT_NET,
MGT_IP and LID_OPENINGS (R367, R392), and UNIT_RESET_STAT (R86). -/
structure FramSt where
  portCfg   : List Word
  yemCfg    : Word
  ringCfg   : Word
  mgtNet    : Word
  mgtIp     : List Word
  lidCount  : Nat
  resetStat : Word
  deriving DecidableEq, Repr

/-! ## Islands, clocks and rails (chapter 16) -/

/-- The state of an island (R342, R356): ACTIVE, of which IDLE is the part without work (State.islandWorks), S1 RETAIN and S2 OFF. -/
inductive IslMode where | active | retain | off
  deriving DecidableEq, Repr

/-- How far an island's entry into S1 or S2 has got: waiting for a level change to end, draining (steps 1 and 2 of R356) or in
the edge-loss window that begins at step 3; or draining before an island cold reset. -/
inductive IslEntry where | none | waiting | draining | window | resetting
  deriving DecidableEq, Repr

/-- One island: its state, whether its blocks are initialised, whether it is held in an island cold reset, its sleep
entry and target, the row of R360 of an edge wake latched during steps 1 and 2 (R361; 0 none), and whether its clock has stopped without a clamp
(R346, R359). -/
structure IslSt where
  mode    : IslMode
  ready   : Bool
  cold    : Bool
  entry   : IslEntry
  toOff   : Bool
  latched : Nat
  noClock : Bool
  deriving DecidableEq, Repr

/-- One action of a level change (R349): set a rail to a level, set assist, or move island i to a level (i indexes
the ten variable islands: NYC0 to NYC7, CRY, TUN). -/
inductive LvlStep where
  | sram (pl : Nat)
  | core (pl : Nat)
  | assist (on : Bool)
  | island (i : Nat) (pl : Nat)
  deriving DecidableEq, Repr

/-- A level change in progress: the actions left (head first), the rails already changed with their former levels, the
level fields before the writes that caused it and when it began, and the running levels and assist before it, which a revert
restores (R353). -/
structure LvlChange where
  todo    : List LvlStep
  done    : List LvlStep
  was0    : Word
  was1    : Word
  at0     : Word
  at1     : Word
  levelsWas : List Nat
  assistWas : Bool
  deriving DecidableEq, Repr

/-- Clocks and rails: the monitor's last three windows (R345), the running levels of the ten variable islands (NYC0 to NYC7,
CRY, TUN), memory assist, the level change in progress, the reference lost, the islands whose PLL has lost lock, the islands
whose timer match holds now (R360), and the link state of U1 and U0 as MGT watches it (R360). -/
structure ClkSt where
  wins    : List Word
  levels  : List Nat
  assist  : Bool
  change  : Option LvlChange
  refLost : Bool
  pllLost : Word
  timerMatched : Word
  linkU   : Word
  deriving DecidableEq, Repr

/-! ## The host link, functions and queues (chapters 5 to 7) -/

/-- Device power state of a function (R106, R107). -/
inductive DState where | d0 | entering | enteringThenD0 | d3
  deriving DecidableEq, Repr

/-- Resources of a function in force (R118 to R120). -/
structure Assign where
  wqBase : Nat
  wqCount : Nat
  cqBase : Nat
  cqCount : Nat
  vectors : Nat
  hamMin : Nat
  hamCap : Nat
  qMac : Nat
  qFlow : Nat
  qTun : Nat
  qSa : Nat
  deriving DecidableEq, Repr

/-- The configuration-space fields of a function that the unit acts on. -/
structure FCfg where
  numVFs     : Nat
  vfEnable   : Bool
  maxPayload : Nat
  maxReadReq : Nat
  extTag     : Bool
  tag10      : Bool
  idoReq     : Bool
  idoCpl     : Bool
  cplTimeout : Nat
  msixEnable : Bool
  msixMask   : Bool
  aspmL1     : Bool
  l11        : Bool
  l12        : Bool
  ltrEnable  : Bool
  deriving DecidableEq, Repr

/-- One function: its assignment in force, whether it is in reset and whether R123 started that reset, its power
state, its configuration, whether a host read of its timed out in the present
watchdog period (R128), and whether AER records a Completion Timeout (R103). -/
structure Func where
  asg      : Assign
  inReset  : Bool
  by123    : Bool
  dstate   : DState
  cfg      : FCfg
  timedOut : Bool
  aerTimeout : Bool
  deriving DecidableEq, Repr

/-- PME context of a PF, held in MGT (R109). -/
structure Pme where
  enable : Bool
  status : Bool
  sent   : Bool
  deriving DecidableEq, Repr

/-- An MSI-X table entry: address, data and mask bit. -/
structure Msix where
  addrLo : Word
  addrHi : Word
  data   : Word
  masked : Bool
  deriving DecidableEq, Repr

/-- What an outstanding host read serves. -/
inductive ReadFor where
  /-- The poll of queue q of n descriptors (R148). -/
  | poll (q : Nat) (n : Nat)
  /-- The data of a granted burst, by the burst's number (R175). -/
  | burst (b : Nat)
  /-- The table DMA transfer in progress (R243). -/
  | table
  /-- The shadow entry of the darning pass (R246). -/
  | shadow
  /-- The program load of cluster c (R313). -/
  | program (c : Nat)
  /-- The bytes of an image WRITE (R383). -/
  | image
  /-- A key package (R383, R387). -/
  | keys
  deriving DecidableEq, Repr

/-- A host read that has not ended (R17, R102): its tag in the model, its function, its purpose, the requests still to be issued, by
address and length (R102), the number outstanding, and whether it has ended with an error that what it served has still to take. -/
structure HostRead where
  id  : Nat
  f   : Nat
  use : ReadFor
  want : List (Nat × Nat)
  out : Nat
  failed : Bool
  deriving DecidableEq, Repr

/-- The link states of R79, R110. -/
inductive LinkSt where | down | training | l0 | l1 | l11 | l12
  deriving DecidableEq, Repr

/-- The host link: filtered PERST#, the link state, the generation and width negotiated at the previous training since
the last host link reset, PF0's routing ID (R91), the reads that have not ended and those ended whose completions may still come, the MSI-X table
and pending bits (key 2,048 × f + v), PME of the four PFs, the last latency reported (`busy`), and whether UNIT_READY
is asserted. -/
structure HostSt where
  perst    : Bool
  link     : LinkSt
  lastGen  : Nat
  lastW    : Nat
  rid      : Nat
  nextRead : Nat
  reads    : List HostRead
  ended    : List Nat
  msix     : Sparse Msix
  pba      : List Nat
  pme      : List Pme
  ltrBusy  : Option Bool
  ready    : Bool
  startMs  : Nat
  deriving DecidableEq, Repr

/-- A fetched descriptor not yet covered by an entry: index in the ring, fields of R137, R139 or R141 (`extra` is
bytes 16 to 27 of a version 2 descriptor), whether its work has started (`busy`), the bursts of its operation already read (`part`, on
the EOP descriptor), and its status, RESULT and RXFLAGS once it has finished (R143, R153). While copies of a frame are on
their way its EOP descriptor gathers what became of them: the lowest drop reason (`result`), the lowest engine code
(`eng`), and whether one was delivered (`sent`) (R231, R277). -/
structure Item where
  idx    : Nat
  kind   : Nat
  opcode : Nat
  eop    : Bool
  cb     : Bool
  fence  : Bool
  tag    : Nat
  addr   : Nat
  len    : Nat
  tc     : Nat
  flags  : Nat
  vlan   : Nat
  tun    : Nat
  sa     : Nat
  extra  : List Byte
  busy   : Bool
  part   : Nat
  fin    : Option Nat
  result : Nat
  eng    : Nat
  sent   : Bool
  rxf    : Nat
  deriving DecidableEq, Repr

/-- An enabled work queue: its context (R134) and its fetch state (R146 to R150). `lap` is the phase of the present lap. -/
structure WqSt where
  base   : Nat
  size   : Nat
  kind   : Nat
  v1     : Bool
  spec   : Bool
  cq     : Nat
  poll   : Nat
  fetch  : Nat
  lap    : Bool
  tail   : Nat
  pend   : Bool
  idle   : Bool
  empty  : Nat
  reading : Option Nat
  noisy  : Bool
  aborting : Bool
  items  : List Item
  deriving DecidableEq, Repr

/-- An enabled completion queue (R142, R147). -/
structure CqSt where
  base   : Nat
  size   : Nat
  vector : Nat
  prod   : Nat
  lap    : Bool
  head   : Nat
  armed  : Bool
  deriving DecidableEq, Repr

/-- A completion entry (R142). -/
structure Cqe where
  wq      : Nat
  last    : Nat
  count   : Nat
  tag     : Nat
  result  : Nat
  status  : Nat
  rxflags : Nat
  phase   : Bool
  deriving DecidableEq, Repr

/-- The queues: enabled work queues and completion queues, keyed 256 × f + index, and the fetch arbiter's places (R148): the function
last polled, and per function the queue last polled. -/
structure QueueSt where
  wq    : Sparse WqSt
  cq    : Sparse CqSt
  lastF : Nat
  lastQ : Sparse Nat
  deriving DecidableEq, Repr

/-! ## Hamper, frames, ports and Nyate (chapters 8, 9, 14, 15) -/

/-- The part of the Hamper that holds a frame's cells (R167): a reserve, or a channel of the shared remainder by its
number: 0 to 18 for the fixed channels of R178, 256 + 4 × f + class for a function's channels (R168). -/
inductive Part where | safety | ring | mgt | chan (c : Nat)
  deriving DecidableEq, Repr

/-- Where a frame is. -/
inductive Loc where
  /-- Admitted at port p and not yet checked at its end (R184, R185). -/
  | ingress (p : Nat)
  /-- In the dispatch queue of class k of cluster c (R306). -/
  | dispatch (c k : Nat)
  /-- Dispatched to a thread that waits for window room (R307). -/
  | taking (c t slot : Nat)
  /-- Held by thread t of cluster c in a frame slot (R331). -/
  | held (c t slot : Nat)
  /-- Handed to the engines by thread t of cluster c (128: by the base image): operations left (ENG's bits, R335), whether the first engine has
  accepted it. -/
  | engine (c t ops : Nat) (accepted : Bool)
  /-- Emitted and waiting in its order gate (R308). -/
  | gated (c : Nat)
  /-- Queued to egress port p (0 to 3). -/
  | egress (p : Nat)
  /-- Queued to receive queue q of function f (R155, R160). -/
  | rxq (f q : Nat)
  /-- A tagged ring frame of ring port p, checked and waiting for the pass-through's decision (R217). -/
  | ringIn (p : Nat)
  /-- A frame of uplink p (2 or 3) of the PRP pair, checked and waiting for duplicate discard (R221). -/
  | prpIn (p : Nat)
  /-- A frame of port p that CRY verifies (R263). -/
  | macsec (p : Nat)
  /-- A frame for egress port p that waits for CRY to protect it (R255, R265). -/
  | protect (p : Nat)
  /-- Handed to the management controller, to SAF or to the storage engine. -/
  | mgtIn | safIn | stoIn
  deriving DecidableEq, Repr

/-- A frame in the Hamper: its part and cells, its nonets with their stitch bits, its source, its metadata (R334),
the place in its order gate (`gate`, R308), its destination code, its receive flags, the HSR or PRP sequence number given to it at
egress (`seq`), and where it is. For a function's frame `wq` is the function-relative queue and `last` the index of its
EOP descriptor. Copies of one frame share `group`, and one of them carries its cells (R172). `room` is the headroom used
(R333); `bad` marks an uncorrectable error (R164), `esp` that ESP inbound has judged the frame (R267), `prot` that MACsec has protected it (R265).
`old` is the SA entry under which CRY finishes the frame, where that SA was deleted with the frame inside CRY (R273); `tunNamed` and
`saNamed` are the context and the SA that its TXD named (R270). -/
structure Frame where
  id     : Nat
  part   : Part
  cells  : Nat
  nonets : List Nonet
  func   : Bool
  src    : Nat
  wq     : Nat
  last   : Nat
  dclass : Nat
  tc     : Nat
  pcp    : Nat
  ns     : Nat
  sec    : Nat
  tag    : Nat
  txf    : Nat
  tun    : Nat
  sa     : Nat
  room   : Nat
  gate   : Option Nat
  dest   : Nat
  flags  : Nat
  seq    : Option Nat
  group  : Nat
  bad    : Bool
  esp    : Bool
  loc    : Loc
  prot   : Bool := false
  old    : Option (List Byte) := none
  tunNamed : Option Nat := none
  saNamed  : Option Nat := none
  deriving DecidableEq, Repr

/-- A DMA burst that waits for cells (R175, R176): its channel, cells, class (0 transmit, 1 crypto, 2 storage), the
function, queue and EOP descriptor it serves, whether it is aged, the host buffers it reads, and the connection and command of an
R2T that it answers. The list of bursts is oldest first. -/
structure Burst where
  id    : Nat
  chan  : Nat
  cells : Nat
  cls   : Nat
  f     : Nat
  q     : Nat
  idx   : Nat
  aged  : Bool
  bufs  : List (Nat × Nat)
  op    : Option (Nat × Nat)
  deriving DecidableEq, Repr

/-- The Hamper: cells held by each channel (0 where unlisted) and by each reserve, the waiting bursts, and the granted
bursts of operations that hold cells outside a frame. -/
structure HamSt where
  held   : Sparse Nat
  saf    : Nat
  ring   : Nat
  mgt    : Nat
  bursts : List Burst
  granted : List Burst
  deriving DecidableEq, Repr

/-- A data port: pause timers running (8 stands for link PAUSE, 0 to 7 for priorities), the flags that a pause was
sent and not yet ended (R192), whether a flap or retraining holds the link, whether it is down after having been up, word B of steering rules
held for word A (R200), and the continuous pauses that stand, oldest first, with those among them reported as storms (R195). -/
structure PortSt where
  timers  : List Nat
  xoff    : List Nat
  held    : Bool
  wasUp   : Bool
  wordB   : Sparse Word
  standing : List Nat
  stormed  : List Nat
  deriving DecidableEq, Repr

/-- The states of a thread (R304). -/
inductive ThState where | idle | runnable | parked | halted
  deriving DecidableEq, Repr

/-- A Nyate thread (R299, R310, R322): registers, pc, SW, state, park cause, the frame ids in its four slots, its
binding, and what it waits for (destination register, slot, and whether its table answer is to be discarded). -/
structure Thread where
  regs  : List NWord
  pc    : Nat
  sw    : NWord
  st    : ThState
  park  : Nat
  slots : List (Option Nat)
  code  : Word
  data  : Word
  bind  : Word
  entry : Word
  rd    : Nat
  slot  : Nat
  deriving DecidableEq, Repr

/-- A table request of a thread (R336), in issue order: its thread, IMM, block address in the core's data memory, and
whether its thread was stopped meanwhile, and the NYC_TBIND it was issued under (R310). -/
structure TReq where
  c    : Nat
  t    : Nat
  imm  : Nat
  addr : Nat
  dead : Bool
  bind : Word
  deriving DecidableEq, Repr

/-- A fault record (R317). -/
structure FaultRec where
  w0 : NWord
  w1 : NWord
  w2 : NWord
  w3 : NWord
  deriving DecidableEq, Repr

/-- A cluster beside its threads: its fault queue (oldest first), the next fault sequence number, its halt cause (0
running), and the threads parked with TAKE or WINDOW in the order in which they
parked (R307). -/
structure Cluster where
  faults : List FaultRec
  seq    : NWord
  halt   : Nat
  takers : List Nat
  deriving DecidableEq, Repr

/-- The Nyate side: threads (key 128 × c + 16 × core + thread), clusters, instruction memory (key 32,768 × (8 × c +
core) + address), data memory (key 65,536 × (8 × c + core) + address), outstanding table requests, program loads in progress, and
those of them whose image beyond the header was asked for. -/
structure NyateSt where
  threads  : Sparse Thread
  clusters : Sparse Cluster
  imem     : Sparse Nat
  dmem     : Sparse NWord
  treqs    : List TReq
  loads    : List Nat
  bodies   : List Nat
  deriving DecidableEq, Repr

/-! ## Time, gates and ring (chapter 10) -/

/-- One list of pegs with its base and cycle (R208): the pegs are sparse over 1,024 places whose unlisted word is the
reset word of R224 (0xFFFF_FFFF for peg 0, else 0). -/
structure PegList where
  base  : Nat
  cycle : Nat
  len   : Nat
  pegs  : Sparse Word
  deriving DecidableEq, Repr

/-- A port's gates: the active and pending lists, the swap instant while armed, the bank shown, the peg in force; the
same for the safety list, which SAF enables and swaps (R212). -/
structure GateSt where
  act    : PegList
  pend   : PegList
  armed  : Option Nat
  bank   : Bool
  peg    : Nat
  safOn  : Bool
  saf    : PegList
  safPend : PegList
  safArmed : Option Nat
  safPeg : Nat
  deriving DecidableEq, Repr

/-- An entry of the transmit-timestamp FIFO (R207). -/
structure TxStamp where
  port : Nat
  f    : Nat
  wq   : Nat
  tag  : Nat
  sec  : Nat
  ns   : Nat
  deriving DecidableEq, Repr

/-- The time engine: PTP time in ns (R203), the seconds latched by the last PTP_TIME_NS read, the timestamp FIFO
(head first), PTP messages counted and discarded while CLOCK = 0 (R204), and the fractional ns of the rate correction. -/
structure PtpSt where
  time    : Nat
  latch   : Nat
  fifo    : List TxStamp
  dropped : Nat
  frac    : Int
  deriving DecidableEq, Repr

/-- A duplicate-discard entry (R218): source address and sequence number. -/
structure DdEntry where
  src : Nat
  seq : Nat
  deriving DecidableEq, Repr

/-- The ring and PRP tables, oldest entry first, the PRP sequence number, whether HSR was in effect, and the nodes the
management controller judges open (R220). -/
structure RingSt where
  dd      : List DdEntry
  ddPrp   : List DdEntry
  prpSeq  : Nat
  opened  : List Nat
  suspended : Bool
  deriving DecidableEq, Repr

/-! ## Tables, tunnels and encryption (chapters 11, 12) -/

/-- A table command in progress or ended and not yet reported (R238): its status and count, and the PORT of a WRING, from which no
address is learned meanwhile (R239). -/
structure TblCmd where
  status : Nat
  count  : Nat
  port   : Option Nat
  deriving DecidableEq, Repr

/-- A table DMA transfer in progress (R243). -/
structure TblDma where
  table  : Nat
  toTbl  : Bool
  merge  : Bool
  first  : Nat
  count  : Nat
  addr   : Nat
  m      : Master
  deriving DecidableEq, Repr

/-- A darning recheck in progress (R247). -/
structure Recheck where
  table : Nat
  index : Nat
  deriving DecidableEq, Repr

/-- The table engine: the four tables (entries as their image bytes, all zero where unlisted), the
direct-access holders, the command and transfer in progress, the darning pass: its table, index per table, recheck, whether the
shadow entry was asked for, and report phase; the entries that hold an uncorrectable error no access has read yet (R251), and per
table the cluster last served (R241). -/
structure TblSt where
  mac   : Sparse (List Byte)
  flow  : Sparse (List Byte)
  tun   : Sparse (List Byte)
  sa    : Sparse (List Byte)
  lock  : List (Option Master)
  cmd   : Option TblCmd
  dma   : Option TblDma
  dTab  : Nat
  dIdx  : List Nat
  check : Option Recheck
  asked : Bool
  repLap : Bool
  bad   : List (Nat × Nat)
  turns : List Nat
  deriving DecidableEq, Repr

/-- A key slot (R271): key and salt words, KEY256, whether a zeroisation is pending. No read returns key or salt. -/
structure KeySlot where
  key    : List Word
  salt   : List Word
  k256   : Bool
  loaded : Bool
  wiping : Bool
  deriving DecidableEq, Repr

/-- What CRY keeps of one SA beside its entry: counters and the numbers seen in its replay window (R274). -/
structure SaLive where
  ok   : Word
  icv  : Word
  late : Word
  seen : List Nat
  high : Nat
  deriving DecidableEq, Repr

/-- CRY: key slots, live SA state, the staged key and salt, the result of the last LOAD, and the note FIFO (kind, SA),
head first. -/
structure CrySt where
  slots  : Sparse KeySlot
  live   : Sparse SaLive
  key    : List Word
  salt   : List Word
  result : Nat
  notes  : List (Nat × Nat)
  deriving DecidableEq, Repr

/-- TUN: the encapsulation records, as their 128 image bytes; all zero where unlisted. -/
structure TunSt where
  enc : Sparse (List Byte)
  deriving DecidableEq, Repr

/-! ## Storage (chapter 13) -/

/-- An open storage operation (R290): STO's own command identifier, connection, function, queue, the EOP's index, the
direction, the total length, the response buffer, the host buffers (address, length), the driver's command identifier,
the bytes placed, whether its data digest was wrong, and the data asked for by R2T and not yet read (offset and length). -/
structure StoOp where
  id     : Nat
  conn   : Nat
  f      : Nat
  q      : Nat
  last   : Nat
  dir    : Nat
  total  : Nat
  resp   : Nat
  bufs   : List (Nat × Nat)
  cid    : Nat
  bytes  : Nat
  digest : Bool
  work   : List (Nat × Nat)
  deriving DecidableEq, Repr

/-- STO: the 4,096 contexts as their 128 image bytes (all zero where unlisted), their open operations, the last SQHD per
connection, the next byte expected of a connection's stream, the out-of-order segments held (connection, sequence, length),
the retransmissions of the present segment, and the connections whose FIN is not acknowledged. -/
structure StoSt where
  ctx    : Sparse (List Byte)
  ops    : List StoOp
  sqhd   : Sparse Nat
  expect : Sparse Nat
  oos    : List (Nat × Nat × Nat)
  retry  : Sparse Nat
  finWait : List Nat
  deriving DecidableEq, Repr

/-! ## Management access (chapters 17, 18) -/

/-- A KRDS session (R388 to R390): its role, its peer's IPv4 address, the requests served, and its last 16 request IDs
with their stored responses (status, body words), newest first. -/
structure KrdsSession where
  id      : Nat
  operate : Bool
  peer    : Word
  served  : Nat
  past    : List (Nat × Nat × List Word)
  deriving DecidableEq, Repr

/-- The sensors (R374): the crossings that have not come back inside their limit (temperature t warned t, critical 16 + t,
rail r 32 + r, humidity 48, condensation 49, shock 50), whether TEMP_CRIT stands, and the identity of the module in each cage: vendor
name, part number and serial number, 16 bytes each (R375). -/
structure SensSt where
  crossed : List Nat
  hot     : Bool
  mods    : Sparse (List Byte)
  deriving DecidableEq, Repr

/-- The console: whether a Yemor session exists and the commands it ran; the recovery prompt, whether an rload answered
OK, its target set and the next XMODEM block (R395, R403). -/
structure ConsoleSt where
  open_   : Bool
  served  : Nat
  rloadOk : Bool
  rloadB  : Bool
  loading : Bool
  block   : Nat
  fill    : Nat
  failA   : Nat
  failB   : Nat
  deriving DecidableEq, Repr

/-- The two-wire port (R405 to R409): pointer, the register fetched in the transaction (pointer base and word), whether the port
ignores the bus until the next START after a self-reset, and whether another device holds the bus. -/
structure TwpSt where
  ptr    : Nat
  fetch  : Option (Nat × Word)
  deaf   : Bool
  held   : Bool
  deriving DecidableEq, Repr

/-- Mailbox to the safety partition and the partial PROPOSE that KRDS collects (R430). -/
structure SafBox where
  part : List Byte
  deriving DecidableEq, Repr

/-! ## The safety partition (chapter 19) -/

/-- A peer's live state: last SEQ accepted, whether one was accepted since START, whether its watchdog expired, whether
a STOP of it was accepted in this cycle, consecutive valid telegrams, ms since the last valid telegram. -/
structure PeerSt where
  last    : Word
  any     : Bool
  expired : Bool
  stop    : Bool
  run     : Nat
  ms      : Nat
  deriving DecidableEq, Repr

/-- The safety partition's own state: CAUSE bits, both switches of SAFE_OUT, the supply, the inputs after debounce, RESET_IN,
whether both ESTOP inputs have been inactive for 500 ms, the RELEASE telegrams and local resets held to the end of the cycle,
whether a STOP was accepted in it, the last telegram sequence number, the peers, the parameter block in use (2,048 bytes; none
before the first) and its count, the copies of a block and their counts in SAF's own store (R425, R429), the pending one with its proposing slot, the enrolled keys, the commissioning state, its
reason and AUTH bits, the last request finished, a pending enrolment, restarts, whether SAF has started, whether a safety
restart is under way, and the counters that SAF_PUBLISH shows: telegrams sent, accepted and discarded, the last discard
reason, releases dropped, frames blocked at egress, and the last gasp's source. -/
structure SafSt where
  cause   : BitVec 12
  high    : Bool
  low     : Bool
  supply  : Bool
  actA    : Bool
  actB    : Bool
  rstIn   : Bool
  quiet   : Bool
  heldRel : Nat
  heldLoc : Nat
  anyStop : Bool
  seq     : Word
  peers   : List PeerSt
  block   : List Byte
  count   : Word
  store   : List (List Byte × Nat)
  prop    : List Byte
  propBy  : Nat
  key1    : List Byte
  key2    : List Byte
  comm    : Nat
  reason  : Nat
  auth1   : Bool
  auth2   : Bool
  doneSeq : Nat
  enSlot  : Nat
  enKey   : List Byte
  rest24  : Nat
  restAll : Nat
  started : Bool
  testing : Bool
  sent    : Word
  rxOk    : Word
  rxBad   : Word
  rxLast  : Nat
  dropped : Word
  blocked : Word
  gasp    : Word
  deriving DecidableEq, Repr

/-! ## The meter core (chapter 20) -/

/-- A signed record (R441): number, type, flags, period, firmware, time, module, the eleven payload numbers of its type
(six registers, LOG_COUNT, VMIN; or log index, event code, old and new value), and the 64 signature bytes. -/
structure MetRec where
  recno  : Nat
  type   : Nat
  flags  : Nat
  period : Nat
  fw     : Nat
  time   : Nat
  id     : Nat
  regs   : List Nat
  count  : Nat
  vmin   : Nat
  code   : Nat
  old    : Nat
  new    : Nat
  sig    : List Byte
  deriving DecidableEq, Repr

/-- The meter core: identity and firmware, whether the module is fitted, supplied, on hold-up, measuring, whether its clock
is valid and whether its clock backup ran out while it was unsupplied, meter time (ms), the slew left (ms), the monotonic
counter with its second at the last step (none after a code 11 entry), the period in force and the one that waits, the six
registers in watt-seconds or var-seconds, the flags, the lowest voltage and the start of the interval in progress, the
period and the day (their numbers since 1970) that the last records closed, the archives (newest first), the legal log
(oldest first), counters, the calibration slot and the faulted channels, the phases in loss, the display, the ring
placements (newest first, at most 128), the time of the last code 1 entry, the nominal voltage, what the last proposal
and commands left, the operation in the interface, the measured values, and whether the module answers (R448, R449). -/
structure MeterSt where
  id       : Nat
  fw       : Nat
  fitted   : Bool
  supplied : Bool
  holdup   : Bool
  measuring : Bool
  clockSet : Bool
  backupGone : Bool
  time     : Nat
  slew     : Int
  mono     : Nat
  lastStep : Option Nat
  period   : Nat
  newPeriod : Option Nat
  regs     : List Nat
  flags    : Nat
  vmin     : Nat
  started  : Int
  mark     : Nat
  dayMark  : Nat
  recno    : Nat
  interval : List MetRec
  daily    : List MetRec
  log      : List MetRec
  unlogged : Nat
  pubkey   : List Byte
  slot     : Nat
  faulted  : List Nat
  phase    : List Bool
  item     : Nat
  allSeg   : Bool
  ring     : List MetRec
  placed   : Nat
  downAt   : Nat
  un       : Nat
  refused  : Nat
  offset   : Int
  op       : Nat
  echo     : Word
  done     : Word
  volts    : List Nat
  amps     : List Nat
  pNow     : Int
  qNow     : Int
  answered : Bool
  deriving DecidableEq, Repr

/-! ## What leaves the unit -/

/-- What the unit sends out: the model's own record of it, newest first (DESIGN CHOICE, log entry 3). -/
inductive Out where
  /-- An MSI-X message of function f on vector v with its ID-based Ordering attribute (R100, R105). -/
  | msix (f v : Nat) (ido : Bool)
  /-- A posted write of the unit into host memory by function f, with its ID-based Ordering attribute (R100). -/
  | hostWrite (f addr : Nat) (ido : Bool) (bytes : List Byte)
  /-- A host read issued for function f: address, length in bytes, ID-based Ordering (R100, R102). -/
  | hostRead (f addr len : Nat) (ido : Bool)
  /-- A PM_PME message of PF k, and the level driven onto WAKE# (R113). -/
  | pmPme (k : Nat)
  | wake (driven : Bool)
  /-- An LTR message with this latency in µs (R111). -/
  | ltr (us : Nat)
  /-- The answer to a read: the register bytes returned to a master (R7). -/
  | data (m : Master) (val : Word)
  /-- The completion that takes the answer of a BAR read to the host: its function and its ID-based Ordering attribute (R100). -/
  | completion (f : Nat) (ido : Bool)
  /-- A configuration request answered with Request Retry Status, or a memory request answered as Unsupported Request. -/
  | retryStatus
  | unsupported (f : Nat)
  /-- The notice an event gives the management controller (R46). -/
  | notice (page bit : Nat)
  /-- A frame on the wire of port p in traffic class tc with the sequence number of its HSR tag or PRP trailer (R211,
  R216, R221), and a pause frame with its quanta and priorities. -/
  | wire (p tc : Nat) (seq : Option Nat) (nonets : List Nonet)
  | pause (p quanta prios : Nat)
  /-- An HSR or PRP supervision frame on port p with its sequence number. -/
  | supervision (p seq : Nat)
  /-- A PDU or TCP segment STO sends on a connection: 0 SYN, 1 ICReq, 2 CapsuleCmd, 3 H2CData, 4 H2CTermReq, 5 FIN, 6 RST,
  7 ACK, 8 a retransmission; the bytes of data it carries, and a capsule's SQE as sent (R291) or the fatal error status of an H2CTermReq (R281, R287). -/
  | pdu (conn kind bytes : Nat) (sqe : List Byte)
  /-- A KRDS response (session, request, status, body); a line of the console: its status (0 to 6 in the order of R397; 7 and 8 the
XMODEM answers ACK and NAK) and the values shown. -/
  | krds (session req status : Nat) (body : List Word)
  | console (status : Nat) (vals : List Word)
  /-- A message of the two-wire port's data line: a byte returned. -/
  | twpByte (b : Byte)
  /-- The meter's display item and value (R455). -/
  | display (item : Nat)
  deriving DecidableEq, Repr

/-- The requests of one page cycle held by the bridge of an island that takes no access (R359). -/
structure HeldReq where
  page : Page
  reqs : List Req
  deriving DecidableEq, Repr

/-- A FREEZE snapshot of one page (R42): the captured words by word offset. -/
abbrev Snap := Sparse Word

/-- The unit. `regs` holds every page register by 1,024 × page code + word offset; a register not listed reads its
reset value (Machine/RegTable.lean). `pending` is the queue of commands that wait. -/
structure State where
  regs    : Sparse Word
  locks   : Sparse Master
  snaps   : Sparse Snap
  held    : List HeldReq
  log     : LogSt
  pwr     : PwrSt
  boot    : BootSt
  keys    : KeySt
  fram    : FramSt
  isl     : Sparse IslSt
  clk     : ClkSt
  host    : HostSt
  funcs   : Sparse Func
  queues  : QueueSt
  ham     : HamSt
  frames  : List Frame
  nextId  : Nat
  ports   : Sparse PortSt
  gates   : Sparse GateSt
  ptp     : PtpSt
  ring    : RingSt
  tbl     : TblSt
  cry     : CrySt
  tun     : TunSt
  sto     : StoSt
  nyate   : NyateSt
  krds    : List KrdsSession
  console : ConsoleSt
  twp     : TwpSt
  sens    : SensSt
  safBox  : SafBox
  saf     : SafSt
  meter   : MeterSt
  out     : List Out
  pending : List Instr
  deriving DecidableEq, Repr

/-- An input nothing has been judged of yet: absent (R50). -/
def InputSt.reset : InputSt := { present := false, good := false, lost := false, cut := false, dc := false }

/-- A peer no telegram was accepted from (R421). -/
def PeerSt.reset : PeerSt := { last := 0, any := false, expired := false, stop := false, run := 0, ms := 0 }

/-- The safety partition before its self-test has ended: both switches open (R416), no cause judged yet. -/
def SafSt.reset : SafSt :=
  { cause := 0, high := false, low := false, supply := true, actA := false,
    actB := false, rstIn := false, quiet := false, heldRel := 0, heldLoc := 0,
    anyStop := false, seq := 0, peers := List.replicate 8 PeerSt.reset, block := [], count := 0, store := [], prop := [],
    propBy := 0, key1 := [], key2 := [], comm := 0, reason := 0, auth1 := false, auth2 := false, doneSeq := 0,
    enSlot := 0, enKey := [], rest24 := 0, restAll := 0, started := false, testing := false,
    sent := 0, rxOk := 0, rxBad := 0, rxLast := 0, dropped := 0, blocked := 0, gasp := 0 }

/-- The meter as delivered: PERIOD 15 (R443), nothing counted, unsupplied until an input feeds it (R454); the values the
spec gives no start for are named in log entry 2. -/
def MeterSt.reset : MeterSt :=
  { id := 0, fw := 0, fitted := true, supplied := false, holdup := false, measuring := false, clockSet := true, backupGone := false,
    time := 0, slew := 0, mono := 0, lastStep := none, period := 15, newPeriod := none, regs := [0, 0, 0, 0, 0, 0],
    flags := 0, vmin := 65535, started := 0, mark := 0, dayMark := 0, recno := 0, interval := [], daily := [], log := [], unlogged := 0,
    pubkey := [], slot := 1, faulted := [], phase := [false, false, false], item := 1, allSeg := false, ring := [],
    placed := 0, downAt := 0, un := 0, refused := 0, offset := 0, op := 0, echo := 0, done := 0, volts := [0, 0, 0],
    amps := [0, 0, 0], pNow := 0, qNow := 0, answered := false }

/-- The unit right after reset: every register at its reset value (an empty register map), UNIT_READY released, the host
link down, no mains input present, nothing listed, the queue empty. Values the spec gives none for: log entries 1, 2. -/
def State.reset : State :=
  { regs := [], locks := [], snaps := [], held := [],
    log := { next := 0, tail := [], flash := [], wins := [], lost := 0, lostSeq := 0, burst := none, busyOp := none,
             opHeld := false, reErase := false, shorts := [], dev0 := true, dev1 := true, spare0 := 16, spare1 := 16,
             sens := [] },
    pwr := { a := InputSt.reset, b := InputSt.reset, shed := 0, gasp := false, lossStat := 0, lossTime := 0, noBurst := false, testing := false,
             retry := false, age := 0, started := false },
    boot := { setA := { st := 5, ver := 0, sigOk := true, data := [] },
              setB := { st := 0, ver := 0, sigOk := false, data := [] },
              activeB := false, trial := false, tries := 0, rollback := 0, fallback := false, fromTrial := false,
              timer := false, recovery := false, mgtSel := false, mirror := false, write := none },
    keys := { opKey := none, anchor := none, count := 0, part := [], wait := none },
    fram := { portCfg := [0x63, 0x63], yemCfg := 0x03840001, ringCfg := 1, mgtNet := 0, mgtIp := [0, 0, 0], lidCount := 0,
              resetStat := 0x100 },
    isl := [],
    clk := { wins := [0, 0, 0], levels := List.replicate 10 0, assist := true, change := none, refLost := false,
             pllLost := 0, timerMatched := 0, linkU := 0 },
    host := { perst := true, link := .down, lastGen := 0, lastW := 0, rid := 0, nextRead := 0, reads := [], ended := [],
              msix := [], pba := [], pme := List.replicate 4 { enable := false, status := false, sent := false },
              ltrBusy := none, ready := false, startMs := 0 },
    funcs := [], queues := { wq := [], cq := [], lastF := 1023, lastQ := [] },
    ham := { held := [], saf := 0, ring := 0, mgt := 0, bursts := [], granted := [] },
    frames := [], nextId := 0, ports := [], gates := [],
    ptp := { time := 0, latch := 0, fifo := [], dropped := 0, frac := 0 },
    ring := { dd := [], ddPrp := [], prpSeq := 0, opened := [], suspended := false },
    tbl := { mac := [], flow := [], tun := [], sa := [], lock := [none, none, none, none], cmd := none, dma := none,
             dTab := 0, dIdx := [0, 0, 0], check := none, asked := false, repLap := true, bad := [], turns := [7, 7, 7, 7] },
    cry := { slots := [], live := [], key := List.replicate 8 0, salt := List.replicate 3 0, result := 0, notes := [] },
    tun := { enc := [] },
    sto := { ctx := [], ops := [], sqhd := [], expect := [], oos := [], retry := [], finWait := [] },
    nyate := { threads := [], clusters := [], imem := [], dmem := [], treqs := [], loads := [], bodies := [] },
    krds := [],
    console := { open_ := false, served := 0, rloadOk := false, rloadB := false, loading := false, block := 0,
                 fill := 0, failA := 0, failB := 0 },
    twp := { ptr := 0, fetch := none, deaf := false, held := false },
    sens := { crossed := [], hot := false, mods := [] },
    safBox := { part := [] }, saf := SafSt.reset, meter := MeterSt.reset, out := [], pending := [] }

end Sys2Proof.Machine
end

