-- ==== Sys2Proof/Machine/Pegs.lean ====
section
/-!
DEFINITION. Machine/Pegs.lean: gate lists (R208): their pegs, the parts of a cycle, the part and the peg in force at a PTP time.
-/
namespace Sys2Proof.Machine

open Sys2Proof

/-- The word of peg i in an untouched list (R224). -/
def pegReset (i : Nat) : Word := if i = 0 then 0xFFFFFFFF else 0

/-- Peg i of a list. -/
def PegList.peg (l : PegList) (i : Nat) : Word := Sparse.get (pegReset i) l.pegs i

/-- The parts of one cycle with the mask in force in each: pegs in turn, the last one with DUR > 0 to the cycle's end, all
cut at the cycle's end (R208). `at_` is where the next peg starts. -/
def PegList.partsFrom (l : PegList) (n i at_ : Nat) : List (Nat × Nat × Nat) :=
  match n with
  | 0 => []
  | n + 1 =>
      let w := l.peg i
      let d := fld w 31 8
      if d = 0 ∨ l.cycle ≤ at_ then l.partsFrom n (i + 1) at_
      else (min d (l.cycle - at_), fld w 7 0, i) :: l.partsFrom n (i + 1) (at_ + d)

/-- The last part runs to the cycle's end. -/
def stretch (rest : Nat) (l : List (Nat × Nat × Nat)) : List (Nat × Nat × Nat) :=
  match l with
  | [] => []
  | [(d, m, i)] => [(d + rest, m, i)]
  | x :: r => x :: stretch rest r

/-- One cycle as parts (length, mask, peg). A list whose pegs all have DUR 0 opens nothing (log entry 18). -/
def PegList.parts (l : PegList) : List (Nat × Nat × Nat) :=
  let p := l.partsFrom l.len 0 0
  if p.isEmpty then [(l.cycle, 0, 0)] else stretch (l.cycle - (p.map (·.1)).sum) p

/-- Where in its cycle a list stands at time t. -/
def PegList.phase (l : PegList) (t : Nat) : Nat := (((t : Int) - (l.base : Int)) % (max l.cycle 1 : Nat)).toNat

/-- The part in force at a phase: what is left of it, its mask and its peg. -/
def partAt (l : List (Nat × Nat × Nat)) (ph : Nat) : Nat × Nat × Nat :=
  match l with
  | [] => (1, 0, 0)
  | (d, m, i) :: r => if ph < d then (d - ph, m, i) else partAt r (ph - d)

/-- The part of a list in force at time t. -/
def PegList.at (l : PegList) (t : Nat) : Nat × Nat × Nat := partAt l.parts (l.phase t)

end Sys2Proof.Machine
end

