-- ==== Sys2Proof/Machine/Pages.lean ====
section
/-!
DEFINITION. Machine/Pages.lean: the page map (R465 to R469), the islands' numbers (R340) and the masters' numbers and
ranks (R24).
-/
namespace Sys2Proof

open Sys2Proof.Machine

/-- The island number of R340. -/
def Island.num : Island → Nat
  | .host => 0 | .fab => 1 | .prg => 2 | .pup => 3 | .nyc c => 4 + c.val | .cry => 12 | .tun => 13 | .sto => 14
  | .tbl => 15 | .mgt => 16 | .saf => 17

/-- The island of a number of R340, if there is one. -/
def Island.ofNum (n : Nat) : Option Island :=
  match n with
  | 0 => some .host | 1 => some .fab | 2 => some .prg | 3 => some .pup
  | 4 => some (.nyc 0) | 5 => some (.nyc 1) | 6 => some (.nyc 2) | 7 => some (.nyc 3)
  | 8 => some (.nyc 4) | 9 => some (.nyc 5) | 10 => some (.nyc 6) | 11 => some (.nyc 7)
  | 12 => some .cry | 13 => some .tun | 14 => some .sto | 15 => some .tbl | 16 => some .mgt | 17 => some .saf
  | _ => none

/-- The eight Nyate islands. -/
def Island.nycs : List Island := [.nyc 0, .nyc 1, .nyc 2, .nyc 3, .nyc 4, .nyc 5, .nyc 6, .nyc 7]

/-- The switchable islands, in the order of the start-up timeline (R70, step 4). -/
def Island.switchable : List Island := [.fab, .tbl, .prg, .pup, .host, .cry, .tun, .sto] ++ Island.nycs

/-- The islands that shed step 3 takes to S2 (R56). -/
def Island.shedFirst : List Island := Island.nycs ++ [.cry, .tun, .sto, .tbl, .pup, .host]

/-- The number of a page in a log record and in the register map: its index (R467), or 0x1000 + f and 0x1400 + f for
the pages of function f (R469). -/
def Page.code : Page → Nat
  | .unit => 0 | .prec => 1 | .hlnk => 2 | .hwin => 3 | .wq => 4 | .ham => 5 | .fab => 6
  | .port p => 7 + p.val | .gate p => 11 + p.val
  | .ring => 15 | .ptp => 16 | .swt => 17 | .tbl => 18 | .darn => 19 | .cry => 20 | .tun => 21 | .sto => 22
  | .nyc c => 23 + c.val
  | .isl => 31 | .clk => 32 | .pwr => 33 | .mgt => 34 | .mbxSaf => 35 | .mbxMet => 36 | .log => 37 | .img => 38
  | .saf i => 39 + i.val | .met => 41 | .twp => 42 | .yem => 43
  | .func f => 0x1000 + f.val | .mbx f => 0x1400 + f.val

/-- The page index of PREC (R469): 254 for a FUNC page, 255 for a function mailbox page. -/
def Page.index : Page → Nat
  | .func _ => 254
  | .mbx _ => 255
  | p => p.code

/-- The unit-wide page of an index (R467). -/
def Page.ofIndex (n : Nat) : Option Page :=
  match n with
  | 0 => some .unit | 1 => some .prec | 2 => some .hlnk | 3 => some .hwin | 4 => some .wq | 5 => some .ham
  | 6 => some .fab | 7 => some (.port 0) | 8 => some (.port 1) | 9 => some (.port 2) | 10 => some (.port 3)
  | 11 => some (.gate 0) | 12 => some (.gate 1) | 13 => some (.gate 2) | 14 => some (.gate 3) | 15 => some .ring
  | 16 => some .ptp | 17 => some .swt | 18 => some .tbl | 19 => some .darn | 20 => some .cry | 21 => some .tun
  | 22 => some .sto | 23 => some (.nyc 0) | 24 => some (.nyc 1) | 25 => some (.nyc 2) | 26 => some (.nyc 3)
  | 27 => some (.nyc 4) | 28 => some (.nyc 5) | 29 => some (.nyc 6) | 30 => some (.nyc 7) | 31 => some .isl
  | 32 => some .clk | 33 => some .pwr | 34 => some .mgt | 35 => some .mbxSaf | 36 => some .mbxMet | 37 => some .log
  | 38 => some .img | 39 => some (.saf 0) | 40 => some (.saf 1) | 41 => some .met | 42 => some .twp | 43 => some .yem
  | _ => none

/-- The internal base address of a page (R466, R467). -/
def Page.base : Page → Nat
  | .unit => 0 | .prec => 0x1000 | .hlnk => 0x100000 | .hwin => 0x101000 | .wq => 0x102000 | .ham => 0x200000
  | .fab => 0x201000 | .port p => 0x300000 + 0x1000 * p.val | .gate p => 0x400000 + 0x1000 * p.val
  | .ring => 0x404000 | .ptp => 0x405000 | .swt => 0x500000 | .tbl => 0x501000 | .darn => 0x502000
  | .cry => 0x600000 | .tun => 0x700000 | .sto => 0x800000 | .nyc c => 0x900000 + 0x100000 * c.val
  | .isl => 0x1100000 | .clk => 0x1101000 | .pwr => 0x1102000 | .mgt => 0x1200000 | .mbxSaf => 0x1201000
  | .mbxMet => 0x1202000 | .log => 0x1203000 | .img => 0x1204000 | .saf i => 0x1300000 + 0x1000 * i.val
  | .met => 0x1400000 | .twp => 0x1500000 | .yem => 0x1501000
  | .func f => 0x2000000 + 0x1000 * f.val | .mbx f => 0x2400000 + 0x1000 * f.val

/-- The indices of the unit-wide pages. -/
def Page.indices : List Nat := List.range 44

/-- The page at a 4 KiB-aligned internal address, if one stands there (R466, R467). -/
def Page.ofBase (a : Nat) : Option Page :=
  if a % 0x1000 ≠ 0 then none
  else if 0x2000000 ≤ a ∧ a < 0x2400000 then some (.func (Fin.ofNat 1024 ((a - 0x2000000) / 0x1000)))
  else if 0x2400000 ≤ a ∧ a < 0x2800000 then some (.mbx (Fin.ofNat 1024 ((a - 0x2400000) / 0x1000)))
  else (Page.indices.filterMap Page.ofIndex).find? (fun p => p.base = a)

/-- PG_ID.BLOCK (R466, R467). -/
def Page.block : Page → Nat
  | .unit => 0x0001 | .prec => 0x0002 | .hlnk => 0x0010 | .hwin => 0x0011 | .wq => 0x0012 | .ham => 0x0020
  | .fab => 0x0021 | .port _ => 0x0030 | .gate _ => 0x0031 | .ring => 0x0032 | .ptp => 0x0033 | .swt => 0x0040
  | .tbl => 0x0041 | .darn => 0x0042 | .cry => 0x0050 | .tun => 0x0051 | .sto => 0x0052 | .nyc _ => 0x0060
  | .isl => 0x0070 | .clk => 0x0071 | .pwr => 0x0072 | .mgt => 0x0080 | .mbxSaf => 0x0081 | .mbxMet => 0x0081
  | .log => 0x0082 | .img => 0x0083 | .saf _ => 0x0090 | .met => 0x00A0 | .twp => 0x00B0 | .yem => 0x00B1
  | .func f => 0x0100 + f.val / 256 | .mbx f => 0x0104 + f.val / 256

/-- PG_ID.INST (R466, R467). -/
def Page.inst : Page → Nat
  | .port p => p.val | .gate p => p.val | .nyc c => c.val | .saf i => i.val | .mbxMet => 1
  | .func f => f.val % 256 | .mbx f => f.val % 256
  | _ => 0

/-- The island that holds a page (R466, R467); MET's arbiter stands in MGT (R20). HLNK_WAKE alone is held in MGT. -/
def Page.island : Page → Island
  | .hlnk | .hwin | .wq | .func _ | .mbx _ => .host
  | .ham | .fab | .ptp => .fab
  | .port p | .gate p => if p.val < 2 then .prg else .pup
  | .ring => .prg
  | .swt | .tbl | .darn => .tbl
  | .cry => .cry | .tun => .tun | .sto => .sto
  | .nyc c => .nyc c
  | .saf _ => .saf
  | _ => .mgt

/-- The safety pages (R21). -/
def Page.safety : Page → Bool | .saf _ => true | _ => false
/-- The metering pages (R21). -/
def Page.metering : Page → Bool | .met => true | _ => false
/-- The published pages (R44). -/
def Page.published (p : Page) : Bool := p.safety || p.metering
/-- The pages whose owner is fixed (R29). -/
def Page.fixedOwner : Page → Bool | .saf _ | .met | .func _ | .mbx _ => true | _ => false
/-- PG_CAP.FREEZE_OK: 1 on the PORT pages (R202); 0 elsewhere (log entry 6). -/
def Page.freezeOk : Page → Bool | .port _ => true | _ => false

/-- The master number (R24). -/
def Master.num : Master → Nat
  | .pf0 => 1 | .pf k => 2 + k.val | .vf _ => 5 | .mgt => 6 | .yemor => 7 | .nyate _ => 8 | .saf => 9 | .meter => 10
  | .twp => 11 | .krds => 12

/-- The precedence of R24 with PF1 to PF3 in number order (R26): a smaller number ranks higher. -/
def Master.rank : Master → Nat
  | .saf | .meter => 10 | .mgt => 20 | .krds => 30 | .pf0 => 40 | .nyate _ => 50 | .pf k => 60 + k.val | .vf _ => 70
  | .yemor => 80 | .twp => 90

/-- Masters 6, 12 and 1 (R25). -/
def Master.overseer : Master → Bool | .mgt | .krds | .pf0 => true | _ => false

/-- PG_OWNER.SUB of a master: its VF number or its cluster (R28). -/
def Master.sub : Master → Nat
  | .vf n => n.val + 1
  | .nyate c => c.val
  | _ => 0

/-- The master of a function's own accesses. -/
def Master.ofFunc (f : Fin 1024) : Master :=
  if f.val = 0 then .pf0
  else if f.val < 4 then .pf (Fin.ofNat 3 (f.val - 1))
  else .vf (Fin.ofNat 1020 (f.val - 4))

/-- The reset PG_OWNER of a page (R466, R467): owner, SUB and, on UNIT, SERVICE. -/
def Page.ownerWord (p : Page) : Word :=
  match p with
  | .unit => word 0x20000006
  | .wq | .ham | .port _ | .gate _ | .ring | .ptp | .swt | .tbl | .darn | .cry | .tun | .sto => 1
  | .nyc c => word (8 + c.val * 2 ^ 16)
  | .saf _ => 9
  | .met => 10
  | .func f | .mbx f =>
      if f.val < 4 then word (f.val + 1) else word (5 + (f.val - 3) * 2 ^ 16)
  | _ => 6

end Sys2Proof
end

