-- ==== Sys2Proof/Machine/RegTable.lean ====
section
/-!
DEFINITION. Machine/RegTable.lean: the registers of every page that a write may change or that do not reset to 0, with
their writable bits, write-1-to-clear bits and reset values, and the values stored as the nearer limit.
A register the tables do not list is RO with reset value 0, or reserved (R8).
-/
namespace Sys2Proof.Machine

open Sys2Proof

/-- A run of `n` registers from offset `off`, `step` bytes apart: reset value, RW bits, RW1C bits, PO bits (RW for master 6
alone, R9), SO or MO bits (those of a published page's own master, R9), and whether only an overseer changes them (R98, R117,
R311). -/
structure RegSpec where
  off  : Nat
  n    : Nat := 1
  step : Nat := 4
  rst  : Nat := 0
  rw   : Nat := 0
  w1c  : Nat := 0
  po   : Nat := 0
  so   : Nat := 0
  ovs  : Bool := false
  deriving DecidableEq, Repr

/-- All 32 bits. -/
def all32 : Nat := 0xFFFFFFFF

/-- The common header (R45) but for PG_OWNER, PG_LOCK and PG_CONFLICT, which have rules of their own; FAB's ENABLE is fixed (R468). -/
def headerRegs (p : Page) : List RegSpec :=
  [ { off := 0x008, rw := if p = .fab then 0xFF000000 else 0xFF000001 }, { off := 0x010, w1c := all32 }, { off := 0x014, rw := all32 },
    { off := 0x01C, rst := 3, rw := 0x07FF0007 } ]

/-- The block registers of a page (the register tables of its chapter). -/
def blockRegs : Page → List RegSpec
  | .unit => [ { off := 0x040, rst := 1 }, { off := 0x050, rst := 0x100 } ]
  | .hlnk => [ { off := 0x04C, rst := 0x101, rw := 0x70F }, { off := 0x054, rst := 1000 * 2 ^ 16 + 20, rw := all32 },
               { off := 0x058, rst := 32, rw := 0xFFFF } ]
  | .hwin => [ { off := 0x040, n := 64, rw := 0x8000FFFF }, { off := 0x140, n := 48, rw := 0x800FFFFF, ovs := true } ]
  | .ham => [ { off := 0x054, rst := 1000, rw := 0xFFFF }, { off := 0x058, rst := 1000 * 2 ^ 16 + 1000, rw := all32 },
              { off := 0x080, rw := 0xFFF },
              { off := 0x100, n := 8, step := 8, rst := 16384 * 2 ^ 16 + 256, rw := all32 },
              { off := 0x140, n := 3, step := 8, rst := 16384 * 2 ^ 16 + 512, rw := all32 },
              { off := 0x158, n := 8, step := 8, rst := 8192 * 2 ^ 16 + 256, rw := all32 } ]
  | .port p => [ { off := 0x040, rst := if p.val < 2 then 0x63 else 0x65, rw := 0x7F },
                 { off := 0x044, rst := 9216, rw := 0xFFFF }, { off := 0x050, rw := 0xFFFFC01F },
                 { off := 0x054, rst := 1, rw := 3 }, { off := 0x058, rst := 0xFFFF0000, rw := all32 },
                 { off := 0x05C, rst := 8192 * 2 ^ 16 + 4096, rw := all32 }, { off := 0x060, rst := 500, rw := 0xFFFF },
                 { off := 0x064, rst := 0x76543210, rw := 0x77777777 }, { off := 0x068, rw := 7 },
                 { off := 0x400, n := 128, rw := all32 }, { off := 0x800, n := 256, step := 8, rw := 0xFF807FFF } ]
  | .gate _ => [ { off := 0x040, rw := 1 }, { off := 0x06C, rw := 0x3FF } ]
  | .ring => [ { off := 0x040, rst := 1, rw := 3 }, { off := 0x044, rw := all32 }, { off := 0x048, rw := 0xFFFF },
               { off := 0x04C, rst := 2000, rw := 0xFFFF } ]
  | .ptp => [ { off := 0x040, rst := 0xFF0000, rw := 0xFF03F3 }, { off := 0x058, rw := all32 } ]
  | .swt => [ { off := 0x040, rw := 1 }, { off := 0x044, rst := 10 * 2 ^ 16 + 30, rw := 0xFFFF00FF },
              { off := 0x048, rst := 0x20000002, rw := all32 }, { off := 0x04C, rw := 0x8FFFFC00 },
              { off := 0x050, rst := 4, rw := 0x3F }, { off := 0x060, n := 4, rst := 0x13F0A, rw := 0x0FFF3F1E } ]
  | .tbl => [ { off := 0x044, rw := 0xFFFFF }, { off := 0x048, rw := 0x03FF0007 }, { off := 0x080, n := 16, rw := all32 },
              { off := 0x0C4, n := 2, rw := all32 }, { off := 0x0CC, rw := 0x331FFFFF }, { off := 0x0D0, rw := 0xFFFFF },
              { off := 0x0E0, rw := 0x030FFFFF } ]
  | .darn => [ { off := 0x040, rst := 1000 * 2 ^ 16, rw := 0xFFFF0007 }, { off := 0x044, n := 6, rw := all32 },
               { off := 0x05C, rst := 262144, rw := 0x1FFFFF }, { off := 0x060, rst := 1048576, rw := 0x1FFFFF },
               { off := 0x064, rst := 65536, rw := 0x1FFFFF }, { off := 0x068, n := 2, rw := all32 },
               { off := 0x070, rw := 0xF }, { off := 0x078, rw := 0xFFFF } ]
  | .cry => [ { off := 0x040, n := 4, rw := 0xFFFF001B }, { off := 0x050, n := 8, rw := all32 },
              { off := 0x070, rst := 0x01000000, rw := all32 }, { off := 0x0AC, rw := 0xFFFF }, { off := 0x0C0, rw := 0xFFFF } ]
  | .tun => [ { off := 0x040, rw := 1 }, { off := 0x044, rw := all32 }, { off := 0x048, rw := 0xFFFF },
              { off := 0x080, n := 32, rw := all32 } ]
  | .sto => [ { off := 0x040, rw := 0xFFF }, { off := 0x080, n := 32, rw := all32 } ]
  | .nyc _ => [ { off := 0x048, rst := 0xF, rw := 0x7F, ovs := true }, { off := 0x04C, rst := 1000, rw := 0xFFFF },
                { off := 0x050, n := 8, rw := 0x1F, ovs := true }, { off := 0x070, n := 2, rw := all32 },
                { off := 0x078, rw := 7 }, { off := 0x07C, rw := 0xFFFF7FFF }, { off := 0x090, rw := 0x7F } ]
  | .isl => [ { off := 0x048, rw := 0xFFFFFF }, { off := 0x04C, rst := 0x44444444, rw := 0x77777777 },
              { off := 0x050, rst := 0x44, rw := 0x77 }, { off := 0x058, rst := 100, rw := 0xFFFF },
              { off := 0x068, rw := 0xF8FFF }, { off := 0x070, n := 2, rw := all32 }, { off := 0x078, w1c := 1 } ]
  | .clk => [ { off := 0x044, po := 0xFFFF }, { off := 0x04C, w1c := 0xFFFF }, { off := 0x050, rst := 0x0FF0, rw := 0xFFFF } ]
  | .pwr => [ { off := 0x054, rst := 7690 }, { off := 0x05C, rst := 2000, rw := 0xFFFF }, { off := 0x060, rst := 24, rw := 0xFF } ]
  | .mgt => [ { off := 0x040, rw := 0x0FFF0001 }, { off := 0x044, rw := all32 }, { off := 0x048, rw := 0xFF },
              { off := 0x04C, rw := all32 }, { off := 0x050, rst := 5818, rw := 0xFFFF },
              { off := 0x090, rst := 1050 * 2 ^ 16 + 900, rw := all32 }, { off := 0x0E8, rst := 5000, rw := 0xFFFF } ]
  | .mbxSaf => [ { off := 0x040, po := 0xFFFF }, { off := 0x044, po := 0xF }, { off := 0x100, n := 512, po := all32 },
                 { off := 0x900, n := 24, po := all32 }, { off := 0x960, po := 3 } ]
  | .mbxMet => [ { off := 0x044, n := 2, rw := all32 } ]
  | .log => [ { off := 0x050, rw := all32 } ]
  | .img => [ { off := 0x048, n := 2, rw := all32 }, { off := 0x050, rw := 0x3FFFFFF }, { off := 0x054, rw := 0x1FFFFF },
              { off := 0x05C, rst := 3600, rw := 0xFFFF }, { off := 0x064, rw := 4 } ]
  | .twp => [ { off := 0x040, rst := 0x58 }, { off := 0x044, rst := 0x80000000, rw := 0x80FFFFFF }, { off := 0x048, rst := 0x80001102, rw := 0x80FFFFFF },
              { off := 0x04C, rst := 0x80001200, rw := 0x80FFFFFF }, { off := 0x050, n := 4, rw := 0x80FFFFFF } ]
  | .saf i =>
      if i.val = 1 then [ { off := 0x040, n := 512, so := all32 } ]
      else [ { off := 0x040, so := 0x0FFF000F }, { off := 0x044, so := 7 }, { off := 0x048, so := 0xFF03FFFF },
             { off := 0x04C, n := 3, so := all32 }, { off := 0x058, so := 0xFFFFFF }, { off := 0x05C, so := 3 },
             { off := 0x060, n := 8, so := 0xFFFF0007 }, { off := 0x080, n := 3, so := all32 }, { off := 0x08C, so := 0xF },
             { off := 0x090, n := 3, so := all32 } ]
  | .met => [ { off := 0x040, so := 0xFF00FF0F }, { off := 0x044, n := 5, so := all32 }, { off := 0x058, so := 0xFF0300FF },
              { off := 0x05C, n := 4, so := all32 }, { off := 0x06C, so := 0xFFFF07FF }, { off := 0x070, n := 8, so := all32 },
              { off := 0x090, n := 6, step := 8, so := all32 }, { off := 0x094, n := 6, step := 8, so := 0xFFFF },
              { off := 0x0C0, n := 16, so := all32 } ]
  | .yem => [ { off := 0x040, rst := 900 * 2 ^ 16 + 1, rw := 0xFFFF0001 } ]
  | .func f => [ { off := 0x040, rst := if f.val = 0 then 0x01000000 else 0, rw := 0x01FF7FFF, ovs := true },
                 { off := 0x044, rst := if f.val = 0 then 0x01000000 else 0, rw := 0x01FF1FFF, ovs := true },
                 { off := 0x048, rst := if f.val = 0 then 2048 else if f.val < 4 then 512 else 4,
                   rw := if f.val < 4 then 0 else 0xFFF, ovs := true },
                 { off := 0x04C, rst := (if f.val = 0 then 8192 else 4096) * 2 ^ 16 + 32, rw := all32, ovs := true },
                 { off := 0x050, n := 2, rst := if f.val = 0 then all32 else 0, rw := all32, ovs := true },
                 { off := 0x060, rst := 2000, rw := 0xFFFF }, { off := 0x100, rw := 0x80FF },
                 { off := 0x104, rw := 0xFFFFF000 }, { off := 0x108, rw := all32 }, { off := 0x10C, rw := 0x07FFFFFF },
                 { off := 0x110, rst := 8, rw := 0xFFFF } ]
  | _ => []

/-- Does a run of registers hold the register at this offset? -/
def RegSpec.covers (r : RegSpec) (off : Nat) : Bool :=
  decide (r.off ≤ off) && decide ((off - r.off) % r.step = 0) && decide ((off - r.off) / r.step < r.n)

/-- The register at an offset of a page, if the tables list it. -/
def regSpec (p : Page) (off : Nat) : Option RegSpec :=
  (headerRegs p ++ blockRegs p).find? (fun r => r.covers off)

/-- The windows enabled by reset (R97). -/
def windowOn (w : Nat) : Bool := decide (w ≤ 21) || (decide (32 ≤ w) && decide (w ≤ 35)) || decide (48 ≤ w)

/-- The reset value of a register: the header's per-page fields, the window defaults of R97, else the table's. -/
def resetWord (p : Page) (off : Nat) : Word :=
  if off = 0x000 then word (p.block * 2 ^ 16 + p.inst * 2 ^ 8 + 1)
  else if off = 0x004 then word (p.published.toNat * 2 ^ 17 + p.freezeOk.toNat * 2 ^ 16)
  else if off = 0x008 then (if p = .fab then 1 else 0)
  else if off = 0x020 then p.ownerWord
  else if p = .hwin ∧ 0x040 ≤ off ∧ off < 0x140 then
    word ((windowOn ((off - 0x40) / 4)).toNat * 2 ^ 31 + (off - 0x40) / 4)
  else
    match regSpec p off with
    | some r => word r.rst
    | none => 0

/-- The value stored for a value written to RW bits: fields whose tables say "stored as the nearer limit",
and a DEST without the bits its TYPE calls reserved (R228). -/
def limitWord (p : Page) (off : Nat) (v : Word) : Word :=
  match p with
  | .pwr =>
      if off = 0x05C then setFld v 15 0 (clamp 500 10000 (fld v 15 0))
      else if off = 0x060 then setFld v 7 0 (clamp 1 168 (fld v 7 0)) else v
  | .hlnk => if off = 0x058 ∧ fld v 15 0 = 0 then setFld v 15 0 1 else v
  | .func _ => if off = 0x060 then setFld v 15 0 (clamp 100 60000 (fld v 15 0)) else v
  | .ham =>
      if off = 0x054 then setFld v 15 0 (max 10 (fld v 15 0))
      else if off = 0x058 then setFld (setFld v 15 0 (max 10 (fld v 15 0))) 31 16 (max 10 (fld v 31 16)) else v
  | .port _ =>
      if off = 0x044 then setFld v 15 0 (clamp 64 16384 (fld v 15 0))
      else if off = 0x060 then setFld v 15 0 (clamp 10 60000 (fld v 15 0)) else v
  | .ring => if off = 0x04C then setFld v 15 0 (clamp 100 10000 (fld v 15 0)) else v
  | .swt =>
      if off = 0x044 then setFld (setFld v 7 0 (max 1 (fld v 7 0))) 31 16 (max 1 (fld v 31 16))
      else if off = 0x048 then v &&& word (destBits v.toNat) else v
  | .tun => if off = 0x044 then v &&& word (destBits v.toNat) else v
  | .darn =>
      if off = 0x040 then setFld v 31 16 (max 1 (fld v 31 16))
      else if off = 0x05C then setFld v 20 0 (min 262144 (fld v 20 0))
      else if off = 0x060 then setFld v 20 0 (min 1048576 (fld v 20 0))
      else if off = 0x064 then setFld v 20 0 (min 65536 (fld v 20 0))
      else if off = 0x070 then setFld v 3 0 (min 10 (fld v 3 0)) else v
  | .nyc _ => if off = 0x04C then setFld v 15 0 (max 10 (fld v 15 0)) else v
  | .isl => if off = 0x058 then setFld v 15 0 (clamp 10 10000 (fld v 15 0)) else v
  | .img => if off = 0x05C ∧ fld v 15 0 = 0 then setFld v 15 0 60 else v
  | .yem => if off = 0x040 then setFld v 31 16 (clamp 60 3600 (fld v 31 16)) else v
  | _ => v

/-- Level fields of ISL_PL0 and ISL_PL1: a value above 4 is stored as 4 (R348). -/
def limitLevels (v : Word) : Word :=
  (List.range 8).foldl (fun w c => setFld w (4 * c + 2) (4 * c) (min 4 (fld w (4 * c + 2) (4 * c)))) v

/-- The bits of a register that a write by `m` may replace (R9, R98, R117, R311). -/
def writable (p : Page) (off : Nat) (m : Master) : Word :=
  match regSpec p off with
  | none => 0
  | some r =>
      let rw := if r.ovs && !m.overseer then 0 else r.rw
      let po := (if m = .mgt then r.po else 0) ||| (if m = .saf ∨ m = .meter then r.so else 0)
      let win := if p = .hwin ∧ 0x140 ≤ off ∧ (off - 0x140) % 0x40 = 0 then 0x7FFFFFFF else all32
      word rw &&& word win ||| word po

/-- A register after an accepted write of v: RW bits replaced, RW1C bits cleared where v is 1, every other bit kept. -/
def mergeWrite (p : Page) (off : Nat) (m : Master) (old v : Word) : Word :=
  let k := writable p off m
  let c := match regSpec p off with | some r => word r.w1c | none => 0
  let new := limitWord p off ((old &&& ~~~k) ||| (v &&& k))
  new &&& ~~~(v &&& c)

end Sys2Proof.Machine
end

