-- ==== Sys2Proof/Machine/Views.lean ====
section
/-!
DEFINITION. Machine/Views.lean: reading the state. `reg` is a register as stored; `view` is the value a read returns, with
the fields that show other state (holders, held cells, queue state, thread state, time) filled in.
-/
namespace Sys2Proof.Machine

open Sys2Proof

/-- The register map's key of a page register: 1,024 words a page. -/
def regKey (p : Page) (off : Nat) : Nat := p.code * 1024 + off / 4 % 1024

/-- A register as stored; unlisted registers hold their reset value. -/
def State.reg (s : State) (p : Page) (off : Nat) : Word := Sparse.get (resetWord p off) s.regs (regKey p off)

/-- A field of a stored register. -/
def State.field (s : State) (p : Page) (off hi lo : Nat) : Nat := Machine.fld (s.reg p off) hi lo

/-- A 64-bit value of two registers, the lower offset less significant (R6). -/
def State.reg64 (s : State) (p : Page) (off : Nat) : Nat := (s.reg p off).toNat + (s.reg p (off + 4)).toNat * 2 ^ 32

/-- Is the unit a KB-1024-M (R1)? -/
def State.hasMeter (s : State) : Bool := s.field .unit 0x40 1 0 ≠ 2

/-! ## Islands -/

/-- An island before anything has changed it: ISL_STATE0 resets to 0, ACTIVE (R364). -/
def IslSt.reset : IslSt :=
  { mode := .active, ready := false, cold := false, entry := .none, toOff := false, latched := 0, noClock := false }

/-- The state of an island. -/
def State.island (s : State) (i : Island) : IslSt := Sparse.get IslSt.reset s.isl i.num

/-- ACTIVE or IDLE, not held in a cold reset. -/
def IslSt.awake (x : IslSt) : Bool := x.mode = .active && !x.cold

/-- Does an island run: awake and with a clock? -/
def State.runs (s : State) (i : Island) : Bool := (s.island i).awake && !(s.island i).noClock

/-- Does an island admit work: it runs and is not being drained (R363)? -/
def State.admitsWork (s : State) (i : Island) : Bool := s.runs i && ((s.island i).entry = .none || (s.island i).entry = .waiting)

/-- The switchable island of a number. -/
def islandOf (i : Nat) : Island := (Island.ofNum i).getD .host

/-! ## Functions -/

/-- The assignment in force after a mains cold start or a unit reset (R120). -/
def Assign.reset (f : Nat) : Assign :=
  if f = 0 then
    { wqBase := 0, wqCount := 256, cqBase := 0, cqCount := 256, vectors := 2048, hamMin := 32, hamCap := 8192,
      qMac := 65535, qFlow := 65535, qTun := 65535, qSa := 65535 }
  else
    { wqBase := 0, wqCount := 0, cqBase := 0, cqCount := 0, vectors := if f < 4 then 512 else 4, hamMin := 32,
      hamCap := 4096, qMac := 0, qFlow := 0, qTun := 0, qSa := 0 }

/-- Configuration space after a reset of HOST (base specification's defaults, log entry 9). -/
def FCfg.reset : FCfg :=
  { numVFs := 0, vfEnable := false, maxPayload := 128, maxReadReq := 512, extTag := false, tag10 := false,
    idoReq := false, idoCpl := false, cplTimeout := 0, msixEnable := false, msixMask := false, aspmL1 := false,
    l11 := false, l12 := false, ltrEnable := false }

/-- A function after HOST is cleared. -/
def Func.reset (f : Nat) : Func :=
  { asg := Assign.reset f, inReset := false, by123 := false, dstate := .d0, cfg := FCfg.reset, timedOut := false, aerTimeout := false }

/-- Function f (an ARI number). -/
def State.func (s : State) (f : Nat) : Func := Sparse.get (Func.reset f) s.funcs f

/-- The FUNC page of an ARI number. -/
def funcPage (f : Nat) : Page := .func (Fin.ofNat 1024 f)

/-- The mailbox page of an ARI number. -/
def mbxPage (f : Nat) : Page := .mbx (Fin.ofNat 1024 f)

/-- The assignment that a FUNC page's registers hold as pending (R117). -/
def State.pendingAssign (s : State) (f : Nat) : Assign :=
  let p := funcPage f
  { wqBase := s.field p 0x40 14 0, wqCount := s.field p 0x40 24 16, cqBase := s.field p 0x44 12 0, cqCount := s.field p 0x44 24 16,
    vectors := s.field p 0x48 11 0, hamMin := s.field p 0x4C 15 0, hamCap := s.field p 0x4C 31 16,
    qMac := s.field p 0x50 31 16, qFlow := s.field p 0x50 15 0, qTun := s.field p 0x54 31 16, qSa := s.field p 0x54 15 0 }

/-- The link carries transactions: L0, L1 or an L1 substate. -/
def HostSt.up (h : HostSt) : Bool := h.link = .l0 || h.link = .l1 || h.link = .l11 || h.link = .l12

/-- The host link is down (R19): it is neither up nor in a retraining, which a link that has been up since its last reset may take (R90). -/
def HostSt.lost (h : HostSt) : Bool := h.link = .down || (h.link = .training && h.lastGen = 0)

/-- An MSI-X entry before the host writes it. -/
def Msix.reset : Msix := { addrLo := 0, addrHi := 0, data := 0, masked := true }

/-- The MSI-X entry of vector v of function f. -/
def State.msix (s : State) (f v : Nat) : Msix := Sparse.get Msix.reset s.host.msix (2048 * f + v)

/-! ## Hamper -/

/-- The limits of a fixed channel (R168): HAM_CHAN_CFG i. -/
def State.chanCfg (s : State) (i : Nat) : Word := s.reg .ham (0x100 + 8 * i)

/-- Cells a channel holds. -/
def State.heldBy (s : State) (c : Nat) : Nat := Sparse.get 0 s.ham.held c

/-- The channel of class k of function f. -/
def funcChan (f k : Nat) : Nat := 256 + 4 * f + k

/-- The functions with a work-queue range in force: only they commit a minimum (R169). -/
def State.holders (s : State) : List Nat :=
  let listed := s.funcs.filterMap (fun e => if 0 < e.2.asg.wqCount then some e.1 else none)
  if (Sparse.find s.funcs 0).isSome then listed else 0 :: listed

/-- A channel's committed minimum (R169). -/
def State.committedMin (s : State) (c : Nat) : Nat :=
  if c < 19 then fld (s.chanCfg c) 15 0
  else
    let a := (s.func ((c - 256) / 4)).asg
    if 0 < a.wqCount then a.hamMin else 0

/-- A channel's CAP, at least 64 cells (R168). -/
def State.effectiveCap (s : State) (c : Nat) : Nat :=
  max 64 (if c < 19 then fld (s.chanCfg c) 31 16 else (s.func ((c - 256) / 4)).asg.hamCap)

/-- Every channel with a committed minimum: the fixed ones and the four classes of each holder. -/
def State.committers (s : State) : List Nat :=
  List.range 19 ++ s.holders.flatMap (fun f => [funcChan f 0, funcChan f 1, funcChan f 2, funcChan f 3])

/-- The sum of committed minimums (R169). -/
def State.minSum (s : State) : Nat := (s.committers.map s.committedMin).sum

/-- Cells of the shared remainder that some channel holds. -/
def State.heldSum (s : State) : Nat := (s.ham.held.map (·.2)).sum

/-- Shared cells not held (R170). -/
def State.freeCells (s : State) : Nat := 122112 - s.heldSum

/-- The sum over channels of max(0, committed minimum − held) (R170). -/
def State.unused (s : State) : Nat := (s.committers.map (fun c => s.committedMin c - s.heldBy c)).sum

/-- Do the committed minimums fit: their sum within half the shared remainder (R169), and what of them is not yet held within the free cells,
so that free ≥ unused holds (R170)? -/
def State.minsFit (s : State) : Bool := decide (s.minSum ≤ 61056) && decide (s.unused ≤ s.freeCells)

/-! ## Ports, ring, gates -/

/-- A port nothing has happened to. -/
def PortSt.reset : PortSt := { timers := [], xoff := [], held := false, wasUp := false, wordB := [], standing := [], stormed := [] }

/-- Port p's own state. -/
def State.port (s : State) (p : Nat) : PortSt := Sparse.get PortSt.reset s.ports p

/-- The PORT page of a port number. -/
def portPage (p : Nat) : Page := .port (Fin.ofNat 4 p)

/-- The GATE page of a port number. -/
def gatePage (p : Nat) : Page := .gate (Fin.ofNat 4 p)

/-- Is the port's link up (PORT_STAT.LINK_UP)? -/
def State.linkUp (s : State) (p : Nat) : Bool := bitOn (s.reg (portPage p) 0x48) 2

/-- HSR is in effect: HSR_EN = 1 and P0 and P1 at one SPEED (R215). -/
def State.hsr (s : State) : Bool :=
  bitOn (s.reg .ring 0x40) 0 && s.field (.port 0) 0x40 3 0 = s.field (.port 1) 0x40 3 0

/-- PRP is enabled (R221). -/
def State.prp (s : State) : Bool := bitOn (s.reg .ring 0x40) 1

/-- A gate list after reset (R224). -/
def PegList.reset : PegList := { base := 0, cycle := 1000000, len := 1, pegs := [] }

/-- A port's gates after reset: safety list disabled. -/
def GateSt.reset : GateSt :=
  { act := PegList.reset, pend := PegList.reset, armed := none, bank := false, peg := 0, safOn := false,
    saf := PegList.reset, safPend := PegList.reset, safArmed := none, safPeg := 0 }

/-- Port p's gates. -/
def State.gate (s : State) (p : Nat) : GateSt := Sparse.get GateSt.reset s.gates p

/-! ## Tables -/

/-- The entries of a table (R227). -/
def TblSt.entries (t : TblSt) (k : Nat) : Sparse (List Byte) :=
  match k with | 0 => t.mac | 1 => t.flow | 2 => t.tun | _ => t.sa

/-- Bytes of an entry (R227, R268). -/
def entrySize (k : Nat) : Nat := match k with | 0 => 16 | 1 => 64 | 2 => 32 | _ => 64

/-- Entries of a table (R227). -/
def tableSize (k : Nat) : Nat := match k with | 0 => 262144 | 1 => 1048576 | 2 => 65536 | _ => 65536

/-- An entry's bytes; an empty slot is all zero. -/
def State.entry (s : State) (k i : Nat) : List Byte :=
  Sparse.get (List.replicate (entrySize k) 0) (s.tbl.entries k) i

/-- Where an entry's FLAGS byte stands (R232, R233, R234, R268). -/
def flagsByte (k : Nat) : Nat := match k with | 0 => 14 | 1 => 56 | 2 => 30 | _ => 1

/-- Where an entry's BIND stands. -/
def bindByte (k : Nat) : Nat := match k with | 0 => 12 | 1 => 54 | 2 => 28 | _ => 50

/-- VALID of an entry. -/
def validEntry (k : Nat) (e : List Byte) : Bool := nbit (byteAt e (flagsByte k)) 0

/-- The function an entry is bound to (R85, R232). -/
def boundTo (k : Nat) (e : List Byte) : Option Nat :=
  let b := leAt e (bindByte k) 2
  if nbit b 15 then some (b % 1024) else none

/-- Valid entries of a table. -/
def State.used (s : State) (k : Nat) : Nat := ((s.tbl.entries k).filter (fun e => validEntry k e.2)).length

/-! ## Nyate -/

/-- A thread nothing has started. -/
def Thread.reset : Thread :=
  { regs := List.replicate 16 0, pc := 0, sw := 0, st := .idle, park := 0, slots := [none, none, none, none], code := 0,
    data := 0, bind := 0, entry := 0, rd := 0, slot := 0 }

/-- A cluster that runs with an empty fault queue. -/
def Cluster.reset : Cluster := { faults := [], seq := 0, halt := 0, takers := [] }

/-- Thread t (16 × core + thread) of cluster c. -/
def State.thread (s : State) (c t : Nat) : Thread := Sparse.get Thread.reset s.nyate.threads (128 * c + t)

/-- Cluster c. -/
def State.cluster (s : State) (c : Nat) : Cluster := Sparse.get Cluster.reset s.nyate.clusters c

/-- The NYC page of a cluster number. -/
def nycPage (c : Nat) : Page := .nyc (Fin.ofNat 8 c)

/-- NYC_TSTAT.STATE (R304). -/
def ThState.code : ThState → Nat | .idle => 0 | .runnable => 1 | .parked => 2 | .halted => 3

/-- The thread NYC_TSEL selects. -/
def State.tsel (s : State) (c : Nat) : Nat := s.field (nycPage c) 0x90 6 4 * 16 + s.field (nycPage c) 0x90 3 0

/-! ## Storage -/

/-- A connection context's bytes; an unwritten one is all zero, STATE FREE (R283). -/
def State.conn (s : State) (c : Nat) : List Byte := Sparse.get (List.replicate 128 0) s.sto.ctx c

/-! ## The darning pass -/

/-- The holder of a table's direct-access bit. -/
def State.tblHolder (s : State) (k : Nat) : Option Master := s.tbl.lock.getD k none

/-- Is the pass on for a table, and not paused (R247, R249)? -/
def State.darnOn (s : State) (k : Nat) : Bool :=
  bitOn (s.reg .darn 0x40) k && (s.tblHolder k).isNone && !s.host.lost && (s.func 0).dstate = .d0

/-- The next table of the pass after k that is enabled, going round. -/
def State.darnNext (s : State) (k : Nat) : Nat :=
  if bitOn (s.reg .darn 0x40) ((k + 1) % 3) then (k + 1) % 3
  else if bitOn (s.reg .darn 0x40) ((k + 2) % 3) then (k + 2) % 3 else k

/-- The table the pass stands on: its own, or the next enabled one where its bit is clear. -/
def State.darnTable (s : State) : Nat :=
  if bitOn (s.reg .darn 0x40) s.tbl.dTab then s.tbl.dTab else s.darnNext s.tbl.dTab

/-- DARN_STAT (R254). -/
def State.darnStat (s : State) : Word :=
  let k := s.darnTable
  let st := if s.field .darn 0x40 2 0 = 0 then 0 else if s.darnOn k then 1 else 2
  word (st * 2 ^ 30 + k * 2 ^ 24 + s.tbl.dIdx.getD k 0)

/-! ## The computed registers -/

/-- Is the page's island started and awake: PG_STAT.READY? -/
def State.pageReady (s : State) (p : Page) : Bool := (s.island p.island).ready && (s.island p.island).awake

/-- PG_CONFLICT.COUNT ≠ 0 (R35). -/
def State.conflictSeen (s : State) (p : Page) : Bool := s.field p 0x28 15 0 ≠ 0

/-- PG_STAT: holder, CONFLICT_SEEN, FAULT, BUSY and READY (R45). BUSY shows a TBL command (R238), an image command (R383)
or a program load (R313) in progress. -/
def State.pgStat (s : State) (p : Page) : Word :=
  let holder := match Sparse.find s.locks p.code with | some m => m.num | none => 0
  let busy := match p with
    | .tbl => s.tbl.cmd.isSome
    | .img => s.boot.write.isSome || s.keys.wait.isSome || s.boot.setA.st = 2 || s.boot.setB.st = 2
    | .nyc c => s.nyate.loads.contains c.val
    | _ => bitOn (s.reg p 0x0C) 1
  word (holder * 16 + (s.conflictSeen p).toNat * 8 + (s.field p 0x0C 2 2) * 4 + busy.toNat * 2 + (s.pageReady p).toNat)

/-- PREC_SEENk: CONFLICT_SEEN of 32 page indices (R47, R469). -/
def State.precSeen (s : State) (k : Nat) : Word :=
  let anyIn (lo hi : Nat) : Bool := s.regs.any (fun e =>
    decide (lo ≤ e.1 / 1024) && decide (e.1 / 1024 < hi) && decide (e.1 % 1024 = 10) && decide (fld e.2 15 0 ≠ 0))
  word ((List.range 32).foldl (fun n b =>
    let i := 32 * k + b
    let on := if i < 44 then (match Page.ofIndex i with | some p => s.conflictSeen p | none => false)
      else if i = 254 then anyIn 0x1000 0x1400 else if i = 255 then anyIn 0x1400 0x1800 else false
    n + on.toNat * 2 ^ b) 0)

/-- PWR_MAINS_STAT (R68, R79). -/
def State.mainsStat (s : State) : Word :=
  let u := if s.pwr.shed ≠ 0 then 2 else if s.host.up then 0 else 1
  word (s.pwr.shed * 2 ^ 12 + u * 2 ^ 8 + (s.pwr.a.good || s.pwr.b.good).toNat * 16 + s.pwr.b.dc.toNat * 8
    + s.pwr.a.dc.toNat * 4 + s.pwr.b.present.toNat * 2 + s.pwr.a.present.toNat)

/-- UNIT_READY_STAT (R86). -/
def State.readyStat (s : State) : Word :=
  word (s.host.startMs % 65536 * 2 ^ 16 + s.host.perst.toNat * 4 + (s.host.link = .l0 : Bool).toNat * 2 + s.host.ready.toNat)

/-- UNIT_BOOT (R86). -/
def State.unitBoot (s : State) : Word :=
  word (s.boot.rollback * 2 ^ 16 + s.boot.tries * 2 ^ 8 + s.boot.trial.toNat * 4 + s.boot.fallback.toNat * 2
    + s.boot.activeB.toNat)

/-- IMG_STAT (R394). -/
def State.imgStat (s : State) : Word := word (s.boot.setB.st * 16 + s.boot.setA.st)

/-- The key IMG_KEYS.SEL selects. -/
def State.keySel (s : State) : Option (List Byte) := if bitOn (s.reg .img 0x64) 2 then s.keys.anchor else s.keys.opKey

/-- The word of a queue for FUNC_QSTAT (R162): fetch point or producer, the last ENABLE's result, and the flags. -/
def State.qstat (s : State) (f : Nat) : Word :=
  let p := funcPage f
  let i := s.field p 0x100 7 0
  let r := s.field p 0x118 11 8 * 256
  if bitOn (s.reg p 0x100) 15 then
    match Sparse.find s.queues.cq (256 * f + i) with
    | some q => word (q.prod * 2 ^ 16 + r + q.armed.toNat * 4 + 1)
    | none => word r
  else
    match Sparse.find s.queues.wq (256 * f + i) with
    | some q => word (q.fetch * 2 ^ 16 + r + q.idle.toNat * 2 + 1)
    | none => word r

/-- Work items in flight: fetched and not yet finished (R17, R153). -/
def State.itemsInFlight (s : State) : Nat :=
  (s.queues.wq.map (fun e => (e.2.items.filter (fun i => i.fin.isNone)).length)).sum

/-- Host reads outstanding, each split read counted by its requests (R17, R102). -/
def State.readsOut (s : State) : Nat := (s.host.reads.map (·.out)).sum

/-- The state a thread shows (R304): HALTED while its cluster is halted (log entry 67). -/
def State.threadState (s : State) (c t : Nat) : ThState := if (s.cluster c).halt = 0 then (s.thread c t).st else .halted

/-- A thread's state and PC as NYC_TSTAT shows them (R321). -/
def State.tstat (s : State) (c : Nat) : Word :=
  let t := s.tsel c
  let th := s.thread c t
  let hp := s.reg (nycPage c) (0x50 + 4 * (t / 16))
  let st := (s.threadState c t).code
  word (th.pc * 2 ^ 17 + st * 256 + (if st = 2 then th.park else 0) * 16 + (bitOn hp 4 && fld hp 3 0 = t % 16 : Bool).toNat)

/-- HLNK_STAT with the link's state filled in (R115). -/
def State.hlnkStat (s : State) (w : Word) : Word :=
  let lps := match s.host.link with | .l1 => 1 | .l11 => 2 | .l12 => 3 | _ => 0
  setFld (putBit w 9 s.host.up) 11 10 lps

/-- Frames that stand in an island. -/
def Frame.inside (x : Frame) (i : Island) : Bool :=
  match x.loc with
  | .ingress p | .egress p | .prpIn p | .ringIn p => decide (i = (portPage p).island)
  | .macsec _ => i = .cry
  | .protect _ => false
  | .dispatch c _ => decide (i = .nyc (Fin.ofNat 8 c)) && x.gate.isSome
  | .taking c _ _ | .held c _ _ | .gated c => decide (i = .nyc (Fin.ofNat 8 c))
  | .engine c _ ops acc =>
      if acc then decide (i = .cry) && (nbit ops 0 || ops = 8) || decide (i = .tun) && (nbit ops 1 || nbit ops 2)
      else decide (i = .nyc (Fin.ofNat 8 c))
  | .rxq _ _ => i = .host
  | .stoIn => i = .sto
  | .mgtIn => i = .mgt
  | .safIn => i = .saf

/-- Does an island hold work, or have a bus access pending (R342, log entry 121)? FAB, MGT and SAF always do; a Nyate cluster does while a
thread of it is RUNNABLE (R343). -/
def State.islandWorks (s : State) (i : Island) : Bool :=
  s.frames.any (fun x => x.inside i) || s.held.any (fun h => decide (h.page.island = i)) ||
    (match i with
     | .fab | .mgt | .saf => true
     | .prg | .pup | .tun => false
     | .host => !s.host.reads.isEmpty || s.host.ltrBusy.isSome || s.funcs.any (fun e => e.2.inReset || (e.2.dstate ≠ .d0 && e.2.dstate ≠ .d3)) ||
         s.queues.wq.any (fun e => e.2.pend || !e.2.items.isEmpty || (e.2.spec && !e.2.idle))
     | .nyc c => s.nyate.loads.contains c.val || (List.range 128).any (fun t => s.threadState c.val t = .runnable)
     | .cry => s.cry.slots.any (fun e => e.2.wiping) || s.queues.wq.any (fun e => e.2.kind = 2 && !e.2.items.isEmpty)
     | .sto => !s.sto.ops.isEmpty || !s.sto.oos.isEmpty || !s.sto.finWait.isEmpty ||
         s.sto.ctx.any (fun e => byteAt e.2 0 = 2 || byteAt e.2 0 = 4) || s.queues.wq.any (fun e => e.2.kind = 3 && !e.2.items.isEmpty)
     | .tbl => s.tbl.cmd.isSome || s.tbl.dma.isSome || !s.nyate.treqs.isEmpty || (List.range 3).any s.darnOn)

/-- The ISL_STATE0 code of an island (R342, R364): IDLE while it is ready and holds no work. -/
def State.islandCode (s : State) (i : Island) : Nat :=
  let x := s.island i
  if x.cold then 3
  else match x.mode with | .active => (x.ready && !s.islandWorks i).toNat | .retain => 2 | .off => 3

/-- Registers of a page that show state held elsewhere; `none` where the stored register is the answer. -/
def State.shown (s : State) (p : Page) (off : Nat) : Option Word :=
  match p with
  | .prec => if 0x40 ≤ off ∧ off < 0x60 then some (s.precSeen ((off - 0x40) / 4)) else none
  | .hlnk => if off = 0x40 then some (s.hlnkStat (s.reg p off)) else none
  | .unit => if off = 0x54 then some s.unitBoot else if off = 0x58 then some s.readyStat else none
  | .pwr =>
      if off = 0x40 then some s.mainsStat
      else if off = 0x54 then some (word (min 65535 (s.pwr.age / 86400000000000) * 65536 + s.field .pwr 0x54 15 0)) else none
  | .func f =>
      if off = 0x5C then
        some (putBit (putBit (s.reg p off) 2 (decide (s.pendingAssign f.val ≠ (s.func f.val).asg))) 1 (s.func f.val).inReset)
      else if off = 0x118 then some (s.qstat f.val) else none
  | .wq => if off = 0x50 then some (word (s.readsOut * 2 ^ 16 + s.itemsInFlight)) else none
  | .ham =>
      if off = 0x40 then some (word s.freeCells)
      else if off = 0x44 then some (setFld (s.reg p off) 15 0 s.ham.saf)
      else if off = 0x48 then some (setFld (s.reg p off) 15 0 s.ham.ring)
      else if off = 0x4C then some (setFld (s.reg p off) 15 0 s.ham.mgt)
      else if off = 0x50 then some (word s.minSum)
      else if off = 0x84 then some (word (s.heldBy (funcChan (s.field .ham 0x80 9 0) (s.field .ham 0x80 11 10))))
      else if 0x100 ≤ off ∧ off < 0x198 ∧ off % 8 = 4 then some (word (s.heldBy ((off - 0x104) / 8))) else none
  | .port q => if off = 0x48 then some (putBit (s.reg p off) 6 (!(s.port q.val).timers.isEmpty)) else none
  | .gate q =>
      let g := s.gate q.val
      let i := s.field p 0x6C 9 0
      if off = 0x44 then some (word ((g.act.at s.ptp.time).2.2 * 2 ^ 16 + g.bank.toNat * 2 + g.armed.isSome.toNat))
      else if off = 0x48 then some (word g.act.base) else if off = 0x4C then some (word (g.act.base / 2 ^ 32))
      else if off = 0x50 then some (word g.act.cycle) else if off = 0x54 then some (word g.act.len)
      else if off = 0x58 then some (word g.pend.base) else if off = 0x5C then some (word (g.pend.base / 2 ^ 32))
      else if off = 0x60 then some (word g.pend.cycle) else if off = 0x64 then some (word g.pend.len)
      else if off = 0x70 then some (g.pend.peg i) else if off = 0x74 then some (g.act.peg i) else none
  | .ptp =>
      let h := s.ptp.fifo.head?
      if off = 0x48 then some (word (s.ptp.time % 1000000000))
      else if off = 0x4C then some (word s.ptp.latch) else if off = 0x50 then some (word (s.ptp.latch / 2 ^ 32))
      else if off = 0x80 then some (setFld (s.reg p off) 6 0 s.ptp.fifo.length)
      else if off = 0x84 then some (match h with | some e => word (e.tag * 2 ^ 16 + e.port * 2 ^ 14 + e.f) | none => 0)
      else if off = 0x88 then some (match h with | some e => word (e.wq * 2 ^ 16 + e.sec / 2 ^ 32 % 65536) | none => 0)
      else if off = 0x8C then some (match h with | some e => word e.sec | none => 0)
      else if off = 0x90 then some (match h with | some e => word e.ns | none => 0) else none
  | .ring => if off = 0x40 then some (putBit (s.reg p off) 8 s.hsr) else none
  | .tbl =>
      if off = 0xC0 then
        let num (m : Option Master) : Nat := match m with | some x => x.num | none => 0
        some (word (((List.range 4).map (fun k =>
          num (s.tbl.lock.getD k none) * 2 ^ (16 + 4 * k) + (s.tbl.lock.getD k none).isSome.toNat * 2 ^ k)).sum))
      else if 0xF0 ≤ off ∧ off < 0x100 then some (word (s.used ((off - 0xF0) / 4))) else none
  | .darn => if off = 0x84 then some s.darnStat else none
  | .cry =>
      let slot := Sparse.find s.cry.slots (s.field .cry 0xAC 15 0)
      let live := Sparse.find s.cry.live (s.field .cry 0xC0 15 0)
      if off = 0x74 then some (setFld (s.reg p off) 30 24 s.cry.notes.length)
      else if off = 0x78 then some (match s.cry.notes.head? with | some (k, a) => word (k * 2 ^ 16 + a) | none => 0)
      else if off = 0xB4 then
        some (match slot with
          | some x => word ((if x.loaded then (Config.keyCheck x.key x.k256).toNat else 0) * 256 + s.cry.result * 16
              + x.k256.toNat * 2 + x.loaded.toNat)
          | none => word (s.cry.result * 16))
      else if off = 0xC4 then some (match live with | some x => x.ok | none => 0)
      else if off = 0xC8 then some (match live with | some x => x.icv | none => 0)
      else if off = 0xCC then some (match live with | some x => x.late | none => 0) else none
  | .sto =>
      if off = 0x4C then some (word (s.sto.ctx.filter (fun e => byteAt e.2 0 = 3)).length) else none
  | .nyc c =>
      let cl := s.cluster c.val
      let th := s.thread c.val (s.tsel c.val)
      let f := cl.faults.head?
      if off = 0x40 then some (word (cl.faults.length * 2 ^ 24 + cl.halt * 2 ^ 16 + (cl.halt ≠ 0 : Bool).toNat * 256))
      else if off = 0x94 then some th.code else if off = 0x98 then some th.data else if off = 0x9C then some th.bind
      else if off = 0xA0 then some th.entry else if off = 0xA8 then some (s.tstat c.val)
      else if off = 0xB0 then some (match f with | some r => word r.w0.toNat | none => 0)
      else if off = 0xB4 then some (match f with | some r => word r.w1.toNat | none => 0)
      else if off = 0xB8 then some (match f with | some r => word r.w2.toNat | none => 0)
      else if off = 0xBC then some (match f with | some r => word r.w3.toNat | none => 0) else none
  | .isl =>
      if off = 0x40 then some (word ((List.range 16).foldl (fun n i => n + s.islandCode (islandOf i) * 4 ^ i) 0))
      else if off = 0x44 then some (word (s.islandCode .mgt + s.islandCode .saf * 4))
      else if off = 0x50 then some (putBit (s.reg p off) 20 s.clk.change.isSome)
      else if off = 0x78 then
        some (putBit (s.reg p off) 1 (bitOn (s.reg .isl 0x68) 17 && decide (s.clk.linkU.toNat % 4 ≠ s.field .isl 0x68 19 18)))
      else none
  | .log =>
      if off = 0x40 then some s.log.next
      else if off = 0x44 then some (match s.log.flash.getLast? with | some r => r.seq | none => 0)
      else if off = 0x48 then some (match s.log.flash.head? with | some r => r.seq | none => 0)
      else if off = 0x80 then
        some (word ((16 - s.log.spare1) * 2 ^ 16 + (16 - s.log.spare0) * 256 + s.log.dev1.toNat * 2 + s.log.dev0.toNat))
      else none
  | .img =>
      if off = 0x40 then some s.imgStat
      else if off = 0x60 then
        let v (x : ImgSet) : Nat := if 3 ≤ x.st then x.ver else 0
        some (word (v s.boot.setB * 2 ^ 16 + v s.boot.setA))
      else if off = 0x64 then
        some (word ((match s.keySel with | some k => (Config.keyHash k).toNat | none => 0) * 256 + s.keys.count % 16 * 16
          + s.field .img 0x64 2 2 * 4 + s.keys.anchor.isSome.toNat * 2 + s.keys.opKey.isSome.toNat))
      else none
  | .yem => if off = 0x44 then some (word (s.boot.recovery.toNat * 4 + s.console.open_.toNat)) else none
  | .twp => if off = 0x40 then some (putBit (putBit (s.reg p off) 9 s.twp.held) 8 s.twp.deaf) else none
  | _ => none

/-- The KB-1024-N, or a KB-1024-M whose meter is away, reads MET pages as R2 and R448 state. -/
def State.noMeter (s : State) : Bool := !s.hasMeter || !s.meter.fitted || !s.meter.answered

/-- The value a read of a register returns (R7, R20), its side effects apart. -/
def State.view (s : State) (p : Page) (off : Nat) : Word :=
  let off := off / 4 * 4
  if off = 0x0C then (if p = .met ∧ s.noMeter then s.pgStat p &&& 0xF8 else s.pgStat p)
  else if off = 0x18 then s.reg p 0x10 &&& ~~~(s.reg p 0x14)
  else if off = 0x24 then (match Sparse.find s.locks p.code with | some m => word m.num | none => 0)
  else if off < 0x40 then s.reg p off
  else if p = .met ∧ s.noMeter then 0
  else
    match (if bitOn (s.reg p 0x08) 1 then (Sparse.find s.snaps p.code).bind (fun m => Sparse.find m (off / 4)) else none) with
    | some w => w
    | none => (match s.shown p off with | some w => w | none => s.reg p off)

end Sys2Proof.Machine
end

