-- ==== Sys2Proof/Machine/Ops.lean ====
section
/-!
DEFINITION. Machine/Ops.lean: the operations every meaning shares: writing registers and counters, the log (R376 to R378),
MSI-X messages (R105), raising an event on its routes (R46), and releasing locks (R40).
-/
namespace Sys2Proof.Machine

open Sys2Proof

/-! ## Registers -/

/-- Store a register's word; a register at its reset value is not listed. -/
def State.setReg (s : State) (p : Page) (off : Nat) (v : Word) : State :=
  { s with regs := Sparse.set (resetWord p off) s.regs (regKey p off) v }

/-- Store field [hi:lo] of a register. -/
def State.setField (s : State) (p : Page) (off hi lo v : Nat) : State := s.setReg p off (setFld (s.reg p off) hi lo v)

/-- Store one bit of a register. -/
def State.setBit (s : State) (p : Page) (off i : Nat) (b : Bool) : State := s.setReg p off (putBit (s.reg p off) i b)

/-- Add n to field [hi:lo], wrapping. -/
def State.add (s : State) (p : Page) (off hi lo n : Nat) : State := s.setField p off hi lo (s.field p off hi lo + n)

/-- Add n to field [hi:lo], stopping at its largest value. -/
def State.addSat (s : State) (p : Page) (off hi lo n : Nat) : State :=
  s.setField p off hi lo (min (s.field p off hi lo + n) (2 ^ (hi + 1 - lo) - 1))

/-- Count one event in a 32-bit counter that wraps. -/
def State.count (s : State) (p : Page) (off : Nat) : State := s.add p off 31 0 1

/-- Add n to a 64-bit counter of two registers. -/
def State.add64 (s : State) (p : Page) (off n : Nat) : State :=
  let v := s.reg64 p off + n
  (s.setReg p off (word v)).setReg p (off + 4) (word (v / 2 ^ 32))

/-- Store a 64-bit value in two registers, the lower offset less significant (R6). -/
def State.setReg64 (s : State) (p : Page) (off v : Nat) : State :=
  (s.setReg p off (word v)).setReg p (off + 4) (word (v / 2 ^ 32))

/-- Does this travel over the host link as a request or message of the unit? -/
def Out.toHost : Out → Bool
  | .msix .. | .hostWrite .. | .hostRead .. | .pmPme .. | .ltr .. => true
  | _ => false

/-- The link after the unit sent something: it leaves L1 on its own whenever it has a request or message to send (R110). -/
def wakeLink (l : LinkSt) (o : Out) : LinkSt := if o.toHost && (l = .l1 || l = .l11 || l = .l12) then .l0 else l

/-- Send something out of the unit. -/
def State.emit (s : State) (o : Out) : State :=
  { s with out := o :: s.out, host := { s.host with link := wakeLink s.host.link o } }

/-- Send several things out of the unit, the first first. -/
def State.emitAll (s : State) (l : List Out) : State := l.foldl State.emit s

/-! ## Host memory (R100 to R102) -/

/-- Cut a transfer of `len` bytes at every `max` bytes and every 4 KiB boundary: addresses and lengths. -/
def cuts (fuel max addr len : Nat) : List (Nat × Nat) :=
  match fuel with
  | 0 => []
  | fuel + 1 =>
      if len = 0 then []
      else
        let n := min len (min max (4096 - addr % 4096))
        (addr, n) :: cuts fuel max (addr + n) (len - n)

/-- Write bytes into host memory for function f, cut at its Max Payload Size. -/
def State.dmaWrite (s : State) (f addr : Nat) (b : List Byte) : State :=
  let c := (s.func f).cfg
  (cuts b.length c.maxPayload addr b.length).foldl (fun t x => t.emit (.hostWrite f x.1 c.idoReq (slice b (x.1 - addr) x.2))) s

/-- The requests that reading some host buffers for function f takes, cut at its Max Read Request Size. -/
def State.readParts (s : State) (f : Nat) (bufs : List (Nat × Nat)) : List (Nat × Nat) :=
  bufs.flatMap (fun x => cuts x.2 (s.func f).cfg.maxReadReq x.1 x.2)

/-- Host reads that function f may have outstanding (R102). -/
def State.readLimit (s : State) (f : Nat) : Nat :=
  let c := (s.func f).cfg
  if c.tag10 then 768 else if c.extTag then 256 else 32

/-- Host reads that may still be issued for function f (R17, R102). -/
def State.readRoom (s : State) (f : Nat) : Nat :=
  let own := ((s.host.reads.filter (fun r => r.f = f)).map (·.out)).sum
  min (2048 - s.readsOut) (s.readLimit f - own)

/-- May reads of function f be issued now: the link is up, HOST takes work, and the function is in D0 and in no reset (R107, R363)? -/
def State.mayRead (s : State) (f : Nat) : Bool :=
  s.host.up && s.admitsWork .host && (s.func f).dstate = .d0 && !(s.func f).inReset

/-- Issue as many of a read's requests as the limits leave room for. -/
def State.issueRead (s : State) (r : HostRead) : State :=
  let k := min r.want.length (s.readRoom r.f)
  if k = 0 || !s.mayRead r.f then s
  else
    let t := (r.want.take k).foldl (fun t x => t.emit (.hostRead r.f x.1 x.2 (s.func r.f).cfg.idoReq)) s
    let y : HostRead := { r with want := r.want.drop k, out := r.out + k }
    { t with host := { t.host with reads := t.host.reads.map (fun x => if x.id = r.id then y else x) } }

/-- Issue what the limits leave room for, the oldest read first. -/
def State.pumpReads (s : State) : State := s.host.reads.foldl State.issueRead s

/-- Begin a host read for function f: these requests, issued as room allows. -/
def State.openRead (s : State) (f : Nat) (u : ReadFor) (want : List (Nat × Nat)) : State :=
  let r : HostRead := { id := s.host.nextRead, f := f, use := u, want := want, out := 0, failed := false }
  let t : State := { s with host := { s.host with nextRead := s.host.nextRead + 1, reads := if want.isEmpty then s.host.reads else s.host.reads ++ [r] } }
  t.pumpReads

/-- Is a host read for this purpose still to end? -/
def State.reading (s : State) (u : ReadFor) : Bool := s.host.reads.any (fun r => decide (r.use = u) && !r.failed)

/-- Has a host read for this purpose ended with an error? -/
def State.readFailed (s : State) (u : ReadFor) : Bool := s.host.reads.any (fun r => decide (r.use = u) && r.failed)

/-- Take the host reads that satisfy p off the list; completions that still come are unexpected (R103, R124). -/
def State.closeReads (s : State) (p : HostRead → Bool) : State :=
  { s with host := { s.host with
      reads := s.host.reads.filter (fun r => !p r),
      ended := (s.host.reads.filter p).flatMap (fun (r : HostRead) => List.replicate r.out r.id) ++ s.host.ended } }

/-- Has what a read serves an event of its own that takes the read's failure: a table transfer, a darning visit, a program load? -/
def ReadFor.lasts : ReadFor → Bool
  | .table | .shadow | .program _ => true
  | _ => false

/-! ## The log -/

/-- Put one record with the next SEQ in the FRAM tail of 512; a record it overwrites before it reached flash is lost and
counted in LOG_LOST (R377). -/
def State.logOne (s : State) (ty code page : Nat) (d0 d1 d2 : Word) : State :=
  let r : LogRec := { seq := s.log.next, time := s.ptp.time, type := ty, code := code, page := page, d0 := d0,
                      d1 := d1, d2 := d2 }
  let full := decide (512 ≤ s.log.tail.length)
  let gone := if full then s.log.tail.head? else none
  let keep := if full then s.log.tail.drop 1 else s.log.tail
  let s1 := { s with log := { s.log with next := s.log.next + 1, tail := keep ++ [{ entry := r, inFlash := false }] } }
  match gone with
  | some t =>
      if t.inFlash then s1
      else
        let s2 := { s1 with log := { s1.log with lost := s1.log.lost + 1,
                                                 lostSeq := if s1.log.lost = 0 then t.entry.seq else s1.log.lostSeq } }
        s2.count .log 0x4C
  | none => s1

/-- Write a record; a loss not yet told is told first by a record of type 7 (R377). -/
def State.logRaw (s : State) (ty code page : Nat) (d0 d1 d2 : Word) : State :=
  let s0 := if s.log.lost = 0 then s
    else { s with log := { s.log with lost := 0 } }.logOne 7 0 0 (word s.log.lost) s.log.lostSeq 0
  s0.logOne ty code page d0 d1 d2

/-- The TYPE of a page event's record (R460). -/
def eventType (p : Page) (b : Nat) : Nat :=
  match p with
  | .pwr => if b ≤ 9 then 2 else 1
  | .mgt => if b ≤ 4 then 3 else if b ≤ 6 then 6 else if b = 7 then 5 else 1
  | .unit => if b = 1 then 5 else 1
  | .img => 5
  | _ => 1

/-- The key register of a page event (R461); an event without a row there has none and records 0. -/
def eventKey (p : Page) (b : Nat) : Option Nat :=
  match p with
  | .prec => if b = 0 then some 0x68 else some 0x6C
  | .unit => if b = 1 then some 0x54 else if b = 3 ∨ b = 4 then some 0x58 else none
  | .hlnk => if 2 ≤ b ∧ b ≤ 4 then some 0x44 else none
  | .func _ => if 1 ≤ b ∧ b ≤ 3 then some 0x5C else none
  | .wq => some 0x4C
  | .ham => if b = 1 then some 0x44 else if b = 3 then some 0x74 else if b = 5 then some 0x50 else some 0x40
  | .port _ =>
      if b = 3 then some 0x40 else if b = 5 then some 0x50
      else if b = 1 ∨ b = 2 ∨ b = 4 then some 0x48 else none
  | .ring => if b = 0 then some 0x4C else if b = 2 then some 0x60 else if b = 3 ∨ b = 4 then some 0x40 else none
  | .ptp => if b = 0 ∨ b = 1 then some 0x54 else if b = 3 then some 0x80 else none
  | .tbl => if b = 2 then some 0xD4 else if b = 3 then some 0xE8 else none
  | .swt => some 0x84
  | .darn => if b = 0 ∨ b = 2 then some 0x7C else none
  | .cry => some 0x78
  | .sto => if b = 1 ∨ b = 2 then some 0x108 else none
  | .nyc _ => if b = 0 ∨ b = 1 then some 0x40 else if b = 3 then some 0xC4 else none
  | .clk => if b = 0 then some 0x4C else if b = 1 then some 0x54 else some 0x40
  | .isl => if b = 3 then some 0x5C else none
  | .log => if b = 0 then some 0x4C else some 0x80
  | .twp => if b = 0 ∨ b = 1 then some 0x40 else none
  | .saf i =>
      if i.val ≠ 0 then none
      else if b = 0 ∨ 2 ≤ b ∧ b ≤ 4 then some 0x40 else if b = 5 then some 0x44 else if b = 7 then some 0x48
      else if b = 8 ∨ b = 9 then some 0x58 else none
  | .met => if b = 3 ∨ b = 4 then some 0x6C else if b = 2 then some 0x60 else none
  | .mbxMet => if b = 0 then some 0x4C else none
  | .pwr => if b = 10 ∨ b = 11 then some 0x88 else none
  | _ => none

/-- The three detail words of a page event's record (R460), with the repeats it counts. -/
def State.eventDetail (s : State) (p : Page) (b rep : Nat) : Word × Word × Word :=
  match eventType p b with
  | 2 => (s.mainsStat, s.reg .pwr 0x4C, s.reg .pwr 0x58)
  | 3 => (Sparse.get 0 s.log.sens (4 * b), Sparse.get 0 s.log.sens (4 * b + 1), Sparse.get 0 s.log.sens (4 * b + 2))
  | 5 => (s.unitBoot, s.imgStat, s.reg .img 0x58)
  | 6 => (s.reg .mgt 0xEC, 0, 0)
  | _ => (s.reg p 0x10, (match eventKey p b with | some k => s.view p k | none => 0), word rep)

/-- Write the record of a page event; those of PREC name the page concerned (R469, log entry 62). -/
def State.logEvent (s : State) (p : Page) (b rep : Nat) : State :=
  let d := s.eventDetail p b rep
  let page := if p = .prec then (Sparse.get 1 s.log.sens (100 + b)).toNat else p.code
  s.logRaw (eventType p b) b (if eventType p b = 1 then page else 0) d.1 d.2.1 d.2.2

/-- The key of a repeat window (R378). -/
def winKey (p : Page) (b : Nat) : Nat := 32 * p.code + b

/-- The LOG route: the first of a second writes a record and opens the window, a repeat is counted (R378). -/
def State.logRoute (s : State) (p : Page) (b : Nat) : State :=
  match Sparse.find s.log.wins (winKey p b) with
  | some w => { s with log := { s.log with wins := Sparse.put s.log.wins (winKey p b) { count := w.count + 1 } } }
  | none =>
      let s1 := s.logEvent p b 0
      { s1 with log := { s1.log with wins := Sparse.put s1.log.wins (winKey p b) { count := 0 } } }

/-! ## Messages -/

/-- Can function f send messages now (R105, R124): D0 and in no reset, link up, MSI-X enabled and not masked as a whole? -/
def State.canSend (s : State) (f : Nat) : Bool :=
  (s.func f).dstate = .d0 && !(s.func f).inReset && s.host.up && (s.func f).cfg.msixEnable && !(s.func f).cfg.msixMask

/-- Send the message of vector v of function f, or set its pending bit while it cannot be sent (R105). A vector outside
the function's allocation sends nothing (R46). -/
def State.sendMsix (s : State) (f v : Nat) : State :=
  if (s.func f).asg.vectors ≤ v then s
  else if s.canSend f && !(s.msix f v).masked then s.emit (.msix f v (s.func f).cfg.idoReq)
  else if s.host.pba.contains (2048 * f + v) then s
  else { s with host := { s.host with pba := (2048 * f + v) :: s.host.pba } }

/-! ## Events (R46) -/

/-- The function that the FUNC route of a page reaches. -/
def State.routeFunc (s : State) (p : Page) : Nat :=
  let o := s.field p 0x20 3 0
  if 1 ≤ o ∧ o ≤ 4 then o - 1 else if o = 5 then s.field p 0x20 25 16 + 3 else 0

/-- Act on every selected route for one bit of PG_EVT_PEND that rose. -/
def State.route (s : State) (p : Page) (b : Nat) : State :=
  let r := s.reg p 0x1C
  let s1 := if bitOn r 0 then s.logRoute p b else s
  let s2 := if bitOn r 1 then s1.emit (.notice p.code b) else s1
  if bitOn r 2 then s2.sendMsix (s2.routeFunc p) (fld r 26 16) else s2

/-- Set the event bits `m` and route those that newly stand unmasked, lowest first. -/
def State.raiseBits (s : State) (p : Page) (m : Word) : State :=
  let rising := m &&& ~~~(s.reg p 0x10) &&& ~~~(s.reg p 0x14)
  let s1 := s.setReg p 0x10 (s.reg p 0x10 ||| m)
  (List.range 32).foldl (fun t b => if bitOn rising b then t.route p b else t) s1

/-- Raise TAIL_LOST where a record was lost since `before` (R377). -/
def State.noteLoss (before s : State) : State :=
  if s.reg .log 0x4C = before.reg .log 0x4C then s else s.raiseBits .log 1

/-- Raise event bit b of a page. -/
def State.raise (s : State) (p : Page) (b : Nat) : State := State.noteLoss s (s.raiseBits p (bit b))

/-- Raise event bit b where `c` holds. -/
def State.raiseIf (s : State) (c : Bool) (p : Page) (b : Nat) : State := if c then s.raise p b else s

/-- Bits of PG_EVT_PEND that rise by a change of PG_EVT_MASK act on the routes too (R46). -/
def State.unmasked (s : State) (p : Page) (old : Word) : State :=
  let rising := s.reg p 0x10 &&& old &&& ~~~(s.reg p 0x14)
  State.noteLoss s ((List.range 32).foldl (fun t b => if bitOn rising b then t.route p b else t) s)

/-- End an image command: IMG_RESULT and CMD_DONE (R383). -/
def State.imgEnd (s : State) (code comp : Nat) : State := (s.setReg .img 0x58 (word (comp * 256 + code))).raise .img 0

/-- Discard the host reads that satisfy p before they have ended (R103, R124). What they served has met a host read error: an image
command ends here, a transfer, a visit or a load at its own event (DESIGN CHOICE, log entry 103). -/
def State.discardReads (s : State) (p : HostRead → Bool) : State :=
  let gone := s.host.reads.filter p
  let kept := (gone.filter (fun r => r.use.lasts)).map (fun (r : HostRead) => { r with want := [], out := 0, failed := true })
  let s1 := s.closeReads p
  let s2 := { s1 with host := { s1.host with reads := s1.host.reads ++ kept } }
  let s3 := if gone.any (fun r => decide (r.use = .image)) then { s2 with boot := { s2.boot with write := none } }.imgEnd 5 0 else s2
  if gone.any (fun r => decide (r.use = .keys)) then { s3 with keys := { s3.keys with wait := none } }.imgEnd 5 0 else s3

/-- Write a record that is no page event. -/
def State.note (s : State) (ty code : Nat) (d0 d1 d2 : Word) : State :=
  State.noteLoss s (s.logRaw ty code 0 d0 d1 d2)

/-- Raise a sensor event with its sensor, value and limit (R460, type 3). -/
def State.raiseSensor (s : State) (b : Nat) (sensor value limit : Word) : State :=
  let m := Sparse.put (Sparse.put (Sparse.put s.log.sens (4 * b) sensor) (4 * b + 1) value) (4 * b + 2) limit
  { s with log := { s.log with sens := m } }.raise .mgt b

/-- Record a session's start or end (R460, type 4). -/
def State.noteSession (s : State) (master : Nat) (start operate : Bool) (peer : Word) (served : Nat) : State :=
  s.note 4 0 (word (operate.toNat * 512 + start.toNat * 256 + master)) peer (word served)

/-! ## Locks (R36 to R40) and pages -/

/-- The key of a page's register by its code. -/
def codeKey (code off : Nat) : Nat := code * 1024 + off / 4 % 1024

/-- Free a page's lock and count PG_SEQ. -/
def State.unlock (s : State) (code : Nat) : State :=
  { s with locks := Sparse.del s.locks code,
           regs := Sparse.set 0 s.regs (codeKey code 0x2C) (Sparse.get 0 s.regs (codeKey code 0x2C) + 1) }

/-- Free every lock whose holder satisfies `p` (R40). -/
def State.unlockBy (s : State) (p : Master → Bool) : State :=
  (s.locks.filter (fun e => p e.2)).foldl (fun t e => t.unlock e.1) s

/-- Every register of the pages of these codes back at its reset value, their locks and snapshots gone. -/
def State.clearPages (s : State) (p : Nat → Bool) : State :=
  { s with regs := Sparse.keep (fun k => !p (k / 1024)) s.regs, locks := Sparse.keep (fun k => !p k) s.locks,
           snaps := Sparse.keep (fun k => !p k) s.snaps, held := s.held.filter (fun h => !p h.page.code),
           log := { s.log with wins := Sparse.keep (fun k => !p (k / 32)) s.log.wins } }

/-- How many places after the one last served `i` stands, in a circle of n: the order of a round-robin. -/
def turn (n last i : Nat) : Nat := (i + 2 * n - last - 1) % n

/-! ## Sub-states -/

/-- Change an island. -/
def State.setIsland (s : State) (i : Island) (x : IslSt) : State :=
  { s with isl := Sparse.set IslSt.reset s.isl i.num x }

/-- Change a function. -/
def State.setFunc (s : State) (f : Nat) (x : Func) : State := { s with funcs := Sparse.set (Func.reset f) s.funcs f x }

/-- Change a port. -/
def State.setPort (s : State) (p : Nat) (x : PortSt) : State := { s with ports := Sparse.set PortSt.reset s.ports p x }

/-- Change a port's gates. -/
def State.setGate (s : State) (p : Nat) (x : GateSt) : State := { s with gates := Sparse.set GateSt.reset s.gates p x }

/-- Change a thread. -/
def State.setThread (s : State) (c t : Nat) (x : Thread) : State :=
  { s with nyate := { s.nyate with threads := Sparse.set Thread.reset s.nyate.threads (128 * c + t) x } }

/-- Change a cluster. -/
def State.setCluster (s : State) (c : Nat) (x : Cluster) : State :=
  { s with nyate := { s.nyate with clusters := Sparse.set Cluster.reset s.nyate.clusters c x } }

/-- Change a table's entries. -/
def TblSt.setEntries (t : TblSt) (k : Nat) (m : Sparse (List Byte)) : TblSt :=
  match k with
  | 0 => { t with mac := m } | 1 => { t with flow := m } | 2 => { t with tun := m } | _ => { t with sa := m }

/-- Write a table entry's bytes; an error that stood in it is gone. -/
def State.setEntry (s : State) (k i : Nat) (e : List Byte) : State :=
  let t := s.tbl.setEntries k (Sparse.set (List.replicate (entrySize k) 0) (s.tbl.entries k) i e)
  { s with tbl := { t with bad := t.bad.filter (fun x => x ≠ (k, i)) } }

/-- Write a connection context's bytes. -/
def State.setConn (s : State) (c : Nat) (b : List Byte) : State :=
  { s with sto := { s.sto with ctx := Sparse.set (List.replicate 128 0) s.sto.ctx c b } }

/-- Change a work queue, or remove it. -/
def State.setWq (s : State) (f q : Nat) (x : Option WqSt) : State :=
  let k := 256 * f + q
  { s with queues := { s.queues with
      wq := (match x with | some w => Sparse.put s.queues.wq k w | none => Sparse.del s.queues.wq k) } }

/-- Change a completion queue, or remove it. -/
def State.setCq (s : State) (f q : Nat) (x : Option CqSt) : State :=
  let k := 256 * f + q
  { s with queues := { s.queues with
      cq := (match x with | some w => Sparse.put s.queues.cq k w | none => Sparse.del s.queues.cq k) } }

/-- The work queue q of function f, if enabled. -/
def State.wq (s : State) (f q : Nat) : Option WqSt := Sparse.find s.queues.wq (256 * f + q)

/-- The completion queue q of function f, if enabled. -/
def State.cq (s : State) (f q : Nat) : Option CqSt := Sparse.find s.queues.cq (256 * f + q)

/-- Change the frames satisfying `p`. -/
def State.mapFrames (s : State) (p : Frame → Bool) (g : Frame → Frame) : State :=
  { s with frames := s.frames.map (fun x => if p x then g x else x) }

/-- The frame of a number. -/
def State.frame (s : State) (id : Nat) : Option Frame := s.frames.find? (fun x => x.id = id)

/-- A frame joins a queue: it goes behind every other frame, each of which keeps its place. -/
def State.toBack (s : State) (x : Frame) : State := { s with frames := s.frames.filter (fun y => y.id ≠ x.id) ++ [x] }

/-- Apply `k` to the frame of a number where it still stands. -/
def State.onFrame (s : State) (id : Nat) (k : State → Frame → State) : State :=
  match s.frame id with | some x => k s x | none => s

/-- Change the frame of a number. -/
def State.setFrame (s : State) (x : Frame) : State := s.mapFrames (fun y => y.id = x.id) (fun _ => x)

/-! ## Wake (R112, R113) -/

/-- The PME context of a PF that nothing has armed. -/
def Pme.reset : Pme := { enable := false, status := false, sent := false }

/-- PME context of PF k. -/
def State.pme (s : State) (k : Nat) : Pme := s.host.pme.getD k Pme.reset

/-- Change it. -/
def State.setPme (s : State) (k : Nat) (x : Pme) : State := { s with host := { s.host with pme := setAt Pme.reset s.host.pme k x } }

/-- Send a PM_PME of PF k. -/
def State.sendPme (s : State) (k : Nat) : State :=
  (((s.emit (.pmPme k)).add .hlnk 0x50 15 0 1).raise .hlnk 5).setPme k { s.pme k with sent := true }

/-- Assert WAKE# where it is not asserted. -/
def State.driveWake (s : State) : State :=
  if bitOn (s.reg .hlnk 0x4C) 16 then s
  else ((s.setBit .hlnk 0x4C 16 true).add .hlnk 0x50 31 16 1).emit (.wake true)

/-- Act for PF k where PME_Status and PME_En are both 1, by the state of the link (R113). -/
def State.actPme (s : State) (k : Nat) : State :=
  if !((s.pme k).enable && (s.pme k).status) then s
  else if s.host.up then s.sendPme k
  else if s.host.link = .down then s.driveWake else s

/-- A wake source enabled in HLNK_WAKE sets PME_Status in every selected PF (R112): 0 command, 1 receive, 2 mailbox. -/
def State.wakeHost (s : State) (src : Nat) : State :=
  let w := s.reg .hlnk 0x4C
  if !bitOn w (8 + src) then s
  else [0, 1, 2, 3].foldl (fun t k =>
    if bitOn w k && !(t.pme k).status then (t.setPme k { t.pme k with status := true }).actPme k else t) s

/-- The command changes nothing. -/
abbrev same (s : State) : Host.Outcome State Fault Refusal := .next s

end Sys2Proof.Machine
end

