-- ==== Sys2Proof/Machine/Arbiter.lean ====
section
/-!
DEFINITION. Machine/Arbiter.lean: who may write a page (R21, R25, R28, R29, R38, R39), who reads it (R27), and how a page cycle's
discards are recorded (R34, R47, R48).
-/
namespace Sys2Proof

/-- The page's number of a register of R370 and others: is this request a lock read? -/
def Req.isRead (r : Req) : Bool := match r.kind with | .lockRead => true | .write _ => false

/-- The value a request writes. -/
def Req.val (r : Req) : Word := match r.kind with | .lockRead => 0 | .write v => v

/-- WORD of a discarded request (R34, R37). -/
def Req.word (r : Req) : Nat := if r.isRead then 9 else r.off.toNat / 4

end Sys2Proof

namespace Sys2Proof.Machine

open Sys2Proof

/-! ## Who may write (R21, R28, R29, R38, R39) -/

/-- The holder of a page's lock. -/
def State.lockOf (s : State) (p : Page) : Option Master := Sparse.find s.locks p.code

/-- Is a master the one PG_OWNER names, with its SUB (R28)? -/
def State.owns (s : State) (p : Page) (m : Master) : Bool :=
  let w := s.reg p 0x20
  decide (fld w 3 0 = m.num) && (decide (m.num ≠ 5 ∧ m.num ≠ 8) || decide (fld w 25 16 = m.sub))

/-- May a master write the page under R21, R22 and R28? None writes the metering domain of a KB-1024-N (R2). -/
def State.mayWrite (s : State) (p : Page) (m : Master) : Bool :=
  if p.safety then decide (m = .saf)
  else if p.metering then decide (m = .meter) && s.hasMeter
  else if m = .saf ∨ m = .meter then false
  else m.overseer || s.owns p m || (decide (m = .yemor) && bitOn (s.reg p 0x20) 29)

/-- Is a value of PG_OWNER one that R29 accepts on a page? -/
def ownerOk (p : Page) (v : Word) : Bool :=
  let o := fld v 3 0
  let sub := fld v 25 16
  !p.fixedOwner && decide (o ≠ 0) && decide (o ≠ 9) && decide (o ≠ 10) && decide (o < 13) &&
    (decide (o ≠ 5) || (decide (1 ≤ sub) && decide (sub ≤ 1020))) && (decide (o ≠ 8) || decide (sub ≤ 7)) && !(decide (p = .cry) && bitOn v 29)

/-- Is a write accepted (R7, R21, R28, R29, R38, R39)? -/
def State.accepts (s : State) (p : Page) (r : Req) : Bool :=
  let off := r.off.toNat
  let inDomain := if p.safety then decide (r.master = .saf) else if p.metering then decide (r.master = .meter) && s.hasMeter
    else decide (r.master ≠ .saf) && decide (r.master ≠ .meter)
  if r.width ≠ 4 || off % 4 ≠ 0 || !inDomain then false
  else if off = 0x24 then
    (match s.lockOf p with
     | some h => decide (fld r.val 3 0 = h.num) && (decide (h = r.master) || r.master.overseer)
     | none => false)
  else if !s.mayWrite p r.master then false
  else
    (match s.lockOf p with | some h => decide (h = r.master) | none => true) && (off ≠ 0x20 || (r.master.overseer && ownerOk p r.val))

/-! ## Who reads (R27) -/

/-- Does a window of PF k reach the page (R98)? -/
def State.windowTo (s : State) (k : Nat) (p : Page) : Bool :=
  (List.range 15).any (fun i =>
    let w := s.reg .hwin (0x140 + 0x40 * (k - 1) + 4 * (i + 1))
    bitOn w 31 && decide (fld w 19 0 = p.base / 0x10000))

/-- Does a slot of the two-wire window reach the page (R406)? -/
def State.slotTo (s : State) (p : Page) : Bool :=
  p = .twp || (List.range 7).any (fun i =>
    let w := s.reg .twp (0x44 + 4 * i)
    bitOn w 31 && decide (fld w 23 0 * 0x1000 = p.base))

/-- Does a master read the page (R27)? PF0 reprograms its windows to reach any page. -/
def State.reaches (s : State) (p : Page) (m : Master) : Bool :=
  match m with
  | .pf0 | .mgt | .yemor | .nyate _ | .saf | .krds => true
  | .pf k => decide (p = funcPage (k.val + 1)) || decide (p = mbxPage (k.val + 1)) || s.windowTo (k.val + 1) p
  | .vf n => decide (p = funcPage (n.val + 4)) || decide (p = mbxPage (n.val + 4))
  | .meter => p.metering
  | .twp => s.slotTo p

/-- Does a lock read take part in arbitration: its master reaches and may write the page, and the lock is free or its own (R27,
R37)? -/
def State.competes (s : State) (p : Page) (m : Master) : Bool :=
  s.reaches p m && s.mayWrite p m && (match s.lockOf p with | some h => decide (h = m) | none => true)

/-! ## The records of discards (R34, R48) -/

/-- The highest-ranked of several requests, the first among equals. -/
def topReq (l : List Req) : Option Req :=
  match l with
  | [] => none
  | r :: t => match topReq t with | some x => if x.master.rank < r.master.rank then some x else some r | none => some r

/-- Record one discard in PG_CONFLICT, and add n to its COUNT. -/
def State.noteConflict (s : State) (p : Page) (r : Req) (refused : Bool) (n : Nat) : State :=
  let c := min 65535 (s.field p 0x28 15 0 + n)
  s.setReg p 0x28 (word (r.master.num * 2 ^ 28 + refused.toNat * 2 ^ 27 + r.word % 1024 * 2 ^ 16 + c))

/-- Record the discards of a cycle: PG_CONFLICT describes the highest-ranked of them; PREC counts them, and holds and reports the
highest-ranked refusal (R34, R47, R48). -/
def State.noteDiscards (s : State) (p : Page) (lost refused : List Req) : State :=
  let t := match topReq (refused ++ lost) with
    | some r => s.noteConflict p r (refused.contains r) (lost.length + refused.length)
    | none => s
  let u := (t.add .prec 0x60 31 0 lost.length).add .prec 0x64 31 0 refused.length
  match topReq refused with
  | some r =>
      let w := u.setReg .prec 0x6C (word (r.master.num * 2 ^ 28 + r.word % 1024 * 2 ^ 16 + p.index))
      { w with log := { w.log with sens := Sparse.put w.log.sens 101 (word p.code) } }.raise .prec 1
  | none => u

end Sys2Proof.Machine
end

