-- ==== Sys2Proof/Machine/Flags.lean ====
section
/-!
DEFINITION. Machine/Flags.lean: the arithmetic of a Nyate thread with its flags (R325 to R328). Every function answers the
result and the flags it names; a flag that is `none` is left unchanged.
-/
namespace Sys2Proof.Machine

open Sys2Proof

/-- The flags an instruction writes; `none` leaves one unchanged (R325). -/
structure Flags where
  z : Option Bool := none
  n : Option Bool := none
  c : Option Bool := none
  v : Option Bool := none
  deriving DecidableEq, Repr

/-- Set bit i of SW. -/
def swBit (sw : NWord) (i : Nat) (b : Bool) : NWord :=
  if b then sw ||| BitVec.ofNat 18 (2 ^ i) else sw &&& ~~~(BitVec.ofNat 18 (2 ^ i))

/-- Write one flag where it is named. -/
def swFlag (sw : NWord) (i : Nat) (b : Option Bool) : NWord := match b with | some x => swBit sw i x | none => sw

/-- SW after an instruction's flags: SO is set whenever V is set to 1 (R322). -/
def applyFlags (sw : NWord) (f : Flags) : NWord :=
  let w := swFlag (swFlag (swFlag (swFlag sw 0 f.z) 1 f.n) 2 f.c) 3 f.v
  if f.v = some true then swBit w 4 true else w

/-- The defined bits of SW (R322): Z, N, C, V, SO, DZ and TRAP_DZ. -/
def swDefined : NWord := 0x13F

/-- C of SW. -/
def carry (sw : NWord) : Bool := sw.getLsbD 2

/-- Z of an 18-bit result. -/
def zOf (r : NWord) : Bool := r = 0
/-- N of an 18-bit result. -/
def nOf (r : NWord) : Bool := r.getLsbD 17

/-- Is an exact signed result outside the signed range? -/
def outside (x : Int) : Bool := decide (x < -131072) || decide (131071 < x)

/-- Addition with a carry in (R325): C is the carry out of bit 17, V a signed result outside the range. -/
def addF (a b : NWord) (cin : Bool) : NWord × Flags :=
  let r := a + b + BitVec.ofNat 18 cin.toNat
  (r, { z := some (zOf r), n := some (nOf r), c := some (decide (2 ^ 18 ≤ a.toNat + b.toNat + cin.toNat)),
        v := some (outside (a.toInt + b.toInt + cin.toNat)) })

/-- Subtraction with a borrow in (R325): C = 1 when the subtrahend with the incoming C exceeds the minuend. -/
def subF (a b : NWord) (cin : Bool) : NWord × Flags :=
  let r := a - b - BitVec.ofNat 18 cin.toNat
  (r, { z := some (zOf r), n := some (nOf r), c := some (decide (a.toNat < b.toNat + cin.toNat)),
        v := some (outside (a.toInt - b.toInt - cin.toNat)) })

/-- A logic result: Z and N. -/
def logicF (r : NWord) : NWord × Flags := (r, { z := some (zOf r), n := some (nOf r) })

/-- A shift or rotation result: Z, N and C. -/
def shiftF (r : NWord) (c : Bool) : NWord × Flags := (r, { z := some (zOf r), n := some (nOf r), c := some c })

/-- SHL (R326). -/
def shlF (x k : NWord) : NWord × Flags :=
  let n := k.toNat
  if n = 0 then shiftF x false
  else if n ≤ 18 then shiftF (x <<< n) (x.getLsbD (18 - n))
  else shiftF 0 false

/-- SHR (R326). -/
def shrF (x k : NWord) : NWord × Flags :=
  let n := k.toNat
  if n = 0 then shiftF x false
  else if n ≤ 18 then shiftF (x >>> n) (x.getLsbD (n - 1))
  else shiftF 0 false

/-- SAR (R326): 18 copies of bit 17 from k = 18 on, C then being bit 17. -/
def sarF (x k : NWord) : NWord × Flags :=
  let n := min k.toNat 18
  if n = 0 then shiftF x false else shiftF (x.sshiftRight n) (x.getLsbD (n - 1))

/-- ROL (R326): by k mod 18; C is bit 0 of the result, 0 for a rotation by 0. -/
def rolF (x k : NWord) : NWord × Flags :=
  let n := k.toNat % 18
  let r := x.rotateLeft n
  shiftF r (decide (n ≠ 0) && r.getLsbD 0)

/-- ROR (R326): by k mod 18; C is bit 17 of the result, 0 for a rotation by 0. -/
def rorF (x k : NWord) : NWord × Flags :=
  let n := k.toNat % 18
  let r := x.rotateRight n
  shiftF r (decide (n ≠ 0) && r.getLsbD 17)

/-- NEG (R325, R327). -/
def negF (a : NWord) : NWord × Flags :=
  let r := 0 - a
  (r, { z := some (zOf r), n := some (nOf r), c := some (decide (a ≠ 0)), v := some (decide (a = 0x20000)) })

/-- ABS (R325, R327). -/
def absF (a : NWord) : NWord × Flags :=
  let r := if a.getLsbD 17 then 0 - a else a
  (r, { z := some (zOf r), n := some (nOf r), v := some (decide (a = 0x20000)) })

/-- A 36-bit product as a pair, Z when all 36 bits are 0, N bit 35, C = V = 0 (R325). -/
def productF (p : BitVec 36) : NWord × NWord × Flags :=
  (p.setWidth 18, (p >>> 18).setWidth 18,
    { z := some (decide (p = 0)), n := some (p.getLsbD 35), c := some false, v := some false })

/-- MULU (R325). -/
def muluF (a b : NWord) : NWord × NWord × Flags := productF (BitVec.ofNat 36 (a.toNat * b.toNat))

/-- MULS (R325). -/
def mulsF (a b : NWord) : NWord × NWord × Flags := productF (BitVec.ofInt 36 (a.toInt * b.toInt))

/-- DIVU by a divisor that is not 0 (R325): quotient, remainder. -/
def divuF (a b : NWord) : NWord × NWord × Flags :=
  let q := BitVec.ofNat 18 (a.toNat / b.toNat)
  (q, BitVec.ofNat 18 (a.toNat % b.toNat),
    { z := some (zOf q), n := some (nOf q), c := some false, v := some false })

/-- DIVS by a divisor that is not 0 (R325, R327): truncated toward zero, the remainder with the dividend's sign. -/
def divsF (a b : NWord) : NWord × NWord × Flags :=
  let q := BitVec.ofInt 18 (a.toInt.tdiv b.toInt)
  (q, BitVec.ofInt 18 (a.toInt.tmod b.toInt),
    { z := some (zOf q), n := some (nOf q), c := some false, v := some (decide (a = 0x20000) && decide (b = 0x3FFFF)) })

/-- A division by zero with TRAP_DZ = 0 (R328): quotient 0, remainder the dividend, Z = 1, N = C = V = 0. -/
def divZeroF (a : NWord) : NWord × NWord × Flags :=
  (0, a, { z := some true, n := some false, c := some false, v := some false })

/-- The condition codes of BR (R329). -/
def condHolds (sw : NWord) (c : BitVec 4) : Bool :=
  let z := sw.getLsbD 0; let n := sw.getLsbD 1; let cy := sw.getLsbD 2; let v := sw.getLsbD 3
  match c.toNat with
  | 0 => true | 1 => z | 2 => !z | 3 => cy | 4 => !cy | 5 => n | 6 => !n | 7 => v | 8 => !v
  | 9 => !cy && !z | 10 => cy || z | 11 => n == v | 12 => n != v | 13 => !z && n == v | 14 => z || n != v
  | _ => sw.getLsbD 4

end Sys2Proof.Machine
end

