-- ==== Sys2Proof/Machine/Packet.lean ====
section
/-!
DEFINITION. Machine/Packet.lean: reading the bytes of a frame: tags and EtherType (R198), the HSR tag (R187), the stitch
bits (R164, R165), the multicast filter (R196, R197), steering (R198, R199) and the reserve a frame belongs to (R15, R167).
The layouts of the HSR tag and the PRP trailer are those of IEC 62439-3 (PRESUMED, log entry 10).
-/
namespace Sys2Proof.Machine

open Sys2Proof

/-- The data bytes of stored nonets. -/
def bytesOf (n : List Nonet) : List Byte := n.map (fun x => x.setWidth 8)

/-- A frame's bytes. -/
def Frame.body (x : Frame) : List Byte := bytesOf x.nonets

/-- A byte as a nonet with its stitch bit. -/
def nonet (b : Byte) (stitch : Bool) : Nonet := b.setWidth 9 ||| BitVec.ofNat 9 (stitch.toNat * 256)

/-- Store bytes as nonets with stitch bits at the given offsets. -/
def stitched (b : List Byte) (at_ : List Nat) : List Nonet :=
  (List.range b.length).zipWith (fun i x => nonet x (at_.contains i)) b

/-- A VLAN tag protocol identifier (R198). -/
def isVlan (t : Nat) : Bool := t = 0x8100 || t = 0x88A8

/-- The HSR EtherType. -/
def hsrType : Nat := 0x892F

/-- Does a frame carry an HSR tag directly behind its addresses or its first VLAN tag? The tag's offset. -/
def hsrPos (b : List Byte) : Option Nat :=
  if beAt b 12 2 = hsrType then some 12
  else if isVlan (beAt b 12 2) && beAt b 16 2 = hsrType then some 16 else none

/-- The offset of the EtherType behind at most n VLAN tags, an HSR tag being stepped over where `hsr` holds (R198). -/
def etherFrom (hsr : Bool) (b : List Byte) (n : Nat) (pos : Nat) : Nat :=
  match n with
  | 0 => pos
  | n + 1 =>
      let t := beAt b pos 2
      if isVlan t then
        if hsr && beAt b (pos + 4) 2 = hsrType then etherFrom hsr b n (pos + 10) else etherFrom hsr b n (pos + 4)
      else pos

/-- The offset of a frame's EtherType after at most two tags; on a ring port with HSR, the one after the HSR tag. -/
def etherPos (hsr : Bool) (b : List Byte) : Nat :=
  etherFrom hsr b 2 (if hsr && beAt b 12 2 = hsrType then 18 else 12)

/-- A frame's EtherType. -/
def etherType (hsr : Bool) (b : List Byte) : Nat := beAt b (etherPos hsr b) 2

/-- The tag control information of the outermost VLAN tag, if there is one. -/
def outerTag (hsr : Bool) (b : List Byte) : Option Nat :=
  let pos := if hsr && beAt b 12 2 = hsrType then 18 else 12
  if isVlan (beAt b pos 2) then some (beAt b (pos + 2) 2) else none

/-- The PCP of the outermost tag, 0 when untagged (R334). -/
def outerPcp (hsr : Bool) (b : List Byte) : Nat := match outerTag hsr b with | some t => t / 8192 | none => 0

/-- Where the parser sets stitch bits (R164): the first nonet, the HSR tag (R217), the network header and, for IP, the
transport header (DEDUCED, log entry 11). -/
def boundaries (b : List Byte) : List Nat :=
  let p := etherPos true b
  let l3 := p + 2
  let hsr := match hsrPos b with | some i => [i] | none => []
  let l4 := if beAt b p 2 = 0x0800 then [l3 + byteAt b l3 % 16 * 4]
    else if beAt b p 2 = 0x86DD then [l3 + 40] else []
  0 :: (hsr ++ l3 :: l4)

/-- Sequence number of an HSR tag at offset i. -/
def hsrSeq (b : List Byte) (i : Nat) : Nat := beAt b (i + 4) 2

/-- The size field of an HSR tag at offset i. -/
def hsrSize (b : List Byte) (i : Nat) : Nat := beAt b (i + 2) 2 % 4096

/-- A PRP trailer at the end of a frame without its check sequence: sequence number and LAN identifier. -/
def rct (b : List Byte) : Option (Nat × Nat) :=
  let e := b.length - 6
  if 66 ≤ b.length ∧ beAt b (e + 4) 2 = 0x88FB then some (beAt b e 2, beAt b (e + 2) 2 / 4096) else none

/-- Destination and source address as 48-bit numbers, the first byte on the wire most significant (R196). -/
def dstAddr (b : List Byte) : Nat := beAt b 0 6
def srcAddr (b : List Byte) : Nat := beAt b 6 6

/-- The group bit of an address. -/
def isGroup (a : Nat) : Bool := a.testBit 40

/-- The broadcast address. -/
def bcast : Nat := 0xFFFFFFFFFFFF

/-- 01-80-C2-00-00-0E (R197, R205). -/
def ptpPeer : Nat := 0x0180C200000E

/-- The multicast bin of an address (R196). -/
def mcBin (a : Nat) : Nat := (a / 2 ^ 36 % 4096) ^^^ (a / 2 ^ 24 % 4096) ^^^ (a / 2 ^ 12 % 4096) ^^^ (a % 4096)

/-- RING_MAC. -/
def State.ringMac (s : State) : Nat := s.reg64 .ring 0x44 % 2 ^ 48

/-- HSR is in effect on this port. -/
def State.hsrOn (s : State) (p : Nat) : Bool := decide (p < 2) && s.hsr

/-- KPT_ETYPE in force: the parameter block's, or the factory value while none is held (R419, R425). -/
def State.kptEtype (s : State) : Nat := if s.saf.block.isEmpty then 0x88B6 else beAt s.saf.block 14 2

/-- Does the KPT parser of SAF take this frame (R15, R421 check 1)? It passes none while no block is held (R431). -/
def State.isKpt (s : State) (p : Nat) (b : List Byte) : Bool :=
  !s.saf.block.isEmpty && decide (etherType (s.hsrOn p) b = beAt s.saf.block 14 2) &&
    (match outerTag (s.hsrOn p) b with
     | some t => decide (t % 4096 = beAt s.saf.block 12 2 % 4096) && decide (t / 8192 = 7)
     | none => false)

/-- Is this a ring frame on the management VLAN (R367)? -/
def State.isMgtVlan (s : State) (p : Nat) (b : List Byte) : Bool :=
  decide (p < 2) && bitOn (s.reg .mgt 0x40) 0 &&
    (match outerTag (s.hsrOn p) b with | some t => decide (t % 4096 = s.field .mgt 0x40 27 16) | none => false)

/-- Will the pass-through forward this tagged frame (R205, R217), as far as its addresses tell? -/
def State.isTransit (s : State) (p : Nat) (b : List Byte) : Bool :=
  s.hsrOn p && (hsrPos b).isSome && decide (dstAddr b ≠ s.ringMac) && decide (srcAddr b ≠ s.ringMac) && decide (dstAddr b ≠ ptpPeer)

/-- The reserve that takes a frame at step 3 of R184: a frame the pass-through forwards is held in the transit reserve, on the management
VLAN too (R15, R167); only KPT frames are not (R219). -/
def State.reserveOf (s : State) (p : Nat) (b : List Byte) : Option Part :=
  if s.isKpt p b then some .safety else if s.isTransit p b then some .ring
  else if s.isMgtVlan p b then some .mgt else none

/-- The multicast filter (R197). -/
def State.mcastOk (s : State) (p : Nat) (b : List Byte) : Bool :=
  let a := dstAddr b
  let f := s.reg (portPage p) 0x54
  if !isGroup a then true
  else if a = bcast then !bitOn f 1 || bitOn f 0
  else if a = ptpPeer then true
  else if s.hsrOn p && a / 256 = 0x01154E0001 then true
  else bitOn f 0 || bitOn (s.reg (portPage p) (0x400 + 4 * (mcBin a / 32))) (mcBin a % 32)

/-- Does a steering rule match (R198)? `a` is word A, `e` its EtherType. -/
def ruleMatches (a : Word) (e : Nat) (tag : Option Nat) (ety : Nat) : Bool :=
  bitOn a 31 && (!bitOn a 23 || tag.isNone) &&
    (!bitOn a 26 || (match tag with | some t => decide (t % 4096 = fld a 11 0) | none => false)) &&
    (!bitOn a 25 || (match tag with | some t => decide (t / 8192 = fld a 14 12) | none => false)) &&
    (!bitOn a 24 || decide (ety = e))

/-- Steering from rule r on (R199): `none` drops, else the class. -/
def State.steerFrom (s : State) (p : Nat) (tag : Option Nat) (ety : Nat) (n r : Nat) : Option Nat :=
  match n with
  | 0 => some (s.field (portPage p) 0x68 2 0)
  | n + 1 =>
      let a := s.reg (portPage p) (0x800 + 8 * r)
      if ruleMatches a (s.field (portPage p) (0x804 + 8 * r) 15 0) tag ety then
        if bitOn a 30 then none else some (fld a 29 27)
      else s.steerFrom p tag ety n (r + 1)

/-- The ingress class of a frame (R199). -/
def State.steer (s : State) (p : Nat) (b : List Byte) : Option Nat :=
  s.steerFrom p (outerTag (s.hsrOn p) b) (etherType (s.hsrOn p) b) 256 0

/-- The cluster that takes ingress class k of port p (R201). -/
def State.classCluster (s : State) (p k : Nat) : Nat := s.field (portPage p) 0x64 (4 * k + 2) (4 * k)

/-- Does a cluster take frames: not halted, its island ACTIVE or IDLE (R201)? -/
def State.clusterTakes (s : State) (c : Nat) : Bool :=
  (s.cluster c).halt = 0 && (s.island (.nyc (Fin.ofNat 8 c))).awake

/-- The cells of n bytes (R164). -/
def cellsOf (n : Nat) : Nat := (n + 255) / 256

/-! ## SecTAG (R262, R263) -/

/-- A frame that carries a SecTAG. -/
def hasSecTag (b : List Byte) : Bool := beAt b 12 2 = 0x88E5

/-- Length of the SecTAG a received frame carries. -/
def secTagLen (b : List Byte) : Nat := if nbit (byteAt b 14) 5 then 16 else 8

/-- SCI of a received frame: its own, or CRY_MS_PEER_SCI of the port (R263). -/
def State.rxSci (s : State) (p : Nat) (b : List Byte) : List Byte :=
  if nbit (byteAt b 14) 5 then slice b 20 8 else leBytes 8 (s.reg64 .cry (0x50 + 8 * p))

/-- What a received frame's SA is searched by: STYPE 2 with PORT, AN and SCI (R263, R268). -/
def State.rxKey (s : State) (p : Nat) (b : List Byte) : List Byte :=
  [2, 0, BitVec.ofNat 8 (p + byteAt b 14 % 4 * 16), 0] ++ s.rxSci p b ++ List.replicate 52 0

end Sys2Proof.Machine
end

