-- ==== Sys2Proof/Machine/Hamper.lean ====
section
/-!
DEFINITION. Machine/Hamper.lean: the buffer pool (chapter 8): admission (R170), the reserves (R167), transfers (R173), the
end of a frame and what its work queue learns of it (R231, R277), DMA bursts and the age rule (R175, R176).
-/
namespace Sys2Proof.Machine

open Sys2Proof

/-! ## Admission -/

/-- Change what a channel holds. -/
def State.setHeld (s : State) (c n : Nat) : State := { s with ham := { s.ham with held := Sparse.set 0 s.ham.held c n } }

/-- May channel c be granted n cells now (R170)? -/
def State.admits (s : State) (c n : Nat) : Bool :=
  let h := s.heldBy c
  decide (h + n ≤ s.effectiveCap c) && decide (n - min n (s.committedMin c - h) + s.unused ≤ s.freeCells)

/-- Does only the channel's own cap refuse n cells (R176)? -/
def State.capRefuses (s : State) (c n : Nat) : Bool :=
  let h := s.heldBy c
  decide (s.effectiveCap c < h + n) && decide (n - min n (s.committedMin c - h) + s.unused ≤ s.freeCells)

/-- Is a grant of n cells wholly within the channel's committed minimum (R176)? -/
def State.withinMin (s : State) (c n : Nat) : Bool := decide (s.heldBy c + n ≤ s.committedMin c)

/-- The procedure admit of R170. -/
def State.admitCells (s : State) (c n : Nat) : Option State := if s.admits c n then some (s.setHeld c (s.heldBy c + n)) else none

/-- Ask a part for n cells (R167, R170). -/
def State.admitPart (s : State) (p : Part) (n : Nat) : Option State :=
  match p with
  | .safety => if s.ham.saf + n ≤ 512 then some { s with ham := { s.ham with saf := s.ham.saf + n } } else none
  | .ring => if s.ham.ring + n ≤ 8192 then some { s with ham := { s.ham with ring := s.ham.ring + n } } else none
  | .mgt => if s.ham.mgt + n ≤ 256 then some { s with ham := { s.ham with mgt := s.ham.mgt + n } } else none
  | .chan c => s.admitCells c n

/-- Return n cells to the part they came from (R172). -/
def State.giveBack (s : State) (p : Part) (n : Nat) : State :=
  match p with
  | .safety => { s with ham := { s.ham with saf := s.ham.saf - n } }
  | .ring => { s with ham := { s.ham with ring := s.ham.ring - n } }
  | .mgt => { s with ham := { s.ham with mgt := s.ham.mgt - n } }
  | .chan c => s.setHeld c (s.heldBy c - n)

/-- Is this part a reserve? -/
def Part.reserve : Part → Bool | .chan _ => false | _ => true

/-! ## Work items -/

/-- Finish an item with a status and RESULT (R153). -/
def Item.done (i : Item) (st res : Nat) : Item := { i with fin := some st, result := res, busy := false }

/-- The descriptors of the frame or operation whose EOP descriptor is `last`, given the items from the head on. NOPs (KIND
0x1F) belong to none; outside transmit queues they end one (`eop`). -/
def txRun (last : Nat) (acc : List Nat) (l : List Item) : List Nat :=
  match l with
  | [] => []
  | i :: r =>
      if i.kind = 31 then txRun last (if i.eop then [] else acc) r
      else if i.idx = last then acc ++ [i.idx]
      else txRun last (if i.eop then [] else acc ++ [i.idx]) r

/-- Finish the descriptors of a frame; its EOP descriptor carries RESULT (R231). -/
def WqSt.finishFrame (w : WqSt) (last st res : Nat) : WqSt :=
  let run := txRun last [] w.items
  { w with items := w.items.map (fun i =>
      if run.contains i.idx then i.done st (if i.idx = last then res else 0) else i) }

/-- How a copy of a frame ends: delivered, dropped for a reason of R231, failed in an engine with a code of R276, or
ended by the drain-and-abort rule (R363). -/
inductive FrameEnd where
  | sent
  | drop (reason : Nat)
  | engine (code : Nat)
  | power
  deriving DecidableEq, Repr

/-- The lower of two reasons, 0 standing for none. -/
def lowest (a b : Nat) : Nat := if a = 0 then b else if b = 0 then a else min a b

/-- Gather the end of one copy in its EOP item. -/
def Item.gather (i : Item) (e : FrameEnd) : Item :=
  match e with
  | .sent => { i with sent := true }
  | .drop r => { i with result := lowest i.result r }
  | .engine c => { i with eng := lowest i.eng c }
  | .power => i

/-- The STATUS and RESULT of a transmitted frame all of whose copies have ended (R231, R277, R363). -/
def Item.outcome (i : Item) (e : FrameEnd) : Nat × Nat :=
  if i.sent then (0, 0) else if e = .power then (2, 0) else if i.eng ≠ 0 then (7, i.eng)
  else if i.result ≠ 0 then (8, i.result) else (0, 0)

/-- Tell a function's work queue of the end of a copy; the last copy finishes the frame. -/
def State.reportTx (s : State) (x : Frame) (e : FrameEnd) (lastCopy : Bool) : State :=
  match s.wq x.src x.wq with
  | none => s
  | some w =>
      let w1 := { w with items := w.items.map (fun i => if i.idx = x.last && i.kind = 1 then i.gather e else i) }
      let w2 := if lastCopy then
          match w1.items.find? (fun i => i.idx = x.last && i.kind = 1) with
          | some i => w1.finishFrame x.last (i.outcome e).1 (i.outcome e).2
          | none => w1
        else w1
      s.setWq x.src x.wq (some w2)

/-! ## The end and the movement of frames -/

/-- End a copy of a frame: its cells return to their part, or pass to a copy that is left (R172), and a function's work
queue is told. -/
def State.endFrame (s : State) (x : Frame) (e : FrameEnd) : State :=
  let left := s.frames.filter (fun y => y.id ≠ x.id)
  let s1 := { s with frames := left }
  let kin := left.find? (fun y => y.group = x.group)
  let s2 := if x.cells = 0 then s1 else
    match kin with
    | some y => s1.setFrame { y with part := x.part, cells := x.cells }
    | none => s1.giveBack x.part x.cells
  if x.func then s2.reportTx x e kin.isNone else s2

/-- The frame of a group that carries its cells. -/
def State.holderOf (s : State) (x : Frame) : Option Frame :=
  if x.cells ≠ 0 then some x else s.frames.find? (fun y => y.group = x.group && y.cells ≠ 0)

/-- Move a frame's cells to channel c in one step (R173): release, then admit. Frames in a reserve do not move. -/
def State.moveCells (s : State) (x : Frame) (c : Nat) : Option State :=
  match s.holderOf x with
  | none => some s
  | some h =>
      if h.part.reserve || h.part = .chan c then some s
      else
        match (s.giveBack h.part h.cells).admitCells c h.cells with
        | none => none
        | some t =>
            let t1 := if h.id = x.id then t else t.mapFrames (fun y => y.id = h.id) (fun y => { y with cells := 0 })
            some (t1.mapFrames (fun y => y.id = x.id) (fun y => { y with part := .chan c, cells := h.cells }))

/-- A frame whose cells a refused admission does not give: HAM_XFER_DROP and XFER_DROP (R173), reason 6 of R231. -/
def State.xferDrop (s : State) (x : Frame) : State := ((s.count .ham 0x78).raise .ham 4).endFrame x (.drop 6)

/-- Move a frame's cells, or drop it (R173). -/
def State.moveOrDrop (s : State) (x : Frame) (c : Nat) : State :=
  match s.moveCells x c with
  | some t => t
  | none => s.xferDrop x

/-- A frame that an engine made longer or shorter holds the cells of its new length (R164): surplus cells return, missing ones are asked of
its part, whose refusal drops it. One that shares its cells with a copy keeps them as they are (DESIGN CHOICE, log entry 39). -/
def State.setFitted (s : State) (x : Frame) : State :=
  let n := cellsOf x.nonets.length
  if x.cells = 0 || decide (n = x.cells) || s.frames.any (fun y => decide (y.group = x.group) && decide (y.id ≠ x.id)) then s.setFrame x
  else if n < x.cells then (s.giveBack x.part (x.cells - n)).setFrame { x with cells := n }
  else
    match s.admitPart x.part (n - x.cells) with
    | some t => t.setFrame { x with cells := n }
    | none => (s.setFrame x).xferDrop x

/-- The delivery of a damaged frame of port p has failed (R189). -/
def State.errqDrop (s : State) (p : Nat) : State := (s.count (portPage p) 0x13C).raise (portPage p) 5

/-- A frame at a receive queue of function f is dropped: `counted` in FUNC_RX_DISCARD (R19, R107, R160); a damaged one is a failed delivery of
its port (R189). -/
def State.dropStaged (s : State) (f : Nat) (counted : Bool) (x : Frame) : State :=
  let t := s.endFrame x (.drop 7)
  let u := if x.flags = 0 then t else t.errqDrop x.src
  if counted then u.count (funcPage f) 0x120 else u

/-- Does a frame of this number still stand? -/
def State.stands (s : State) (id : Nat) : Bool := (s.frame id).isSome

/-! ## The rows of the family HAM -/

/-- The class of a queue kind's bursts (R176): transmit 0, crypto 1, storage 2; none for receive. -/
def burstClass (kind : Nat) : Option Nat := if kind = 0 then some 0 else if kind = 2 then some 1 else if kind = 3 then some 2 else none

/-- The channel class of a queue kind (R178, HAM_FSEL.CLASS). -/
def chanClass (kind : Nat) : Nat := kind

/-- Does an aged burst block this one (R176)? The oldest aged burst of the class governs. -/
def State.ageBlocks (s : State) (b : Burst) : Bool :=
  match s.ham.bursts.find? (fun a => a.aged && a.cls = b.cls) with
  | none => false
  | some a =>
      decide (a.id < b.id) && decide (b.cells ≤ a.cells) && !s.withinMin b.chan b.cells &&
        !(decide (b.chan ≠ a.chan) && s.capRefuses a.chan a.cells)

/-- Grant a waiting burst all its cells and begin its host reads, or let it wait whole (R175). -/
def State.tryBurst (s : State) (b : Burst) : State :=
  match (if s.ageBlocks b then none else s.admitCells b.chan b.cells) with
  | some t =>
      ({ t with ham := { t.ham with bursts := t.ham.bursts.filter (fun a => a.id ≠ b.id), granted := t.ham.granted ++ [b] } }).openRead b.f
        (.burst b.id) (s.readParts b.f b.bufs)
  | none => s

/-- Evaluate the waiting bursts, oldest first, each seeing the effect of those before it (R171). -/
def State.pumpBursts (s : State) : State := s.ham.bursts.foldl State.tryBurst s

/-- A burst of queue q of function f for the descriptor at idx, waiting or granted. -/
def State.burstOf (s : State) (f q idx : Nat) : Option Burst :=
  s.ham.bursts.find? (fun a => a.f = f && a.q = q && a.idx = idx)

/-- The granted burst of queue q of function f for the descriptor at idx. -/
def State.grantOf (s : State) (f q idx : Nat) : Option Burst :=
  s.ham.granted.find? (fun a => a.f = f && a.q = q && a.idx = idx)

/-- The cells that reading some host buffers takes (R164). -/
def bufCells (bufs : List (Nat × Nat)) : Nat := cellsOf (bufs.map (·.2)).sum

/-- Ask for the cells of the burst that reads some host buffers; one that already waits is evaluated again with the others (R175). -/
def State.requestBurst (s : State) (f q idx kind : Nat) (bufs : List (Nat × Nat)) (op : Option (Nat × Nat)) : State :=
  match burstClass kind with
  | none => s
  | some k =>
      let n := bufCells bufs
      if n = 0 || 64 < n || (s.grantOf f q idx).isSome then s
      else if (s.burstOf f q idx).isSome then s.pumpBursts
      else
        let b : Burst := { id := s.nextId, chan := funcChan f (chanClass kind), cells := n, cls := k, f := f, q := q, idx := idx, aged := false,
                           bufs := bufs, op := op }
        { s with nextId := s.nextId + 1, ham := { s.ham with bursts := s.ham.bursts ++ [b] } }.pumpBursts

/-- Have the host reads of a granted burst ended? -/
def State.burstRead (s : State) (b : Burst) : Bool := !s.reading (.burst b.id)

/-- Cut buffers into bursts of at most `mx` bytes (R168); `room` is what the burst begun in `acc` still takes. -/
def burstCut (fuel mx room : Nat) (acc l : List (Nat × Nat)) : List (List (Nat × Nat)) :=
  match fuel, l with
  | 0, _ => if acc.isEmpty then [] else [acc]
  | _ + 1, [] => if acc.isEmpty then [] else [acc]
  | fuel + 1, (a, n) :: r =>
      if n ≤ room then burstCut fuel mx (room - n) (acc ++ [(a, n)]) r
      else if room = 0 then acc :: burstCut fuel mx mx [] ((a, n) :: r)
      else (acc ++ [(a, room)]) :: burstCut fuel mx mx [] ((a + room, n - room) :: r)

/-- The bursts of at most 16,384 bytes that read some buffers (R168). -/
def burstsOf (l : List (Nat × Nat)) : List (List (Nat × Nat)) := burstCut (2 * l.length + (l.map (·.2)).sum / 8192 + 2) 16384 16384 [] l

/-- Give back a granted burst's cells, its reads discarded, or take a waiting one off the list. -/
def State.endBurst (s : State) (b : Burst) : State :=
  if s.ham.granted.any (fun a => a.id = b.id) then
    let t := (s.giveBack (.chan b.chan) b.cells).discardReads (fun r => decide (r.use = .burst b.id))
    { t with ham := { t.ham with granted := t.ham.granted.filter (fun a => a.id ≠ b.id) } }
  else { s with ham := { s.ham with bursts := s.ham.bursts.filter (fun a => a.id ≠ b.id) } }

/-- HAM_BURST_AGED (R176): the waiting burst is aged, HAM_AGED counts it once, AGED is raised. -/
def execHamBurstAged (id : Nat) (s : State) : Host.Outcome State Fault Refusal :=
  if s.ham.bursts.any (fun a => a.id = id && !a.aged) then
    let t := { s with ham := { s.ham with bursts := s.ham.bursts.map (fun (a : Burst) => if a.id = id then { a with aged := true } else a) } }
    .next ((t.count .ham 0x70).raise .ham 2)
  else .next s

/-- HAM_TRANSFER (R173): a frame queued to the consumer of channel `chan` moves its cells there, or is dropped. -/
def execHamTransfer (id : Nat) (chan : Nat) (s : State) : Host.Outcome State Fault Refusal :=
  match s.frame id with
  | none => .next s
  | some x => if chan < 19 || (256 ≤ chan && chan < 4352) then .next (s.moveOrDrop x chan) else .next s

/-- CELL_RELEASE (R172): the last consumer, here the management controller, SAF or STO, has finished with a frame; one with an
uncorrectable error it discards (R164). -/
def execCellRelease (id : Nat) (s : State) : Host.Outcome State Fault Refusal :=
  match s.frame id with
  | none => .next s
  | some x =>
      if x.loc = .mgtIn || x.loc = .safIn || x.loc = .stoIn then .next (s.endFrame x (if x.bad then .drop 6 else .sent)) else .next s

/-- HAM_SCRUB (R166, R164): a scrub access corrects and counts a single-bit error; a double-bit error is counted, raises
ECC_UE, and the frame that holds the cell, with every copy that shares it, is discarded by whichever consumer reads it next. -/
def execHamScrub (errs : Nat) (frame : Option Nat) (s : State) : Host.Outcome State Fault Refusal :=
  if errs = 0 then .next s
  else if errs = 1 then .next (s.add .ham 0x74 15 0 1)
  else
    let t := (s.add .ham 0x74 31 16 1).raise .ham 3
    match frame.bind t.frame with
    | some y => .next (t.mapFrames (fun x => x.group = y.group) (fun x => { x with bad := true }))
    | none => .next t

end Sys2Proof.Machine
end

