-- ==== Sys2Proof/Machine/Tables.lean ====
section
/-!
DEFINITION. Machine/Tables.lean: the table engine (chapter 11): keys and buckets (R235), the commands of R239 with the
statuses of R240, learning and ageing (R236, R237), direct access (R242 to R244), the darning pass (R246 to R249), ECC (R251).
-/
namespace Sys2Proof.Machine

open Sys2Proof

/-! ## Entries -/

/-- An empty slot. -/
def emptyEntry (k : Nat) : List Byte := List.replicate (entrySize k) 0

/-- An entry's FLAGS byte. -/
def flagsOf (k : Nat) (e : List Byte) : Nat := byteAt e (flagsByte k)

/-- Replace one byte of an entry. -/
def setByte (e : List Byte) (i v : Nat) : List Byte := splice e i [BitVec.ofNat 8 v]

/-- Where DEST stands in a MAC, flow or tunnel entry. -/
def destByte (k : Nat) : Nat := match k with | 0 => 8 | 1 => 44 | _ => 24

/-- The reserved bits of the entries of table k (R232, R233, R234, R268), by byte: the bits kept. A flow entry of a port has no FUNC. -/
def entryMasks (k : Nat) (fromFunc : Bool) : List (Nat × Nat) :=
  match k with
  | 0 => [(7, 0x0F), (13, 0x83), (14, 0x0F)]
  | 1 => (if fromFunc then [(5, 0x83)] else [(4, 0x07), (5, 0)]) ++
      [(3, 0x0F), (42, 0), (43, 0), (48, 0x0F), (49, 0), (55, 0x83), (56, 0x0B), (59, 0x0F)]
  | 2 => [(7, 0), (29, 0x83), (30, 0x01), (31, 0)]
  | _ => [(1, 0x7F), (2, 0x37), (3, 0), (49, 0x87), (51, 0x83), (63, 0)]

/-- The entry of table k that some bytes bring: reserved fields read 0, whatever was written to them (R8). -/
def cleanEntry (k : Nat) (e : List Byte) : List Byte :=
  let b := keepBits (entryMasks k (nbit (byteAt e 5) 7)) (slice e 0 (entrySize k))
  if k < 3 then keepDest (destByte k) b else b

/-- Is an entry static: STATIC of a MAC or flow entry; tunnel and SA entries always (R234)? -/
def isStatic (k : Nat) (e : List Byte) : Bool := if k < 2 then nbit (flagsOf k e) 1 else true

/-- Where AGE stands in a MAC or flow entry. -/
def ageByte (k : Nat) : Nat := match k with | 0 => 15 | _ => 57

/-- Does an entry's DEST name PORT p (TYPE 1)? -/
def namesPort (k : Nat) (e : List Byte) (p : Nat) : Bool :=
  let d := leAt e (destByte k) 4
  decide (d / 2 ^ 29 = 1) && decide (d % 8 = p)

/-- The key of a MAC entry as the 60-bit number of R235. -/
def macKey (e : List Byte) : Nat := (leAt e 6 2 % 4096) * 2 ^ 48 + beAt e 0 6

/-- The bucket of a MAC key (R235). -/
def macBucket (n : Nat) : Nat := (n / 2 ^ 45 % 32768) ^^^ (n / 2 ^ 30 % 32768) ^^^ (n / 2 ^ 15 % 32768) ^^^ (n % 32768)

/-- The bucket of an entry of a hashed table (R235). -/
def bucketOf (k : Nat) (e : List Byte) : Nat := if k = 0 then macBucket (macKey e) else crc32c (slice e 0 42) % 2 ^ 17

/-- Equal keys (R232, R233, R234, R268); an SA of STYPE 5 has its index for a key. -/
def sameKey (k : Nat) (a : List Byte) (ia : Nat) (b : List Byte) (ib : Nat) : Bool :=
  match k with
  | 0 => decide (macKey a = macKey b)
  | 1 => slice a 0 42 = slice b 0 42
  | 2 => slice a 0 24 = slice b 0 24
  | _ =>
      decide (byteAt a 0 = byteAt b 0) &&
        (if byteAt a 0 ≤ 2 then
          decide (byteAt a 2 % 8 = byteAt b 2 % 8) && decide (byteAt a 2 / 16 % 4 = byteAt b 2 / 16 % 4) &&
            decide (slice a 4 8 = slice b 4 8)
         else if byteAt a 0 ≤ 4 then
          decide (nbit (byteAt a 1) 4 = nbit (byteAt b 1) 4) && decide (slice a 12 16 = slice b 12 16) &&
            decide (slice a 4 4 = slice b 4 4)
         else decide (ia = ib))

/-- The valid entry whose key equals that of `e`, `i` standing for the index that TBL_INDEX names. -/
def State.search (s : State) (k : Nat) (e : List Byte) (i : Nat) : Option Nat :=
  if k < 2 then
    (List.range 8).findSome? (fun w =>
      let j := bucketOf k e * 8 + w
      let x := s.entry k j
      if validEntry k x && sameKey k x j e i then some j else none)
  else
    (s.tbl.entries k).findSome? (fun x => if validEntry k x.2 && sameKey k x.2 x.1 e i then some x.1 else none)

/-- Entries a lookup of `e` reads that hold an uncorrectable error: of its bucket, or with its key in an indexed table. -/
def State.badRead (s : State) (k : Nat) (e : List Byte) (i : Nat) : List Nat :=
  ((s.tbl.bad.filter (fun x => decide (x.1 = k) && (if k < 2 then decide (x.2 / 8 = bucketOf k e)
    else decide (x.2 = i) || sameKey k (s.entry k x.2) x.2 e i))).map (·.2))

/-- A free way of the bucket of `e`. -/
def State.freeWay (s : State) (k : Nat) (e : List Byte) : Option Nat :=
  (List.range 8).findSome? (fun w =>
    let j := bucketOf k e * 8 + w
    if validEntry k (s.entry k j) then none else some j)

/-! ## Binding, quota and locks -/

/-- Does function f exist: a PF, or a VF that VF Enable and NumVFs cover (R91)? -/
def State.funcExists (s : State) (f : Nat) : Bool :=
  decide (f < 4) || ((s.func 0).cfg.vfEnable && decide (f - 4 < (s.func 0).cfg.numVFs))

/-- A binding that names a function that exists and is not in reset, or none (R240). -/
def State.bindOk (s : State) (b : Option Nat) : Bool :=
  match b with | none => true | some f => s.funcExists f && !(s.func f).inReset

/-- Valid entries of table k bound to function f, entry `i` left out. -/
def State.boundCount (s : State) (k f i : Nat) : Nat :=
  ((s.tbl.entries k).filter (fun e => decide (e.1 ≠ i) && validEntry k e.2 && decide (boundTo k e.2 = some f))).length

/-- A function's quota in table k (R120, R129); `none` is unlimited. -/
def State.quota (s : State) (k f : Nat) : Option Nat :=
  let a := (s.func f).asg
  let q := match k with | 0 => a.qMac | 1 => a.qFlow | 2 => a.qTun | _ => a.qSa
  if q = 0xFFFF then none else some (if k = 1 then q * 16 else q)

/-- May entry `e` stand at index i beside the others its function holds (R121)? -/
def State.quotaOk (s : State) (k i : Nat) (e : List Byte) : Bool :=
  match boundTo k e with
  | none => true
  | some f => (match s.quota k f with | none => true | some q => decide (s.boundCount k f i + 1 ≤ q))

/-- Is a table's bit held by another master than m (R242)? -/
def State.lockedFor (s : State) (k : Nat) (m : Master) : Bool :=
  match s.tblHolder k with | none => false | some h => decide (h ≠ m)

/-! ## Commands (R239) -/

/-- A SEARCH hit sets HIT and renews AGE of a MAC or flow entry (R232, R237). -/
def State.touch (s : State) (k i : Nat) : State :=
  if k < 2 then
    let e := s.entry k i
    let e1 := setByte e (flagsByte k) (flagsOf k e ||| 8)
    let e2 := if isStatic k e then e1 else setByte e1 (ageByte k) (s.field .swt 0x44 7 0)
    s.setEntry k i e2
  else s

/-- Are KTYPE, TTYPE or STYPE of an entry in range (R240), and the index of a lookaside SA, which is its key (R268)? -/
def entryOk (k : Nat) (e : List Byte) (i : Nat) : Bool :=
  match k with
  | 0 => true
  | 1 => byteAt e 0 = 1 || byteAt e 0 = 2
  | 2 => byteAt e 0 = 1 || byteAt e 0 = 2
  | _ => decide (1 ≤ byteAt e 0) && decide (byteAt e 0 ≤ 5) && (decide (byteAt e 0 ≠ 5) || decide (i < tableSize k))

/-- Is the replay window of an ESP association that an INSERT brings large enough (R274)? -/
def windowOk (k : Nat) (e : List Byte) : Bool :=
  let r := leAt e 48 2
  !(decide (k = 3) && nbit r 15 && (byteAt e 0 = 3 || byteAt e 0 = 4) && decide (r % 2048 < 32))

/-- The bytes an INSERT stores at a slot that held `old`: VALID set, the live fields kept by hardware (R232, R237, R269). -/
def State.stored (s : State) (k : Nat) (old e : List Byte) (replaced : Bool) : List Byte :=
  let e1 := setByte e (flagsByte k) (flagsOf k e ||| 1)
  match k with
  | 0 | 1 =>
      let hit := if replaced then flagsOf k old &&& 8 else 0
      let e2 := setByte e1 (flagsByte k) ((flagsOf k e1 &&& 0xF7) ||| hit)
      let e3 := setByte e2 (ageByte k) (if isStatic k e then 0 else s.field .swt 0x44 7 0)
      if k = 1 then splice e3 60 (if replaced then slice old 60 4 else [0, 0, 0, 0]) else e3
  | 2 => e1
  | _ =>
      if replaced then
        let pn := max (leAt old 52 8) (leAt e 52 8)
        setByte (splice e1 52 (leBytes 8 pn)) 60 (byteAt old 60)
      else setByte e1 60 0

/-- Fresh counters and window for SA i (R278). -/
def State.freshSa (s : State) (k i : Nat) : State :=
  if k = 3 then { s with cry := { s.cry with live := Sparse.del s.cry.live i } } else s

/-- INSERT (R239): the status and the new state. Checks in the order of log entry 20. -/
def State.tblInsert (s : State) (k i : Nat) (e : List Byte) (replace : Bool) (m : Master) : State × Nat :=
  if !entryOk k e i || !windowOk k e || (decide (2 ≤ k) && decide (tableSize k ≤ i)) then (s, 0x06)
  else if !s.bindOk (boundTo k e) then (s, 0x07)
  else if s.lockedFor k m then (s, 0x05)
  else
    match s.search k e i with
    | some j =>
        if !replace || (decide (2 ≤ k) && decide (j ≠ i)) then (s, 0x02)
        else if !s.quotaOk k j e then (s, 0x04)
        else (s.setEntry k j (s.stored k (s.entry k j) e true), 0x00)
    | none =>
        let slot := if k < 2 then s.freeWay k e else some i
        match slot with
        | none => (s, 0x03)
        | some j =>
            if decide (2 ≤ k) && validEntry k (s.entry k j) && !replace then (s, 0x02)
            else if !s.quotaOk k j e then (s, 0x04)
            else (((s.setEntry k j (s.stored k (s.entry k j) e (decide (k = 3) && validEntry k (s.entry k j)))).freshSa k j), 0x00)

/-- Frames inside CRY that SA i serves: they finish with its key after it is deleted (R273). -/
def State.finishOld (s : State) (i : Nat) : State :=
  let e := s.entry 3 i
  s.mapFrames (fun x => x.old.isNone && (match x.loc with
    | .macsec p => decide (s.search 3 (s.rxKey p x.body) 0 = some i)
    | .engine _ _ 8 true => decide (x.sa = i)
    | _ => false)) (fun x => { x with sa := i, old := some e })

/-- Slot i of table k becomes empty; an SA's key slot is then to be zeroised (R273). -/
def State.emptySlot (s : State) (k i : Nat) : State :=
  let t := s.setEntry k i (emptyEntry k)
  if k = 3 then
    let live := Sparse.del t.cry.live i
    match Sparse.find t.cry.slots i with
    | some x => { t with cry := { t.cry with live := live, slots := Sparse.put t.cry.slots i { x with wiping := true } } }
    | none => { t with cry := { t.cry with live := live } }
  else t

/-- Delete slot i of table k: OK at once, frames inside CRY keep what they were accepted under (R273). -/
def State.clearEntry (s : State) (k i : Nat) : State := (if k = 3 && validEntry 3 (s.entry 3 i) then s.finishOld i else s).emptySlot k i

/-- An uncorrectable entry has been read (R251): it is invalidated, counted and recorded, and ECC_UE is raised. -/
def State.lostEntry (s : State) (k i : Nat) : State :=
  let t := (s.emptySlot k i).add .tbl 0xE4 31 16 1
  (t.setReg .tbl 0xE8 (word (k * 2 ^ 24 + i))).raise .tbl 3

/-- What a lookup of `e` reads is checked first: an uncorrectable entry is a miss (R251). -/
def State.checkRead (s : State) (k : Nat) (e : List Byte) (i : Nat) : State := (s.badRead k e i).foldl (fun t j => t.lostEntry k j) s

/-- DELETE (R239). -/
def State.tblDelete (s : State) (k i : Nat) (e : List Byte) (m : Master) : State × Nat :=
  if s.lockedFor k m then (s, 0x05)
  else match s.search k e i with | some j => (s.clearEntry k j, 0x00) | none => (s, 0x01)

/-- The first valid listed entry at or after i that the filter takes. -/
def State.nextFrom (s : State) (k i : Nat) (filt : Option Nat) : Option Nat :=
  (s.tbl.entries k).findSome? (fun x =>
    if i ≤ x.1 && validEntry k x.2 && (match filt with | none => true | some f => decide (boundTo k x.2 = some f))
    then some x.1 else none)

/-- NEXT (R239): status and index; at most 65,536 indices are scanned. -/
def State.tblNext (s : State) (k i : Nat) (filt : Option Nat) : Nat × Nat :=
  if tableSize k ≤ i then (0x06, i)
  else
    match s.nextFrom k i filt with
    | some j => if j < i + 65536 then (0x00, j) else (0x09, i + 65536)
    | none => if tableSize k ≤ i + 65536 then (0x08, i) else (0x09, i + 65536)

/-- The MAC or flow entries that WRING deletes for PORT p. -/
def State.wringSet (s : State) (k p : Nat) (staticToo : Bool) : List Nat :=
  ((s.tbl.entries k).filter (fun x => validEntry k x.2 && namesPort k x.2 p && (staticToo || !isStatic k x.2))).map (·.1)

/-- Clear several entries. -/
def State.clearEntries (s : State) (k : Nat) (l : List Nat) : State := l.foldl (fun t i => t.clearEntry k i) s

/-- WRING (R239): the new state, the status and the entries deleted. -/
def State.tblWring (s : State) (p : Nat) (staticToo : Bool) (m : Master) : State × Nat × Nat :=
  if s.lockedFor 0 m || s.lockedFor 1 m then (s, 0x05, 0)
  else
    let a := s.wringSet 0 p staticToo
    let b := s.wringSet 1 p staticToo
    ((s.clearEntries 0 a).clearEntries 1 b, 0x00, a.length + b.length)

/-- The first entry from i on that a NEXT reads before its result and that holds an uncorrectable error. -/
def State.badScan (s : State) (k i : Nat) (filt : Option Nat) : List Nat :=
  let stop := (s.tblNext k i filt).2
  (((s.tbl.bad.filter (fun x => decide (x.1 = k) && decide (i ≤ x.2) && decide (x.2 ≤ stop))).map (·.2)).min?).toList

/-- The entries with an uncorrectable error that a command reads, each with its table. -/
def State.cmdReads (s : State) (op k i : Nat) (e : List Byte) (filt : Option Nat) : List (Nat × Nat) :=
  if op = 1 ∨ op = 3 ∨ op = 4 then (s.badRead k e i).map (fun j => (k, j))
  else if op = 2 then (if tableSize k ≤ i then [] else (s.badScan k i filt).map (fun j => (k, j)))
  else if op = 5 then s.tbl.bad.filter (fun x => decide (x.1 < 2)) else []

/-- One command of R239, as the TBL page and the Nyate threads issue it: the new state, the status, the count, and the
entry and index it answers with. One that reads an uncorrectable entry ends there with ECC (R251, log entry 105). -/
def State.tblRun (s : State) (op k i : Nat) (e : List Byte) (replace staticToo : Bool) (filt : Option Nat) (port : Nat)
    (m : Master) : State × Nat × Nat × Option (List Byte × Nat) :=
  let bad := s.cmdReads op k i e filt
  if 1 ≤ op ∧ op ≤ 4 ∧ op ≠ 2 ∧ !(entryOk k e i && (decide (op ≠ 3) || windowOk k e)) then (s, 0x06, 0, none)
  else if !bad.isEmpty then (bad.foldl (fun t x => t.lostEntry x.1 x.2) s, 0x0A, 0, none)
  else
    match op with
    | 1 =>
        match s.search k e i with
        | some j => let t := s.touch k j; (t, 0x00, 0, some (t.entry k j, j))
        | none => (s, 0x01, 0, none)
    | 2 =>
        let r := s.tblNext k i filt
        if r.1 = 0x00 then (s, 0x00, 0, some (s.entry k r.2, r.2)) else (s, r.1, 0, some (e, r.2))
    | 3 => let r := s.tblInsert k i e replace m; (r.1, r.2, 0, none)
    | 4 => let r := s.tblDelete k i e m; (r.1, r.2, 0, none)
    | 5 => let r := s.tblWring port staticToo m; (r.1, r.2.1, r.2.2, none)
    | _ => (s, 0x06, 0, none)

/-- The entry staged in TBL_ENTRY, cut to the table's size (R252). -/
def State.stagedEntry (s : State) (k : Nat) : List Byte :=
  cleanEntry k ((List.range 16).flatMap (fun w => leBytes 4 (s.reg .tbl (0x80 + 4 * w)).toNat))

/-- Write an entry's bytes into TBL_ENTRY. -/
def State.showEntry (s : State) (e : List Byte) : State :=
  (List.range 16).foldl (fun t w => t.setReg .tbl (0x80 + 4 * w) (word (leAt e (4 * w) 4))) s

/-- A write of TBL_CMD.GO (R238): refused while a command runs, else the command acts and its status waits for CMD_DONE. -/
def State.tblGo (s : State) (m : Master) (v : Word) : State :=
  if !bitOn v 31 then s
  else if s.tbl.cmd.isSome then s.count .tbl 0x100
  else
    let k := fld v 17 16
    let i := s.field .tbl 0x44 19 0
    let e := s.stagedEntry k
    let filt := if bitOn v 10 then some (s.field .tbl 0x48 25 16) else none
    let r := s.tblRun (fld v 2 0) k i e (bitOn v 9) (bitOn v 8) filt (s.field .tbl 0x48 2 0) m
    let t := match r.2.2.2 with
      | some (x, j) => (if r.2.1 = 0x00 then r.1.showEntry x else r.1).setReg .tbl 0x44 (word j)
      | none => r.1
    let c : TblCmd := { status := r.2.1, count := r.2.2.1, port := if fld v 2 0 = 5 then some (s.field .tbl 0x48 2 0) else none }
    { t with tbl := { t.tbl with cmd := some c } }

/-- CMD_DONE (R238): the command's status is placed in TBL_RESULT, BUSY ends, CMD_DONE is raised. -/
def execCmdDone (s : State) : Host.Outcome State Fault Refusal :=
  match s.tbl.cmd with
  | none => .next s
  | some c =>
      let t := { s with tbl := { s.tbl with cmd := none } }
      .next ((t.setReg .tbl 0x4C (word (c.count * 2 ^ 11 + c.status))).raise .tbl 0)

/-! ## Direct access -/

/-- A write of TBL_DMA_LOCK (R242): masters 1, 6 and 12, the overseers, take a free bit. -/
def State.dmaLockWrite (s : State) (m : Master) (v : Word) : State :=
  let lock := (List.range 4).map (fun k =>
    match s.tblHolder k with
    | none => if bitOn v k && m.overseer then some m else none
    | some h => if !bitOn v k && (decide (h = m) || m.overseer) then none else some h)
  { s with tbl := { s.tbl with lock := lock } }

/-- End a table DMA transfer with a STATE (R243, R244). -/
def State.dmaEnd (s : State) (st done : Nat) : State :=
  let t := ({ s with tbl := { s.tbl with dma := none } } : State).closeReads (fun r => decide (r.use = ReadFor.table))
  (t.setReg .tbl 0xD4 (word (st * 2 ^ 28 + done))).raise .tbl 1

/-- A write of TBL_DMA_CTL.GO (R243): starts the transfer, or ends at once with STATE 5. A host-to-table transfer reads the image with
PF0's requester ID. -/
def State.dmaGo (s : State) (m : Master) (v : Word) : State :=
  if !bitOn v 31 || s.tbl.dma.isSome then s
  else
    let k := fld v 25 24
    let first := s.field .tbl 0xD0 19 0
    let count := fld v 20 0
    if decide (s.tblHolder k ≠ some m) || decide (tableSize k < first + count) then s.dmaEnd 5 0
    else
      let addr := s.reg64 .tbl 0xC4 / 64 * 64
      let t := { s with tbl := { s.tbl with dma := some { table := k, toTbl := bitOn v 29, merge := bitOn v 28, first := first,
                                                          count := count, addr := addr, m := m } } }
      let u := (t.setReg .tbl 0xD4 (word (2 ^ 28))).setReg .tbl 0xD8 0
      if bitOn v 29 then u.openRead 0 .table (u.readParts 0 [(addr, count * entrySize k)]) else u

/-- Write one image entry of a host-to-table transfer at index i (R243). A valid security association keeps its live fields (R269). -/
def State.dmaPut (s : State) (k i : Nat) (merge : Bool) (e : List Byte) : State :=
  let e := cleanEntry k e
  if !validEntry k e then (if merge then s else s.clearEntry k i)
  else if (k < 2 && decide (i / 8 ≠ bucketOf k e)) ||
      (match s.search k e i with | some j => decide (j ≠ i) | none => false) then s.addSat .tbl 0xD8 31 16 1
  else if !s.quotaOk k i e then s.addSat .tbl 0xD8 15 0 1
  else if k = 3 then
    let old := s.entry 3 i
    let t := s.setEntry 3 i (s.stored 3 old e (validEntry 3 old))
    if validEntry 3 old && sameKey 3 old i e i then t else t.freshSa 3 i
  else s.setEntry k i e

/-- The writes of the first n entries of a table-to-host transfer: entry by entry from the host address. -/
def State.dmaOut (s : State) (d : TblDma) (n : Nat) : State :=
  (List.range n).foldl (fun t j =>
    t.dmaWrite 0 (d.addr + j * entrySize d.table) (t.entry d.table (d.first + j))) s

/-- Write the image entries of a host-to-table transfer, one by one. -/
def State.dmaIn (s : State) (d : TblDma) (es : List (List Byte)) : State :=
  (es.zip (List.range es.length)).foldl (fun u x => u.dmaPut d.table (d.first + x.2) d.merge x.1) s

/-- DMA_DONE (R243): the transfer in progress ends, a host-to-table one once its reads have ended. `image` is what the host supplied, one
list of bytes an entry; after a host read error the entries already written stay. -/
def execDmaDone (image : List (List Byte)) (hostError : Bool) (s : State) : Host.Outcome State Fault Refusal :=
  match s.tbl.dma with
  | none => .next s
  | some d =>
      if d.toTbl then
        let es := image.take d.count
        if hostError || s.readFailed .table then .next ((s.dmaIn d es).dmaEnd 4 es.length)
        else if s.reading .table || image.length ≠ d.count then .next s
        else .next ((s.dmaIn d es).dmaEnd 2 d.count)
      else .next ((s.dmaOut d d.count).dmaEnd 2 d.count)

/-- TBL_LOCK_BREAK (R244): a bit held for 10 ms is broken; a transfer on its table completes the entry it is writing and ends with STATE 3.
Its image is what the host had supplied of it, that entry the last; of a transfer to the host only its length counts. -/
def execTblLockBreak (broken : BrokenLock) (s : State) : Host.Outcome State Fault Refusal :=
  match s.tblHolder broken.table.val with
  | none => .next s
  | some _ =>
      let t := { s with tbl := { s.tbl with lock := setAt none s.tbl.lock broken.table.val none } }
      let t1 := (t.count .tbl 0xDC).raise .tbl 2
      match s.tbl.dma with
      | some d =>
          let es := broken.image.take d.count
          if d.table = broken.table.val then .next ((if d.toTbl then t1.dmaIn d es else t1.dmaOut d es.length).dmaEnd 3 es.length) else .next t1
      | none => .next t1

/-! ## Learning and ageing -/

/-- The DEST a port teaches (R236): its own code, or the ring while HSR is in effect. -/
def State.learnDest (s : State) (p : Nat) : Nat := 2 ^ 29 + (if s.hsrOn p then 4 else p)

/-- A learned MAC entry. -/
def learnedEntry (src vid dest age : Nat) : List Byte :=
  beBytes 6 src ++ leBytes 2 vid ++ leBytes 4 dest ++ [0, 0, 5, BitVec.ofNat 8 age]

/-- Does a WRING that runs pause learning from port p (R239)? -/
def State.wringPauses (s : State) (p : Nat) : Bool :=
  match s.tbl.cmd with
  | some c =>
      (match c.port with
       | some q => decide (q = p) || (decide (p < 2) && (decide (q = 4) || (decide (q < 2) && s.hsrOn p))) || (decide (2 ≤ p) && decide (q = 5))
       | none => false)
  | none => false

/-- The oldest table request of each cluster that has one: what waits at the tables (R241, R336). -/
def State.treqHeads (s : State) : List TReq :=
  (List.range 8).filterMap (fun c => s.nyate.treqs.find? (fun r => decide (r.c = c)))

/-- The table a request names. -/
def TReq.table (r : TReq) : Nat := r.imm / 16 % 4

/-- Does a Nyate request wait at table k, which serves it before learning and deletions (R241)? -/
def State.treqWaits (s : State) (k : Nat) : Bool := s.runs .tbl && s.treqHeads.any (fun r => decide (r.table = k))

/-- MAC_LEARN (R236): a frame's source address and VID teach the MAC table, unless learning is off or paused. -/
def execMacLearn (p : Fin 4) (vid : BitVec 12) (src : BitVec 48) (s₀ : State) : Host.Outcome State Fault Refusal :=
  if !bitOn (s₀.reg .swt (0x60 + 4 * p.val)) 1 || (s₀.tblHolder 0).isSome || !s₀.runs .tbl || s₀.wringPauses p.val || s₀.treqWaits 0 then .next s₀
  else
    let s := s₀.checkRead 0 (learnedEntry src.toNat vid.toNat 0 0) 0
    let age := s.field .swt 0x44 7 0
    let dest := s.learnDest p.val
    let e := learnedEntry src.toNat vid.toNat dest age
    match s.search 0 e 0 with
    | some i =>
        let x := s.entry 0 i
        let differs := decide (leAt x 8 4 ≠ dest)
        if isStatic 0 x then (if differs then .next (s.count .swt 0x8C) else .next s)
        else
          let t := s.setEntry 0 i (setByte (splice x 8 (leBytes 4 dest)) 15 age)
          if differs then .next (t.count .swt 0x88) else .next t
    | none =>
        match s.freeWay 0 e with
        | some i => .next ((s.setEntry 0 i e).count .swt 0x80)
        | none => .next ((s.count .swt 0x84).raise .swt 0)

/-- One visit of the ageing walk to an entry (R237): HIT cleared, AGE decremented where it was 0; `none` deletes it. -/
def aged (k : Nat) (e : List Byte) : Option (List Byte) :=
  if nbit (flagsOf k e) 3 then some (setByte e (flagsByte k) (flagsOf k e &&& 0xF7))
  else if byteAt e (ageByte k) ≤ 1 then none
  else some (setByte e (ageByte k) (byteAt e (ageByte k) - 1))

/-- The ageing walk over one table; it pauses while the table's bit is held (R242). -/
def State.ageTable (s : State) (k : Nat) : State :=
  if (s.tblHolder k).isSome then s
  else
    (s.tbl.entries k).foldl (fun t x =>
      if validEntry k x.2 && !isStatic k x.2 then
        match aged k x.2 with
        | some e => t.setEntry k x.1 e
        | none => (t.clearEntry k x.1).count .swt 0x90
      else t) s

/-- AGEING_TICK (R237): the ageing walk of the MAC and flow tables. -/
def execAgeingTick (s : State) : Host.Outcome State Fault Refusal :=
  if s.runs .tbl then .next ((s.ageTable 0).ageTable 1) else .next s

/-- Delete the learned entries whose DEST names a port that went down, where FLUSH_ON_DOWN is set (R237). -/
def State.flushPort (s : State) (p : Nat) : State :=
  if bitOn (s.reg .swt (0x60 + 4 * p)) 3 then
    s.clearEntries 0 (((s.tbl.entries 0).filter (fun x =>
      validEntry 0 x.2 && nbit (flagsOf 0 x.2) 2 && namesPort 0 x.2 p)).map (·.1))
  else s

/-! ## The darning pass -/

/-- An entry without its live fields and LEARNED, for comparison (R247). -/
def comparable (k : Nat) (e : List Byte) : List Byte :=
  match k with
  | 0 => setByte (setByte e 14 (byteAt e 14 &&& 0xF3)) 15 0
  | 1 => splice (setByte (setByte e 56 (byteAt e 56 &&& 0xF3)) 57 0) 60 [0, 0, 0, 0]
  | _ => e

/-- The kind of mismatch between a live and a shadow entry, 0 for none (R247). -/
def mismatch (k : Nat) (live shadow : List Byte) : Nat :=
  let l := validEntry k live && isStatic k live
  let h := validEntry k shadow && isStatic k shadow
  if l && !validEntry k shadow then 1
  else if h && !l then 2
  else if l && h && decide (comparable k live ≠ comparable k shadow) then 3 else 0

/-- The shadow entry the pass compares with: the host's below the limit, an empty one at or above it. -/
def State.shadowAt (s : State) (k i : Nat) (shadow : Option (List Byte)) : Option (List Byte) :=
  if s.field .darn (0x5C + 4 * k) 20 0 ≤ i then some (emptyEntry k)
  else shadow.map (cleanEntry k)

/-- Host address of the shadow of index i of table k (R246). -/
def State.shadowAddr (s : State) (k i : Nat) : Nat := s.reg64 .darn (0x44 + 8 * k) / 4096 * 4096 + i * entrySize k

/-- Ask the host for the shadow of index i of table k (R246, R247). -/
def State.askShadow (s : State) (k i : Nat) : State :=
  ({ s with tbl := { s.tbl with asked := true } }).openRead 0 .shadow (s.readParts 0 [(s.shadowAddr k i, entrySize k)])

/-- The shadow asked for was used, or is no longer of use. -/
def State.shadowDone (s : State) : State :=
  ({ s with tbl := { s.tbl with asked := false } } : State).closeReads (fun r => decide (r.use = .shadow))

/-- What is left of the pass where its table's bit of DARN_CFG has been cleared: the recheck and the shadow asked for are dropped. -/
def State.darnStays (s : State) : State :=
  let s1 := match s.tbl.check with
    | some c => if bitOn (s.reg .darn 0x40) c.table then s else { s with tbl := { s.tbl with check := none } }.shadowDone
    | none => s
  if s1.darnTable = s1.tbl.dTab then s1 else { s1 with tbl := { s1.tbl with dTab := s1.darnTable } }.shadowDone

/-- Write one report, or lose it (R248). -/
def State.darnReport (s : State) (k i kind : Nat) (live shadow : List Byte) : State :=
  let depth := 64 * 2 ^ s.field .darn 0x70 3 0
  let prod := s.field .darn 0x74 15 0
  if (prod + 1) % depth = s.field .darn 0x78 15 0 % depth then (s.count .darn 0x7C).raise .darn 2
  else
    let bind := slice (if kind = 2 then shadow else live) (bindByte k) 2
    let rec_ := leBytes 4 i ++ leBytes 1 k ++ leBytes 1 kind ++ bind ++ leBytes 4 (s.reg .darn 0x80).toNat ++
      [0, 0, 0, BitVec.ofNat 8 (s.tbl.repLap.toNat * 128)]
    let t := s.dmaWrite 0 (s.reg64 .darn 0x68 / 4096 * 4096 + 16 * prod) rec_
    let t1 := t.setField .darn 0x74 15 0 ((prod + 1) % depth)
    let t2 := if prod + 1 = depth then { t1 with tbl := { t1.tbl with repLap := !t1.tbl.repLap } } else t1
    t2.raise .darn 0

/-- Move the pass to the next index; a full walk of the enabled tables counts in DARN_PASSES and raises PASS_DONE. -/
def State.darnStep (s : State) : State :=
  let k := s.tbl.dTab
  let i := s.tbl.dIdx.getD k 0
  if i + 1 < tableSize k then { s with tbl := { s.tbl with dIdx := setAt 0 s.tbl.dIdx k (i + 1), check := none } }
  else
    let n := s.darnNext k
    let t := { s with tbl := { s.tbl with dIdx := setAt 0 s.tbl.dIdx k 0, check := none, dTab := n } }
    if n ≤ k then (t.count .darn 0x80).raise .darn 1 else t

/-- DARN_VISIT (R247): the pass asks for the shadow of the index it stands on, where it lies below the limit, and then compares (`none`:
the host read failed). -/
def execDarnVisit (shadow : Option (List Byte)) (s : State) : Host.Outcome State Fault Refusal :=
  let s0 := s.darnStays
  let k := s0.tbl.dTab
  if !s.darnOn k || s0.tbl.check.isSome || !s.runs .tbl || (s0.reading .shadow && shadow.isSome) then .next s
  else
    let i := s0.tbl.dIdx.getD k 0
    let live := s0.entry k i
    if !s0.tbl.asked && decide (i < s0.field .darn (0x5C + 4 * k) 20 0) then .next (s0.askShadow k i)
    else
      let s1 := s0.shadowDone
      match s1.shadowAt k i (if s0.readFailed .shadow then none else shadow) with
      | none => .next (s1.darnReport k i 4 live live).darnStep
      | some h =>
          if mismatch k live h = 0 then .next s1.darnStep
          else .next { s1 with tbl := { s1.tbl with check := some { table := k, index := i } } }

/-- DARN_RECHECK (R247): a mismatch is read again, its shadow asked for anew, and reported if it still stands. -/
def execDarnRecheck (shadow : Option (List Byte)) (s : State) : Host.Outcome State Fault Refusal :=
  match s.tbl.check with
  | none => .next s
  | some c =>
      if !s.darnOn c.table || !s.runs .tbl || (s.reading .shadow && shadow.isSome) then .next s
      else if !s.tbl.asked && decide (c.index < s.field .darn (0x5C + 4 * c.table) 20 0) then .next (s.askShadow c.table c.index)
      else
        let s1 := s.shadowDone
        let live := s1.entry c.table c.index
        match s1.shadowAt c.table c.index (if s.readFailed .shadow then none else shadow) with
        | none => .next (s1.darnReport c.table c.index 4 live live).darnStep
        | some h =>
            let k := mismatch c.table live h
            if k = 0 then .next s1.darnStep else .next (s1.darnReport c.table c.index k live h).darnStep

/-- TBL_SCRUB (R250, R251): a single-bit error is corrected and counted (`errs` 1); an uncorrectable entry is invalidated, counted
and recorded, and ECC_UE is raised (2). With 3 or more, errors have struck the entry that no access has read yet: the next one that reads
it meets them (DESIGN CHOICE, log entry 105). -/
def execTblScrub (table : Fin 4) (idx : Nat) (errs : Nat) (s : State) : Host.Outcome State Fault Refusal :=
  if errs = 0 || tableSize table.val ≤ idx || !s.runs .tbl then .next s
  else if errs = 1 then .next (s.add .tbl 0xE4 15 0 1)
  else if errs = 2 then .next (s.lostEntry table.val idx)
  else .next { s with tbl := { s.tbl with bad := (table.val, idx) :: s.tbl.bad.filter (fun x => x ≠ (table.val, idx)) } }

end Sys2Proof.Machine
end

