-- ==== Sys2Proof/Machine/Threads.lean ====
section
/-!
DEFINITION. Machine/Threads.lean: clusters, threads and the frames in them (chapter 14): dispatch and taking (R306, R307),
order gates (R308), faults and halts (R316 to R320), the thread commands (R315), table answers (R336).
-/
namespace Sys2Proof.Machine

open Sys2Proof

/-- Change register i of a thread. -/
def Thread.setR (t : Thread) (i : Nat) (v : NWord) : Thread := { t with regs := setAt 0 t.regs i v }

/-- Register i of a thread. -/
def Thread.r (t : Thread) (i : Nat) : NWord := t.regs.getD i 0

/-- Bits of NYC_TCODE, NYC_TDATA, NYC_TBIND (R310, R321). -/
def Thread.ibase (t : Thread) : Nat := fld t.code 14 0
def Thread.ilen (t : Thread) : Nat := fld t.code 31 16
def Thread.dbase (t : Thread) : Nat := fld t.data 15 6 * 64
def Thread.dlen (t : Thread) : Nat := fld t.data 26 16 * 64
def Thread.isBound (t : Thread) : Bool := bitOn t.bind 31
def Thread.func (t : Thread) : Nat := fld t.bind 25 16
def Thread.classes (t : Thread) : Nat := fld t.bind 8 0

/-- The supervisor thread of cluster c (R318). -/
def State.supervisor (s : State) (c : Nat) : Nat := s.field (nycPage c) 0x48 6 4 * 16 + s.field (nycPage c) 0x48 3 0

/-- The page of cluster c's island. -/
def nycIsland (c : Nat) : Island := .nyc (Fin.ofNat 8 c)

/-! ## Frames held by threads -/

/-- Frames a thread holds: in a slot, being taken, or handed over and not yet accepted. -/
def Loc.ofThread (l : Loc) (c t : Nat) : Bool :=
  match l with
  | .taking c' t' _ => decide (c' = c) && decide (t' = t)
  | .held c' t' _ => decide (c' = c) && decide (t' = t)
  | .engine c' t' _ false => decide (c' = c) && decide (t' = t)
  | _ => false

/-- Drop these frames one by one, each counted in a register of cluster c. -/
def State.dropEach (s : State) (c off : Nat) (l : List Frame) : State :=
  l.foldl (fun u x => match u.frame x.id with | some y => (u.endFrame y (.drop 2)).count (nycPage c) off | none => u) s

/-- Drop every frame a thread holds: counted in NYC_FRAME_DROP, their order-gate places released (R315). -/
def State.dropHeld (s : State) (c t : Nat) : State := s.dropEach c 0xCC (s.frames.filter (fun x => x.loc.ofThread c t))

/-- An outstanding table request of a stopped thread still completes, its answer is discarded (R315). -/
def State.deadTreq (s : State) (c t : Nat) : State :=
  { s with nyate := { s.nyate with treqs := s.nyate.treqs.map (fun (r : TReq) =>
      if r.c = c && r.t = t then { r with dead := true } else r) } }

/-- Take a thread off the list of those waiting for a frame. -/
def State.noTaker (s : State) (c t : Nat) : State :=
  let cl := s.cluster c
  s.setCluster c { cl with takers := cl.takers.filter (fun u => u ≠ t) }

/-- A thread is emptied of what it does: frames dropped, request answer discarded, no longer waiting. -/
def State.strip (s : State) (c t : Nat) : State := ((s.dropHeld c t).deadTreq c t).noTaker c t

/-! ## Halts and faults -/

/-- Halt a cluster (R319): its queued frames are dropped and counted, HALT is raised. -/
def State.haltCluster (s : State) (c cause : Nat) : State :=
  let s1 := s.setCluster c { s.cluster c with halt := cause }
  let queued := s1.frames.filter (fun x =>
    match x.loc with | .dispatch c' _ => decide (c' = c) && x.gate.isSome | _ => false)
  let s2 := s1.dropEach c 0xC8 queued
  s2.raise (nycPage c) 1

/-- A thread meets a fault cause (R316, R317): HALTED, its frames dropped, one record; the 64th record halts the cluster
with cause 1 and a fault of the supervisor with cause 2 (R319). -/
def State.nFault (s : State) (c t cause detail : Nat) : State :=
  let th := s.thread c t
  let s1 := s.strip c t
  let th1 := { th with st := .halted, park := 0, slots := [none, none, none, none] }
  let s2 := s1.setThread c t th1
  let cl := s2.cluster c
  let r : FaultRec :=
    { w0 := BitVec.ofNat 18 (t / 16 * 2 ^ 15 + t % 16 * 2 ^ 11 + cause * 2 ^ 5),
      w1 := BitVec.ofNat 18 ((th.ibase + th.pc) % 2 ^ 15), w2 := BitVec.ofNat 18 detail, w3 := cl.seq }
  if 64 ≤ cl.faults.length then s2
  else
    let s3 := s2.setCluster c { cl with faults := cl.faults ++ [r], seq := cl.seq + 1 }
    let s4 := (s3.count (nycPage c) 0xC0).raise (nycPage c) 0
    if (s4.cluster c).halt ≠ 0 then s4
    else if t = s4.supervisor c then s4.haltCluster c 2
    else if (s4.cluster c).faults.length = 64 then s4.haltCluster c 1 else s4

/-! ## The cluster window and taking (R307) -/

/-- Nonets of the cluster window in use: every mapped frame with its 128 nonets of headroom (log entry 13). -/
def State.windowUsed (s : State) (c : Nat) : Nat :=
  (s.frames.map (fun x => match x.loc with
    | .held c' _ _ => if c' = c then x.nonets.length + 128 else 0
    | .engine c' _ _ false => if c' = c then x.nonets.length + 128 else 0
    | _ => 0)).sum

/-- Has the window of cluster c room for this frame? -/
def State.windowRoom (s : State) (c : Nat) (x : Frame) : Bool :=
  decide (s.windowUsed c + x.nonets.length + 128 ≤ 1048576)

/-- The instruction of a thread completes: its program counter moves on. TAKE, TREQ and ENG complete where their wait ends
(log entry 91). -/
def Thread.step (t : Thread) : Thread := { t with pc := t.pc + 1 }

/-- A frame is mapped for thread t in slot f: rd gets its length and the thread runs on. -/
def State.mapFrame (s : State) (c t slot rd : Nat) (x : Frame) : State :=
  let th := s.thread c t
  let th1 := { (th.setR rd (BitVec.ofNat 18 x.nonets.length)).step with
    st := .runnable, park := 0, slots := setAt none th.slots slot (some x.id) }
  ((s.setFrame { x with loc := .held c t slot, room := 0 }).setThread c t th1).noTaker c t

/-- A thread receives a frame: mapped, or taken while it parks with WINDOW. -/
def State.receive (s : State) (c t slot rd : Nat) (x : Frame) : State :=
  if s.windowRoom c x then s.mapFrame c t slot rd x
  else
    let th := { s.thread c t with st := .parked, park := 3, rd := rd, slot := slot }
    let cl := s.cluster c
    let s1 := (s.setFrame { x with loc := .taking c t slot }).setThread c t th
    if cl.takers.contains t then s1 else s1.setCluster c { cl with takers := cl.takers ++ [t] }

/-- The oldest queued frame of the classes a thread takes. -/
def State.oldestFor (s : State) (c classes : Nat) : Option Frame :=
  s.frames.find? (fun x => match x.loc with
    | .dispatch c' k => decide (c' = c) && x.gate.isSome && nbit classes k
    | _ => false)

/-- The first thread that waits with TAKE for frames of class k, in parking order. -/
def State.takerFor (s : State) (c k : Nat) : Option Nat :=
  (s.cluster c).takers.find? (fun t =>
    let th := s.thread c t
    decide (th.st = .parked) && decide (th.park = 2) && nbit th.classes k)

/-- The order gate of a frame (R308): its source and traffic class. -/
def Frame.gateKey (x : Frame) : Nat :=
  if x.func then 2 ^ 24 + (x.src * 256 + x.wq) * 8 + x.tc else x.src * 8 + x.tc

/-- Frames queued in dispatch class k of cluster c. -/
def State.queued (s : State) (c k : Nat) : Nat :=
  (s.frames.filter (fun x => match x.loc with
    | .dispatch c' k' => decide (c' = c) && decide (k' = k) && x.gate.isSome | _ => false)).length

/-- Room of a dispatch class (R299). -/
def classRoom (k : Nat) : Nat := if k = 8 then 256 else 96

/-- What the MAC table is searched by for a frame's source: its address and VID. -/
def Frame.macSrcKey (x : Frame) : List Byte :=
  let b := bytesOf x.nonets
  learnedEntry (srcAddr b) (match outerTag false b with | some t => t % 4096 | none => 0) 0 0

/-- Does the anti-spoofing test apply to a frame (R230)? -/
def State.spoofTests (s : State) (x : Frame) : Bool := bitOn (s.reg .swt 0x40) 0 && x.func && decide (x.src ≠ 0)

/-- What the anti-spoofing test reads is checked first (R251). -/
def State.sourceChecked (s : State) (x : Frame) : State := if s.spoofTests x then s.checkRead 0 x.macSrcKey 0 else s

/-- The anti-spoofing test of R230: a static MAC entry bound to the function holds its source address and VID. -/
def State.spoofed (s : State) (x : Frame) : Bool :=
  s.spoofTests x &&
    (match s.search 0 x.macSrcKey 0 with
     | some i => !(isStatic 0 (s.entry 0 i) && decide (boundTo 0 (s.entry 0 i) = some x.src))
     | none => true)

/-- Drop a frame that its cluster does not take (R201, R306). -/
def State.clusterDrop (s : State) (x : Frame) : State :=
  let t := s.endFrame x (.drop 2)
  if x.func then t else t.count (portPage x.src) 0x148

/-- WINDOW_ROOM (R307): the window gains room, so the first thread parked with WINDOW maps its frame. -/
def execWindowRoom (c : Fin 8) (t : Fin 128) (s : State) : Host.Outcome State Fault Refusal :=
  let th := s.thread c.val t.val
  let first := (s.cluster c.val).takers.find? (fun u => decide ((s.thread c.val u).park = 3))
  if th.st = .parked ∧ th.park = 3 ∧ first = some t.val ∧ (s.cluster c.val).halt = 0 then
    match s.frames.find? (fun x => decide (x.loc = .taking c.val t.val th.slot)) with
    | some x => if s.windowRoom c.val x then .next (s.mapFrame c.val t.val th.slot th.rd x) else .next s
    | none => .next s
  else .next s

/-- HOLD_LIMIT (R309): a thread that has held a taken frame for `us` µs, longer than NYC_HOLD.US, faults. -/
def execHoldLimit (c : Fin 8) (t : Fin 128) (us : Nat) (s : State) : Host.Outcome State Fault Refusal :=
  let th := s.thread c.val t.val
  if s.field (nycPage c.val) 0x4C 15 0 < us ∧ th.slots.any (·.isSome) ∧ th.st ≠ .halted ∧ th.st ≠ .idle ∧
      (s.cluster c.val).halt = 0 ∧ s.runs (nycIsland c.val) then
    .next (s.nFault c.val t.val 8 (min us 262143))
  else .next s

/-- SLEEP_EXPIRY (R305): a timed wait ends. -/
def execSleepExpiry (c : Fin 8) (t : Fin 128) (s : State) : Host.Outcome State Fault Refusal :=
  let th := s.thread c.val t.val
  if th.st = .parked ∧ th.park = 5 then .next (s.setThread c.val t.val { th with st := .runnable, park := 0 })
  else .next s

/-! ## Thread and cluster commands -/

/-- A thread that starts at ENTRY with everything else cleared (R315, R322). -/
def Thread.start (t : Thread) : Thread :=
  { t with regs := List.replicate 16 0, sw := 0, pc := fld t.entry 14 0, st := .runnable, park := 0,
           slots := [none, none, none, none], rd := 0, slot := 0 }

/-- A write of NYC_TCMD (R311, R315): START and STOP by an overseer, RESTART by the cluster's supervisor for another thread. -/
def State.threadCmd (s : State) (c : Nat) (m : Master) (v : Word) : State :=
  let t := s.tsel c
  let th := s.thread c t
  if m.overseer then
    if bitOn v 0 ∧ s.threadState c t = .idle then s.setThread c t th.start
    else if bitOn v 1 then
      (s.strip c t).setThread c t { th with st := .idle, park := 0, slots := [none, none, none, none] }
    else s
  else if bitOn v 2 ∧ m = .nyate (Fin.ofNat 8 c) ∧ t ≠ s.supervisor c then (s.strip c t).setThread c t th.start
  else s

/-- A write of NYC_CMD (R317, R320): FLT_POP by master 8 or an overseer, RESUME by an overseer. -/
def State.clusterCmd (s : State) (c : Nat) (m : Master) (v : Word) : State :=
  let mine := m.overseer || decide (m = .nyate (Fin.ofNat 8 c))
  let cl := s.cluster c
  let s1 := if bitOn v 0 && mine then s.setCluster c { cl with faults := cl.faults.drop 1 } else s
  let cl1 := s1.cluster c
  if bitOn v 1 && m.overseer && decide (cl1.halt = 1) && decide (cl1.faults.length < 64) then
    s1.setCluster c { cl1 with halt := 0 }
  else s1

/-- A write of NYC_TCODE, NYC_TDATA, NYC_TBIND or NYC_TENTRY (R311): only by an overseer and for an IDLE thread. -/
def State.threadCfg (s : State) (c off : Nat) (m : Master) (v : Word) : State :=
  let t := s.tsel c
  let th := s.thread c t
  if !m.overseer then s
  else if s.threadState c t ≠ .idle then s.count (nycPage c) 0xD0
  else
    s.setThread c t
      (if off = 0x94 then { th with code := v &&& 0xFFFF7FFF }
       else if off = 0x98 then { th with data := v &&& 0x07FFFFC0 }
       else if off = 0x9C then { th with bind := v &&& 0x83FFFDFF }
       else { th with entry := v &&& 0x7FFF })

/-! ## Program loads (R312, R313) -/

/-- A write of NYC_LOAD_CTL.GO (R313): the image is read by DMA with PF0's requester ID, its header first (log entry 104). -/
def State.loadGo (s : State) (c : Nat) (m : Master) (v : Word) : State :=
  if !bitOn v 31 || !m.overseer || s.nyate.loads.contains c then s
  else
    let t := { s with nyate := { s.nyate with loads := c :: s.nyate.loads } }
    (t.setReg (nycPage c) 0x80 1).openRead 0 (.program c) (t.readParts 0 [(t.reg64 (nycPage c) 0x70 / 64 * 64, 64)])

/-- Do two address ranges [a, a + n) and [b, b + m) overlap? -/
def overlap (a n b m : Nat) : Bool := decide (a < b + m) && decide (b < a + n) && decide (0 < n) && decide (0 < m)

/-- Does a thread of the core that is not IDLE use a target range (R313, refusal 3)? -/
def State.coreBusy (s : State) (c core ib ic db dc : Nat) : Bool :=
  (List.range 16).any (fun k =>
    let th := s.thread c (16 * core + k)
    decide (s.threadState c (16 * core + k) ≠ .idle) && (overlap th.ibase th.ilen ib ic || overlap th.dbase th.dlen db dc))

/-- Write instructions and data words of an image into a core's memories. -/
def State.writeCore (s : State) (c core ib ic db dc : Nat) (img : List Byte) : State :=
  let im := (List.range ic).foldl (fun m i => Sparse.put m (32768 * (8 * c + core) + ib + i) (leAt img (64 + 8 * i) 8 % 2 ^ 36))
    s.nyate.imem
  let dm := (List.range dc).foldl (fun m i =>
    Sparse.set 0 m (65536 * (8 * c + core) + db + i) (BitVec.ofNat 18 (leAt img (64 + 8 * ic + 4 * i) 4))) s.nyate.dmem
  { s with nyate := { s.nyate with imem := im, dmem := dm } }

/-- Bytes of the image whose header stands in `image`, where the header names a program that fits a core; none otherwise. -/
def imageSize (image : List Byte) : Option Nat :=
  let ic := leAt image 8 4
  let dc := leAt image 12 4
  if slice image 0 4 = [0x4E, 0x59, 0x50, 0x47] ∧ leAt image 4 2 = 1 ∧ 1 ≤ ic ∧ ic ≤ 32768 ∧ dc ≤ 65536 then
    some (64 + 8 * ic + 4 * dc + (if nbit (leAt image 6 2) 0 then 96 else 0)) else none

/-- LOAD_DONE (R313): once the header is read, the rest of the image is asked for; once that is read, the load in progress ends. `image` is
what the host supplied, `sigOk` whether its signature verifies under the enrolled operator signing key. -/
def execLoadDone (c : Fin 8) (image : List Byte) (sigOk hostError : Bool) (s : State) : Host.Outcome State Fault Refusal :=
  let u := ReadFor.program c.val
  let failed := hostError || s.readFailed u
  let base := s.reg64 (nycPage c.val) 0x70 / 64 * 64
  if !s.nyate.loads.contains c.val || (s.reading u && !hostError) then .next s
  else if !failed && !s.nyate.bodies.contains c.val && (imageSize image).isSome then
    let rest := (imageSize image).getD 0 - 64
    .next (({ s with nyate := { s.nyate with bodies := c.val :: s.nyate.bodies } }).openRead 0 u (s.readParts 0 [(base + 64, rest)]))
  else
    let p := nycPage c.val
    let core := s.field p 0x78 2 0
    let ib := s.field p 0x7C 14 0
    let db := s.field p 0x7C 31 16
    let ic := leAt image 8 4
    let dc := leAt image 12 4
    let signed := nbit (leAt image 6 2) 0
    let size := 64 + 8 * ic + 4 * dc + (if signed then 96 else 0)
    let good := (imageSize image).isSome && decide (ib + ic ≤ 32768) && decide (db + dc ≤ 65536) && decide (size ≤ image.length)
    let st := if failed then 4 else if !good then 6 else if s.keys.opKey.isSome && !(signed && sigOk) then 5
      else if s.coreBusy c.val core ib ic db dc then 3 else 2
    let s0 := s.closeReads (fun r => decide (r.use = u))
    let s1 := { s0 with nyate := { s0.nyate with loads := s.nyate.loads.filter (fun x => x ≠ c.val),
                                                 bodies := s.nyate.bodies.filter (fun x => x ≠ c.val) } }
    let s2 := if st = 2 then (s1.writeCore c.val core ib ic db dc image).count p 0xD4 else s1
    .next ((s2.setReg p 0x80 (word st)).raise p 2)

/-! ## Table requests (R336) -/

/-- A word of a core's data memory, at its absolute address. -/
def State.dmemAt (s : State) (c core a : Nat) : NWord := Sparse.get 0 s.nyate.dmem (65536 * (8 * c + core) + a)

/-- Write a word of a core's data memory. -/
def State.setDmem (s : State) (c core a : Nat) (v : NWord) : State :=
  { s with nyate := { s.nyate with dmem := Sparse.set 0 s.nyate.dmem (65536 * (8 * c + core) + a) v } }

/-- The entry bytes of a request block at `a`: byte 2i in bits [16:9] of word i, byte 2i + 1 in bits [7:0]. -/
def State.blockEntry (s : State) (c core a : Nat) : List Byte :=
  (List.range 32).flatMap (fun i =>
    let w := s.dmemAt c core (a + i)
    [(w >>> 9).setWidth 8, w.setWidth 8])

/-- The index of a request block. -/
def State.blockIndex (s : State) (c core a : Nat) : Nat :=
  (s.dmemAt c core (a + 32)).toNat + (s.dmemAt c core (a + 33)).toNat % 4 * 2 ^ 18

/-- The ARG word of a request block. -/
def State.blockArg (s : State) (c core a : Nat) : Nat := (s.dmemAt c core (a + 34)).toNat

/-- Write an entry and an index into a request block. -/
def State.writeBlock (s : State) (c core a : Nat) (e : Option (List Byte)) (i : Nat) : State :=
  let s1 := match e with
    | none => s
    | some b => (List.range 32).foldl (fun u j =>
        u.setDmem c core (a + j) (BitVec.ofNat 18 (byteAt b (2 * j) * 512 + byteAt b (2 * j + 1)))) s
  (s1.setDmem c core (a + 32) (BitVec.ofNat 18 (i % 2 ^ 18))).setDmem c core (a + 33) (BitVec.ofNat 18 (i / 2 ^ 18))

/-- Is a table request of a thread with this NYC_TBIND refused under R310? A bound thread's INSERT and DELETE act only on entries
bound to its function; WRING is denied. -/
def State.treqDenied (s : State) (bind : Word) (op k i : Nat) (e : List Byte) (replace : Bool) : Bool :=
  let mine (x : List Byte) : Bool := boundTo k x = some (fld bind 25 16)
  bitOn bind 31 &&
    (decide (op = 5) ||
      (decide (op = 3) &&
        (!mine e || (replace && (match s.search k e i with | some j => !mine (s.entry k j) | none => false)) ||
          (replace && decide (2 ≤ k) && validEntry k (s.entry k i) && !mine (s.entry k i)))) ||
      (decide (op = 4) && (match s.search k e i with | some j => !mine (s.entry k j) | none => false)))

/-- One more frame matched by flow entry i (R233, PACKETS). -/
def State.flowMatched (s : State) (i : Nat) : State :=
  let e := s.entry 1 i
  s.setEntry 1 i (splice e 60 (leBytes 4 (leAt e 60 4 + 1)))

/-- TABLE_ANSWER (R336, R241): a table serves the clusters' requests round-robin; the cluster's oldest, where it has its turn, is served, writes its block and status back and
makes the thread runnable; the answer of a stopped thread's request is discarded. -/
def execTableAnswer (c : Fin 8) (s₀ : State) : Host.Outcome State Fault Refusal :=
  match s₀.nyate.treqs.find? (fun r => decide (r.c = c.val)) with
  | none => .next s₀
  | some r =>
      let turnOf (x : TReq) : Nat := turn 8 (s₀.tbl.turns.getD r.table 7) x.c
      if !s₀.runs .tbl || s₀.treqHeads.any (fun x => decide (x.table = r.table) && decide (turnOf x < turnOf r)) then .next s₀
      else
        let s := { s₀ with tbl := { s₀.tbl with turns := setAt 0 s₀.tbl.turns r.table r.c } }
        let core := r.t / 16
        let th := s.thread r.c r.t
        let op := r.imm % 8
        let k := r.imm / 16 % 4
        let e := cleanEntry k (s.blockEntry r.c core r.addr)
        let i := s.blockIndex r.c core r.addr
        if s.treqDenied r.bind op k i e (nbit r.imm 8) then
          let s1 := { s with nyate := { s.nyate with treqs := s.nyate.treqs.erase r } }
          .next (if r.dead then s1 else s1.nFault r.c r.t 7 op)
        else
        let arg := s.blockArg r.c core r.addr
        let filt := if nbit r.imm 10 then some (arg % 1024) else none
        let a := s.tblRun op k i e (nbit r.imm 8) (nbit r.imm 9) filt (arg % 8) (.nyate c)
        let s1 := { a.1 with nyate := { a.1.nyate with treqs := a.1.nyate.treqs.erase r } }
        let s2 := match a.2.2.2 with
          | some (_, j) => if op = 1 ∧ k = 1 then s1.flowMatched j else s1
          | none => s1
        if r.dead then .next s2
        else
          let s3 := match a.2.2.2 with
            | some (x, j) => s2.writeBlock r.c core r.addr (if a.2.1 = 0x00 then some x else none) j
            | none => if op = 5 then s2.writeBlock r.c core r.addr none a.2.2.1 else s2
          .next (s3.setThread r.c r.t { (th.setR th.rd (BitVec.ofNat 18 a.2.1)).step with st := .runnable, park := 0 })

end Sys2Proof.Machine
end

