-- ==== Sys2Proof/Machine/Crypto.lean ====
section
/-!
DEFINITION. Machine/Crypto.lean: security associations, key slots and packet numbers (R268 to R275), MACsec verification
(R263), ESP (R266, R267), the staging registers and commands of the CRY page (R271, R278).
Layouts of the SecTAG, of ESP and of IP headers are those of IEEE 802.1AE, RFC 4303 and IP (PRESUMED, log entry 14).
-/
namespace Sys2Proof.Machine

open Sys2Proof

/-! ## Key slots -/

/-- A slot nothing was loaded into. -/
def KeySlot.empty : KeySlot := { key := List.replicate 8 0, salt := List.replicate 3 0, k256 := false, loaded := false, wiping := false }

/-- Key slot i. -/
def State.keySlot (s : State) (i : Nat) : KeySlot := (Sparse.find s.cry.slots i).getD KeySlot.empty

/-- Set a key slot. -/
def State.setSlot (s : State) (i : Nat) (x : KeySlot) : State := { s with cry := { s.cry with slots := Sparse.put s.cry.slots i x } }

/-- Does the slot of an SA hold a key (R272)? -/
def State.keyThere (s : State) (i : Nat) : Bool := (s.keySlot i).loaded && !(s.keySlot i).wiping

/-- Set the staged words to 0. -/
def State.clearStage (s : State) : State :=
  { s with cry := { s.cry with key := List.replicate 8 0, salt := List.replicate 3 0 } }

/-- A write of a staging register (R271): CRY_KEY_DATA0–7, CRY_SALT0–2. -/
def State.stageKey (s : State) (off : Nat) (v : Word) : State :=
  if off < 0xA0 then { s with cry := { s.cry with key := setAt 0 s.cry.key ((off - 0x80) / 4) v } }
  else { s with cry := { s.cry with salt := setAt 0 s.cry.salt ((off - 0xA0) / 4) v } }

/-- A write of CRY_KEY_CMD (R271, R272): LOAD by an overseer, refused while the SA is valid (2) or the slot is being
zeroised (3); the staging registers are set to 0. -/
def State.keyLoad (s : State) (m : Master) (v : Word) : State :=
  if !bitOn v 0 || !m.overseer then s
  else
    let i := s.field .cry 0xAC 15 0
    let result := if validEntry 3 (s.entry 3 i) then 2 else if (s.keySlot i).wiping then 3 else 1
    let t := if result = 1 then
        s.setSlot i { key := s.cry.key, salt := s.cry.salt, k256 := bitOn v 1, loaded := true, wiping := false }
      else s
    ({ t with cry := { t.cry with result := result } }).clearStage

/-- A write of CRY_NOTE (R275): POP removes the head of the note FIFO. -/
def State.notePop (s : State) (v : Word) : State :=
  if bitOn v 31 then { s with cry := { s.cry with notes := s.cry.notes.drop 1 } } else s

/-- KEY_STAGE_TIMEOUT (R271): 1 ms after the last staging write with no LOAD, the staging registers are set to 0. -/
def execKeyStageTimeout (s : State) : Host.Outcome State Fault Refusal := .next s.clearStage

/-- Does a frame inside CRY still use the key of slot i (R273)? -/
def State.slotUsed (s : State) (i : Nat) : Bool := s.frames.any (fun x => x.old.isSome && decide (x.sa = i))

/-- KEY_SLOT_ZEROISED (R273): the slot of a deleted SA is zeroised, once no frame inside CRY uses it. -/
def execKeySlotZeroised (slot : BitVec 16) (s : State) : Host.Outcome State Fault Refusal :=
  if (s.keySlot slot.toNat).wiping && !s.slotUsed slot.toNat then
    .next { s with cry := { s.cry with slots := Sparse.del s.cry.slots slot.toNat } }
  else .next s

/-! ## Notes and packet numbers -/

/-- Place a note of a kind for an SA in the FIFO of 64; one that finds it full is lost and counted (R275). -/
def State.cryNote (s : State) (kind sa : Nat) : State :=
  if s.cry.notes.length < 64 then { s with cry := { s.cry with notes := s.cry.notes ++ [(kind, sa)] } }
  else (s.add .cry 0x74 23 16 1).raise .cry 2

/-- PN_MAX of an SA (R275). -/
def pnMax (e : List Byte) : Nat := if nbit (byteAt e 1) 2 then 2 ^ 64 - 1 else 2 ^ 32 - 1

/-- NEXT_PN of an SA (R268). -/
def nextPn (e : List Byte) : Nat := leAt e 52 8

/-- STATE of an SA (R268). -/
def saState (e : List Byte) : Nat := byteAt e 60

/-- Numbers at or below which an SA warns (R275). -/
def State.warnRemain (s : State) (e : List Byte) : Nat :=
  (s.reg .cry 0x70).toNat * (if nbit (byteAt e 1) 2 then 2 ^ 32 else 1)

/-- An SA whose remaining numbers have fallen to the threshold warns once (R275). -/
def State.pnWarn (s : State) (i : Nat) : State :=
  let e := s.entry 3 i
  if validEntry 3 e && decide (saState e = 0) && decide (pnMax e - nextPn e ≤ s.warnRemain e) then
    ((s.setEntry 3 i (setByte e 60 1)).cryNote 1 i).raise .cry 0
  else s

/-- An SA is exhausted (R275). -/
def State.exhaust (s : State) (i : Nat) : State :=
  let e := s.entry 3 i
  if saState e = 2 then s else ((s.setEntry 3 i (setByte e 60 2)).cryNote 2 i).raise .cry 1

/-- The number `n` of SA i is used: NEXT_PN moves on, thresholds act, PN_MAX exhausts the SA (R275). -/
def State.usePn (s : State) (i n : Nat) : State :=
  let e := s.entry 3 i
  if pnMax e ≤ n then (s.pnWarn i).exhaust i
  else (s.setEntry 3 i (splice e 52 (leBytes 8 (n + 1)))).pnWarn i

/-- PN_WARN (R275): an SA whose remaining numbers have reached CRY_PN_WARN. -/
def execPnWarn (sa : BitVec 16) (s : State) : Host.Outcome State Fault Refusal := .next (s.pnWarn sa.toNat)

/-- SA_EXHAUSTED (R275): an SA whose next number lies beyond PN_MAX has no number left. -/
def execSaExhausted (sa : BitVec 16) (s : State) : Host.Outcome State Fault Refusal :=
  let e := s.entry 3 sa.toNat
  if validEntry 3 e && decide (pnMax e < nextPn e) then .next (s.exhaust sa.toNat) else .next s

/-- Why an SA cannot serve as STYPE `ty`: an engine code of R276. -/
def State.saFault (s : State) (i ty : Nat) : Option Nat :=
  let e := s.entry 3 i
  if !validEntry 3 e || decide (byteAt e 0 ≠ ty) then some 1
  else if saState e = 2 ∨ pnMax e < nextPn e then some 2
  else if !s.keyThere i then some 3 else none

/-! ## The replay window (R274) -/

/-- What CRY keeps of an SA nothing was received on. -/
def SaLive.reset : SaLive := { ok := 0, icv := 0, late := 0, seen := [], high := 0 }

/-- The live state of SA i. -/
def State.live (s : State) (i : Nat) : SaLive := (Sparse.find s.cry.live i).getD SaLive.reset

/-- Change the live state of SA i. -/
def State.setLive (s : State) (i : Nat) (x : SaLive) : State := { s with cry := { s.cry with live := Sparse.put s.cry.live i x } }

/-- The number a received 32-bit number stands for, 64-bit numbers being recovered from the lowest acceptable one. -/
def recoverPn (e : List Byte) (low : Nat) : Nat :=
  if nbit (byteAt e 1) 2 then
    let b := nextPn e
    (b / 2 ^ 32 + (if nbit b 31 && !nbit low 31 then 1 else 0)) * 2 ^ 32 + low
  else low

/-- REPLAY.EN and WIN. -/
def replayOn (e : List Byte) : Bool := nbit (leAt e 48 2) 15
def replayWin (e : List Byte) : Nat := leAt e 48 2 % 2048

/-- Is a number late (R274)? -/
def State.isLate (s : State) (i n : Nat) : Bool :=
  let e := s.entry 3 i
  replayOn e && (decide (n < nextPn e) || (s.live i).seen.contains n)

/-- A verified number is taken into the window: the highest seen, the lowest acceptable, and the numbers seen in it; a
number that reaches PN_MAX exhausts the SA (R274, R275). -/
def State.takePn (s : State) (i n : Nat) : State :=
  let e := s.entry 3 i
  let x := s.live i
  let high := max x.high n
  let low := if replayOn e then max (nextPn e) (high + 1 - replayWin e) else nextPn e
  let s1 := s.setLive i { x with ok := x.ok + 1, high := high, seen := if replayOn e then n :: x.seen.filter (fun k => decide (low ≤ k)) else [] }
  let s2 := s1.setEntry 3 i (splice e 52 (leBytes 8 (min low (2 ^ 64 - 1))))
  if pnMax e ≤ n then (s2.pnWarn i).exhaust i else s2.pnWarn i

/-- The outcome of judging a received number and its ICV: taken, late, or not verified (R274). -/
inductive RxVerdict where | ok | late | bad
  deriving DecidableEq, Repr

/-- Judge a received number, counting for the SA (R274, R278). -/
def State.judgeRx (s : State) (i n : Nat) (icvOk : Bool) : State × RxVerdict :=
  let x := s.live i
  if !icvOk then (s.setLive i { x with icv := x.icv + 1 }, .bad)
  else if s.isLate i n then (s.setLive i { x with late := x.late + 1 }, .late)
  else (s.takePn i n, .ok)

/-- Judge a received number under the entry of an SA that was deleted with the frame inside CRY: the old key finishes the frame, and its
window is gone (R273, log entry 118). -/
def State.judgeOld (s : State) (i : Nat) (e : List Byte) (n : Nat) (icvOk : Bool) : RxVerdict :=
  if !icvOk || !(s.keySlot i).loaded || decide (saState e = 2) then .bad
  else if replayOn e && decide (n < nextPn e) then .late else .ok

/-! ## MACsec -/

/-- MACsec settings of a port act: not on ring ports while HSR is in effect (R262). -/
def State.macsecOn (s : State) (p : Nat) : Bool := !s.hsrOn p

/-- CRY_MS_PORT of a port. -/
def State.msPort (s : State) (p : Nat) : Word := s.reg .cry (0x40 + 4 * p)

/-- Count in counter k of R278 of port p. -/
def State.msCount (s : State) (p k : Nat) : State := s.count .cry (0x100 + 32 * p + 4 * k)

/-- Does the port receive MACsec frames (RX_EN), and in which mode? -/
def State.msRx (s : State) (p : Nat) : Option Nat :=
  if s.macsecOn p && bitOn (s.msPort p) 3 then some (fld (s.msPort p) 1 0) else none

/-- EtherTypes that MACsec leaves alone (R263, R265). -/
def macsecFree (t : Nat) : Bool := t = 0x888E || t = 0x88F7

/-- The receive SA of a frame: SEARCH on (PORT, AN, SCI). -/
def State.rxSa (s : State) (p : Nat) (b : List Byte) : Option Nat :=
  s.search 3 (s.rxKey p b) 0

/-- Where a frame of port p goes once MACsec has passed it (R255): PRP duplicate discard, else its cluster. -/
def State.afterMacsec (s : State) (p : Nat) (x : Frame) : Loc :=
  if s.prp && decide (2 ≤ p) && (rct x.body).isSome then .prpIn p
  else .dispatch (s.classCluster p x.dclass) x.dclass

/-- CRY's verdict on a frame with a SecTAG, under the SA it finds or the deleted one it finishes with (R263, R273); none without an SA. -/
def State.rxJudged (s : State) (x : Frame) (p : Nat) (icvOk : Bool) : Option (State × RxVerdict) :=
  let low := beAt x.body 16 4
  match x.old with
  | some e => some (s, s.judgeOld x.sa e (recoverPn e low) icvOk)
  | none =>
      match s.rxSa p x.body with
      | none => none
      | some i =>
          match s.saFault i 2 with
          | some _ => some (s, .bad)
          | none => some (s.judgeRx i (recoverPn (s.entry 3 i) low) icvOk)

/-- MACSEC_RX_VERIFY (R263): a frame with a SecTAG is verified under the port's mode; no mode delivers one that failed.
`plain` is what decryption gave behind the addresses. -/
def execMacsecRxVerify (id : Nat) (icvOk : Bool) (plain : List Byte) (s : State) : Host.Outcome State Fault Refusal :=
  match s.frame id with
  | none => .next s
  | some x =>
      match x.loc with
      | .macsec p =>
          let b := bytesOf x.nonets
          if !s.runs .cry then .next s
          else if x.bad then .next (s.endFrame x (.drop 6))
          else
            let s1 := s.checkRead 3 (s.rxKey p b) 0
            match s1.rxJudged x p icvOk with
            | none => .next ((s1.endFrame x (.drop 2)).msCount p 2)
            | some (t, .bad) => .next ((t.endFrame x (.drop 2)).msCount p 1)
            | some (t, .late) => .next ((t.endFrame x (.drop 2)).msCount p 3)
            | some (t, .ok) =>
                let b1 := slice b 0 12 ++ plain
                let y := { x with nonets := stitched b1 (boundaries b1), tc := outerPcp false b1, old := none, sa := 0 }
                .next ((t.setFitted { y with loc := t.afterMacsec p y }).msCount p 0)
      | _ => .next s

/-! ## IP headers -/

/-- Sum of 16-bit words in network order. -/
def sum16 (b : List Byte) : Nat :=
  match b with
  | [] => 0
  | [x] => x.toNat * 256
  | x :: y :: r => x.toNat * 256 + y.toNat + sum16 r

/-- The Internet checksum of bytes. -/
def inetSum (b : List Byte) : Nat :=
  let t := sum16 b
  let u := t % 65536 + t / 65536
  0xFFFF - (u % 65536 + u / 65536)

/-- Is a frame IPv4 or IPv6 behind its tags, and where does its IP header start? -/
def ipAt (b : List Byte) : Option (Bool × Nat) :=
  let p := etherPos true b
  if beAt b p 2 = 0x0800 then some (false, p + 2) else if beAt b p 2 = 0x86DD then some (true, p + 2) else none

/-- Length of an IP header. -/
def ipLen (v6 : Bool) (b : List Byte) (l3 : Nat) : Nat := if v6 then 40 else byteAt b l3 % 16 * 4

/-- IP protocol. -/
def ipProto (v6 : Bool) (b : List Byte) (l3 : Nat) : Nat := if v6 then byteAt b (l3 + 6) else byteAt b (l3 + 9)

/-- Is this an IP fragment? -/
def ipFrag (v6 : Bool) (b : List Byte) (l3 : Nat) : Bool :=
  if v6 then decide (byteAt b (l3 + 6) = 44) else decide (beAt b (l3 + 6) 2 % 16384 ≠ 0)

/-- End of the IP packet. -/
def ipEnd (v6 : Bool) (b : List Byte) (l3 : Nat) : Nat :=
  if v6 then l3 + 40 + beAt b (l3 + 4) 2 else l3 + beAt b (l3 + 2) 2

/-- DSCP of an IP packet. -/
def ipDscp (v6 : Bool) (b : List Byte) (l3 : Nat) : Nat :=
  if v6 then beAt b l3 2 / 64 % 64 else byteAt b (l3 + 1) / 4

/-- An address in the layout of R233. -/
def addr16 (v6 : Bool) (b : List Byte) (at_ : Nat) : List Byte := if v6 then slice b at_ 16 else slice b at_ 4 ++ List.replicate 12 0

/-- Source and destination of a packet. -/
def ipSrc (v6 : Bool) (b : List Byte) (l3 : Nat) : List Byte := if v6 then addr16 true b (l3 + 8) else addr16 false b (l3 + 12)
def ipDst (v6 : Bool) (b : List Byte) (l3 : Nat) : List Byte := if v6 then addr16 true b (l3 + 24) else addr16 false b (l3 + 16)

/-- An IP header with its checksum: DSCP, DF (IPv4), TTL or hop limit, protocol, payload length, addresses. -/
def ipHeader (v6 : Bool) (dscp id : Nat) (df : Bool) (ttl proto len : Nat) (src dst : List Byte) : List Byte :=
  if v6 then
    beBytes 2 (6 * 4096 + dscp * 64) ++ [0, 0] ++ beBytes 2 len ++ leBytes 1 proto ++ leBytes 1 ttl ++ slice src 0 16 ++ slice dst 0 16
  else
    let h := [0x45, BitVec.ofNat 8 (dscp * 4)] ++ beBytes 2 (20 + len) ++ beBytes 2 id ++ beBytes 2 (df.toNat * 0x4000) ++
      leBytes 1 ttl ++ leBytes 1 proto ++ [0, 0] ++ slice src 0 4 ++ slice dst 0 4
    splice h 10 (beBytes 2 (inetSum h))

/-- A packet's IP header with another protocol and payload length, its checksum made right. -/
def ipRewrite (v6 : Bool) (h : List Byte) (proto len : Nat) : List Byte :=
  if v6 then splice (splice h 4 (beBytes 2 len)) 6 (leBytes 1 proto)
  else
    let g := splice (splice (splice h 2 (beBytes 2 (h.length + len))) 9 (leBytes 1 proto)) 10 [0, 0]
    splice g 10 (beBytes 2 (inetSum g))

/-! ## ESP -/

/-- A frame whose bytes an engine replaced. -/
def Frame.rebuilt (x : Frame) (b : List Byte) : Frame := { x with nonets := stitched b (boundaries b) }

/-- A frame from the ring without its HSR tag (R217, log entry 89). -/
def Frame.untagHsr (x : Frame) : Frame :=
  if x.func || decide (2 ≤ x.src) then x
  else match hsrPos x.body with | some i => x.rebuilt (x.body.take i ++ x.body.drop (i + 6)) | none => x

/-- The key words of SA i: all eight with KEY256, else four (R268, R271). -/
def State.saKey (s : State) (i : Nat) : List Word := (s.keySlot i).key.take (if nbit (byteAt (s.entry 3 i) 1) 1 then 8 else 4)

/-- AES-GCM under SA i: the sealed bytes and the ICV of 16 (R262, R266). -/
def State.gcm (s : State) (i : Nat) (iv aad plain : List Byte) : List Byte :=
  firstBytes (plain.length + 16) (Config.gcm (s.saKey i) iv aad plain)

/-- An ESP packet around a payload (R266, R271): SPI, number, IV, sealed bytes and ICV; the padding 1, 2, 3 brings the trailer to 4-byte
alignment. The nonce is SALT0 and the IV, which is a free value (log entry 117). -/
def State.espWrap (s : State) (i n next : Nat) (payload : List Byte) : List Byte :=
  let e := s.entry 3 i
  let pad := (4 - (payload.length + 2) % 4) % 4
  let plain := payload ++ (List.range pad).map (fun k => BitVec.ofNat 8 (k + 1)) ++ leBytes 1 pad ++ leBytes 1 next
  let iv := firstBytes 8 (Config.espIv n)
  let aad := slice e 4 4 ++ (if nbit (byteAt e 1) 2 then beBytes 8 n else beBytes 4 n)
  slice e 4 4 ++ beBytes 4 n ++ iv ++ s.gcm i (beBytes 4 ((s.keySlot i).salt.getD 0 0).toNat ++ iv) aad plain

/-- ESP outbound on a frame's bytes (R266, R268): tunnel mode with the SA's outer addresses, or transport mode. A frame
that is not IP, and a fragment, pass unchanged (log entry 15). -/
def State.espOut (s : State) (i n : Nat) (b : List Byte) : List Byte :=
  let e := s.entry 3 i
  match ipAt b with
  | none => b
  | some (v6, l3) =>
      if ipFrag v6 b l3 then b
      else
        let stop := min (ipEnd v6 b l3) b.length
        if nbit (byteAt e 1) 3 then
          let p := s.espWrap i n (if v6 then 41 else 4) ((b.drop l3).take (stop - l3))
          let o6 := nbit (byteAt e 1) 4
          let tos := byteAt e 62
          let dscp := if nbit tos 6 then ipDscp v6 b l3 else tos % 64
          b.take (l3 - 2) ++ (if o6 then [0x86, 0xDD] else [0x08, 0x00]) ++
            ipHeader o6 dscp (Config.ipId b % 65536) (nbit tos 7) (byteAt e 61) 50 p.length (slice e 28 16) (slice e 12 16) ++ p
        else
          let h := ipLen v6 b l3
          let p := s.espWrap i n (ipProto v6 b l3) ((b.drop (l3 + h)).take (stop - l3 - h))
          b.take l3 ++ ipRewrite v6 ((b.drop l3).take h) 50 p.length ++ p

/-- The packet inside an ESP packet, from the bytes decryption gave (R267); `none` for next header 59. -/
def espInner (e b plain : List Byte) (v6 : Bool) (l3 : Nat) : Option (List Byte) :=
  let next := byteAt plain (plain.length - 1)
  let pad := byteAt plain (plain.length - 2)
  let payload := plain.take (plain.length - 2 - pad)
  if next = 59 then none
  else if nbit (byteAt e 1) 3 then some (b.take (l3 - 2) ++ (if next = 41 then [0x86, 0xDD] else [0x08, 0x00]) ++ payload)
  else some (b.take l3 ++ ipRewrite v6 ((b.drop l3).take (ipLen v6 b l3)) next payload.length ++ payload)

/-- Does ESP inbound still have to judge a frame queued to a receive queue (R267)? -/
def Frame.espPending (x : Frame) : Bool :=
  !x.esp && (match ipAt x.body with
    | some (v6, l3) => decide (ipProto v6 x.body l3 = 50) && !ipFrag v6 x.body l3
    | none => false)

/-- What a packet's inbound SA is searched by: STYPE 4 with IPV6, ADDR and SPI (R267, R268). -/
def espKey (b : List Byte) (v6 : Bool) (l3 : Nat) : List Byte :=
  [4, BitVec.ofNat 8 (v6.toNat * 16), 0, 0] ++ slice b (l3 + ipLen v6 b l3) 4 ++ [0, 0, 0, 0] ++ ipDst v6 b l3 ++ List.replicate 36 0

/-- The inbound SA of a packet. -/
def State.espSa (s : State) (b : List Byte) (v6 : Bool) (l3 : Nat) : Option Nat := s.search 3 (espKey b v6 l3) 0

/-- What CRY reads of the SA table to open a packet queued to a receive queue is checked first (R251). -/
def State.espChecked (s : State) (b : List Byte) : State :=
  match ipAt b with
  | some (v6, l3) => s.checkRead 3 (espKey b v6 l3) 0
  | none => s

/-- Is a frame an IP fragment, which CRY never processes (R266)? -/
def Frame.fragment (x : Frame) : Bool := match ipAt x.body with | some (v6, l3) => ipFrag v6 x.body l3 | none => false

/-- Verify and open an ESP packet under SA i, or under the deleted SA it finishes with (R273): the frame opened, or why it ends (log entry
16). A fragment passes as received (R266). -/
def State.espOpen (s : State) (x : Frame) (i : Nat) (icvOk : Bool) (plain : List Byte) : State × Except FrameEnd Frame :=
  if x.fragment then (s, .ok { x with esp := true, old := none })
  else
    match ipAt x.body, (if x.old.isSome then none else s.saFault i 4) with
    | some (v6, l3), none =>
        let e := x.old.getD (s.entry 3 i)
        let n := recoverPn e (beAt x.body (l3 + ipLen v6 x.body l3 + 4) 4)
        let r := if x.old.isSome then (s, s.judgeOld i e n icvOk) else s.judgeRx i n icvOk
        if r.2 = .ok then
          match espInner e x.body plain v6 l3 with
          | some b => (r.1, .ok { x.rebuilt b with esp := true, old := none })
          | none => (r.1, .error (.drop 2))
        else (r.1, .error (.engine 6))
    | none, none => (s, .error (.engine 7))
    | _, some c => (s, .error (.engine c))

/-- ESP_INBOUND (R267, R335): an ESP packet queued to a receive queue, or handed to CRY by ENG, is opened under its SA and
delivered, delivered unchanged where no SA of the queue's function matches, or dropped. -/
def execEspInbound (id : Nat) (icvOk : Bool) (plain : List Byte) (s : State) : Host.Outcome State Fault Refusal :=
  match s.frame id with
  | none => .next s
  | some x =>
      if !s.runs .cry then .next s
      else
        match x.loc with
        | .rxq f q =>
            if !x.espPending then .next s
            else
              let s0 := s.espChecked x.body
              let hit := match ipAt x.body with
                | some (v6, l3) => (s0.espSa x.body v6 l3).filter (fun i => decide (boundTo 3 (s0.entry 3 i) = some f))
                | none => none
              match hit with
              | none => .next ((s0.setFrame { x with esp := true }).count .cry 0x180)
              | some i =>
                  let s1 := s0.moveOrDrop x 8
                  match s1.frame id with
                  | none => .next s1
                  | some y =>
                      if y.bad then .next (s1.endFrame y (.drop 6))
                      else
                        match s1.espOpen y i icvOk plain with
                        | (t, .ok z) =>
                            .next ((t.setFitted { z with loc := .rxq f q }).onFrame id (fun u w => u.moveOrDrop w (funcChan f 1)))
                        | (t, .error e) => .next (t.endFrame y e)
        | .engine c _ 8 true =>
            let s1 := s.moveOrDrop x 8
            match s1.frame id with
            | none => .next s1
            | some y =>
                if y.bad then .next (s1.endFrame y (.drop 6))
                else
                  match s1.espOpen y y.sa icvOk plain with
                  | (t, .ok z) => .next (t.setFitted { z with loc := .gated c })
                  | (t, .error e) => .next (t.endFrame y e)
        | _ => .next s

end Sys2Proof.Machine
end

