-- ==== Sys2Proof/Machine/ConfigSpace.lean ====
section
/-!
DEFINITION. Machine/ConfigSpace.lean: what the configuration space of a function reports (R88 to R95, R104, R106). Fields of the PCI Express
base specification that this unit's spec says nothing of have no place here (log entry 110).
-/
namespace Sys2Proof.Machine

open Sys2Proof

/-- The capabilities of R94. -/
inductive Cap where
  | powerManagement | msix | pciExpress | aer | ari | srIov | ltr | l1pm | secondaryPcie | dataLinkFeature | phy16 | phy32 | laneMargining
  deriving DecidableEq, Repr

/-- The capabilities of function f in the configuration space that every PCI device has, by offset (R94). -/
def baseCaps : List (Nat × Cap) := [(0x040, .powerManagement), (0x050, .msix), (0x070, .pciExpress)]

/-- The extended capabilities of function f, by offset (R94). -/
def extCaps (f : Nat) : List (Nat × Cap) :=
  if f = 0 then [(0x100, .aer), (0x140, .ari), (0x150, .srIov), (0x190, .ltr), (0x1A0, .l1pm), (0x1B0, .secondaryPcie),
    (0x1E0, .dataLinkFeature), (0x1F0, .phy16), (0x230, .phy32), (0x270, .laneMargining)]
  else if f < 4 then [(0x100, .aer), (0x140, .ari)] else [(0x100, .ari)]

/-- Does function f carry a capability? -/
def hasCap (f : Nat) (c : Cap) : Bool := (baseCaps ++ extCaps f).any (fun x => decide (x.2 = c))

/-- The next pointer of each capability of a list: the offset of the one behind it, 0 for the last (R94). -/
def nextOf (l : List (Nat × Cap)) : List (Nat × Nat) := l.zip (((l.drop 1).map (·.1)) ++ [0]) |>.map (fun x => (x.1.1, x.2))

/-- One base address register: its index, size in bytes, 64-bit addressing and prefetchability (R95). -/
structure BarInfo where
  idx  : Nat
  size : Nat
  wide : Bool
  pref : Bool
  deriving DecidableEq, Repr

/-- The BARs of function f, those of a VF standing in the SR-IOV capability of PF0 (R95). -/
def barsOf (f : Nat) : List BarInfo :=
  let mk (i n : Nat) : BarInfo := { idx := i, size := n, wide := true, pref := false }
  if f = 0 then [mk 0 0x4000000, mk 2 0x10000, mk 4 0x8000]
  else if f < 4 then [mk 0 0x100000, mk 2 0x4000, mk 4 0x8000] else [mk 0 0x10000]

/-- What PF0's SR-IOV capability reports (R91, R93). -/
structure SrIovInfo where
  totalVFs : Nat
  first    : Nat
  stride   : Nat
  vfDevice : Nat
  numVFs   : Nat
  enable   : Bool
  deriving DecidableEq, Repr

/-- What the PM capability reports (R106, R107): version, Aux_Current, No_Soft_Reset, whether PME_Support names D0, D3hot and D3cold, and
the Power State field: 0 D0, 3 D3hot. -/
structure PmInfo where
  version     : Nat
  auxCurrent  : Nat
  noSoftReset : Bool
  pmeD0 : Bool
  pmeD3hot : Bool
  pmeD3cold : Bool
  d1 : Bool
  d2 : Bool
  powerState  : Nat
  deriving DecidableEq, Repr

/-- What the PCI Express capability and its companions report of the options of R88 to R90: Max Payload Size supported and set in bytes, Max
Read Request Size set, Function Level Reset, 10-bit tags and ID-based ordering, the retimers present, lane reversal, generations and
widths; and that L0s, ECRC, hot-plug and surprise removal are not supported. -/
structure PcieInfo where
  mpsSupported : Nat
  mps : Nat
  mrrs : Nat
  flr : Bool
  tag10 : Bool
  ido : Bool
  retimers : Nat
  laneReversal : Bool
  maxGen : Nat
  widths : List Nat
  l0s : Bool
  ecrc : Bool
  hotPlug : Bool
  surpriseDown : Bool
  deriving DecidableEq, Repr

/-- The configuration space of a function as its spec gives it. -/
structure CfgSpace where
  vendor    : Nat
  device    : Nat
  subVendor : Nat
  subsystem : Nat
  classCode : Nat
  revision  : Nat
  header    : Nat
  capList   : Bool
  intPin    : Nat
  caps      : List (Nat × Cap)
  next      : List (Nat × Nat)
  bars      : List BarInfo
  pm        : PmInfo
  tableSize : Nat
  pcie      : PcieInfo
  srIov     : Option SrIovInfo
  deriving DecidableEq, Repr

/-- The Power State field (R107): D3hot from the D3hot write until a D0 write takes effect. -/
def DState.field : DState → Nat
  | .d0 => 0
  | .entering | .enteringThenD0 | .d3 => 3

/-- The configuration space of function f (R88 to R95, R104, R106). -/
def State.cfgSpace (s : State) (f : Nat) : CfgSpace :=
  let x := s.func f
  let pf := decide (f < 4)
  { vendor := if pf then 0x1E5C else 0xFFFF, device := if pf then 0x0B24 else 0xFFFF, subVendor := 0x1E5C,
    subsystem := if s.hasMeter then 1 else 2, classCode := 0x020000, revision := s.field .unit 0x40 31 24, header := 0, capList := true,
    intPin := 0, caps := baseCaps ++ extCaps f, next := nextOf baseCaps ++ nextOf (extCaps f), bars := barsOf f,
    pm := { version := 3, auxCurrent := 0, noSoftReset := true, pmeD0 := pf, pmeD3hot := pf, pmeD3cold := pf, d1 := false, d2 := false,
            powerState := x.dstate.field },
    tableSize := x.asg.vectors - 1,
    pcie := { mpsSupported := 512, mps := x.cfg.maxPayload, mrrs := x.cfg.maxReadReq, flr := true, tag10 := true, ido := true, retimers := 1,
              laneReversal := true, maxGen := 5, widths := [1, 2, 4, 8, 16], l0s := false, ecrc := false, hotPlug := false,
              surpriseDown := false },
    srIov := if f = 0 then some { totalVFs := 1020, first := 4, stride := 1, vfDevice := 0x0B25, numVFs := x.cfg.numVFs,
                                  enable := x.cfg.vfEnable } else none }

/-- The routing ID of function f (R91): PF0's and its ARI number, the carry passing into the bus number. -/
def State.routingId (s : State) (f : Nat) : Nat := (s.host.rid + f) % 65536

end Sys2Proof.Machine
end

