-- ==== Sys2Proof/Machine/Levels.lean ====
section
/-!
DEFINITION. Machine/Levels.lean: the running clocks of the islands (R344 to R346), the performance levels and the order of a
level change (R347 to R354), and the wake of an island in S1 (R357, R360, R361).
-/
namespace Sys2Proof.Machine

open Sys2Proof

/-! ## Clocks -/

/-- Does a clock source of island i run: its PLL, or the reference? -/
def State.sourceOk (s : State) (i : Nat) (pll : Bool) : Bool := !s.clk.refLost && (!pll || !bitOn s.clk.pllLost i)

/-- Is the multiplexer of island i in the middle of a switch (CLK_MUX_BUSY)? -/
def State.muxBusy (s : State) (i : Nat) : Bool := bitOn (s.reg .clk 0x48) i

/-- An island has a clock while its selected source runs and its multiplexer does not hang (R344). -/
def State.followClock (s : State) (i : Nat) : State :=
  let x := s.island (islandOf i)
  s.setIsland (islandOf i) { x with noClock := s.muxBusy i || !s.sourceOk i (bitOn (s.reg .clk 0x44) i) }

/-- The clocks of all switchable islands after a source stopped or returned. -/
def State.followClocks (s : State) : State := (List.range 16).foldl State.followClock s

/-- The management controller switches a multiplexer when the old source's RUNNING bit reads 1 (R345). The switch completes
unless the old or the new clock has stopped: then it hangs (R344). -/
def State.muxTo (s : State) (i : Nat) (pll : Bool) : State :=
  let now := bitOn (s.reg .clk 0x44) i
  let running := bitOn (s.reg .clk 0x40) (if now then i else 31)
  if now = pll || !running || s.muxBusy i || (s.island (islandOf i)).cold then s
  else if (s.island (islandOf i)).noClock || !s.sourceOk i pll then (s.setBit .clk 0x48 i true).followClock i
  else (s.setBit .clk 0x44 i pll).followClock i

/-! ## Levels -/

/-- Voltage of the CORE rail at a level, mV (R347). -/
def coreMv (pl : Nat) : Nat := [600, 680, 750, 820, 900].getD pl 900
/-- Voltage of the SRAM rail at a level, mV (R347). -/
def sramMv (pl : Nat) : Nat := [700, 750, 800, 850, 900].getD pl 900

/-- The number of variable island j: NYC0 to NYC7, CRY, TUN. -/
def varNum (j : Nat) : Nat := if j < 8 then 4 + j else if j = 8 then 12 else 13
/-- The requested level of variable island j (R364). -/
def levelReq (w0 w1 : Word) (j : Nat) : Nat :=
  if j < 8 then fld w0 (4 * j + 2) (4 * j) else if j = 8 then fld w1 2 0 else fld w1 6 4
def State.levelReq (s : State) (j : Nat) : Nat := Machine.levelReq (s.reg .isl 0x4C) (s.reg .isl 0x50) j
/-- Is variable island j ACTIVE or IDLE? -/
def State.varAwake (s : State) (j : Nat) : Bool := (s.island (islandOf (varNum j))).awake
/-- The running level of variable island j. -/
def State.level (s : State) (j : Nat) : Nat := s.clk.levels.getD j 0
def State.setLevel (s : State) (j pl : Nat) : State := { s with clk := { s.clk with levels := setAt 0 s.clk.levels j pl } }

/-- ISL_PL1.RAIL_PL. -/
def State.railPl (s : State) : Nat := s.field .isl 0x50 18 16
/-- The rail level that the awake variable islands ask for: their highest level, PL0 when there are none (R348). -/
def State.railWanted (s : State) : Nat :=
  (List.range 10).foldl (fun n j => if s.varAwake j then max n (s.levelReq j) else n) 0
/-- PWR_REG_STAT.FAULT. -/
def State.regFault (s : State) : Bool := bitOn (s.reg .pwr 0x88) 3

/-- The actions that carry the awake islands and the rails to the requested levels, in the order of R349. -/
def State.levelPlan (s : State) : List LvlStep :=
  let r := s.railPl
  let w := s.railWanted
  let go (up : Bool) : List LvlStep := (List.range 10).filterMap (fun j =>
    if s.varAwake j && (if up then decide (s.level j < s.levelReq j) else decide (s.levelReq j < s.level j)) then
      some (.island j (s.levelReq j)) else none)
  let on (b : Bool) : List LvlStep := if s.clk.assist = b then [] else [.assist b]
  if r < w then go false ++ [.sram w, .core w] ++ (if 2 ≤ w then on false else []) ++ go true
  else if w < r then go false ++ (if w ≤ 1 then on true else []) ++ [.core w, .sram w] ++ go true
  else go false ++ go true

/-- Carry out leading assist settings. -/
def State.doAssist (s : State) (l : List LvlStep) : State × List LvlStep :=
  match l with
  | .assist b :: r => ({ s with clk := { s.clk with assist := b } }, r)
  | _ => (s, l)

/-- Is this action one for an island that has left ACTIVE and IDLE? Its level is stored for its next wake (R351). -/
def State.moot (s : State) (x : LvlStep) : Bool := match x with | .island j _ => !s.varAwake j | _ => false

/-- The next action begins: a VOUT_COMMAND write (R352), or an island's switch to the reference (R350). -/
def State.beginStep (s : State) (l : List LvlStep) : State :=
  match l with
  | .sram pl :: _ => (s.setField .pwr 0x84 31 16 (sramMv pl)).setBit .pwr 0x88 2 true
  | .core pl :: _ => (s.setField .pwr 0x80 31 16 (coreMv pl)).setBit .pwr 0x88 2 true
  | .island j _ :: _ => s.muxTo (varNum j) false
  | _ => s

/-- Begin a level change where one is wanted, none is in progress and no REG_FAULT stands (R351, R354); `w0` and `w1` are the
level fields before the writes that caused it. -/
def State.kickLevels (s : State) (w0 w1 : Word) : State :=
  if s.clk.change.isSome || s.regFault then s
  else
    let l := s.levelPlan
    if l.isEmpty then s
    else
      let (s1, l1) := s.doAssist l
      let c : LvlChange := { todo := l1, done := [], was0 := w0, was1 := w1, at0 := s.reg .isl 0x4C, at1 := s.reg .isl 0x50,
                             levelsWas := s.clk.levels, assistWas := s.clk.assist }
      { s1 with clk := { s1.clk with change := some c } }.beginStep l1

/-- Begin a level change that no write caused: an island has left or joined the awake set (R348, R351). -/
def State.followLevels (s : State) : State := s.kickLevels (s.reg .isl 0x4C) (s.reg .isl 0x50)

/-- A level change ends: sleep entries that waited for it begin. -/
def State.endChange (s : State) : State :=
  let t := { s with clk := { s.clk with change := none } }.setBit .pwr 0x88 2 false
  (List.range 10).foldl (fun u j =>
    let x := u.island (islandOf (varNum j))
    if x.entry = .waiting then u.setIsland (islandOf (varNum j)) { x with entry := .draining } else u) t

/-- The head action is done: the next one begins, or the change ends and what was asked meanwhile is carried out (R351). -/
def State.nextStep (s : State) (c : LvlChange) (done : List LvlStep) : State :=
  let l := (c.todo.drop 1).dropWhile s.moot
  let (s1, l1) := s.doAssist l
  let l2 := l1.dropWhile s.moot
  let c1 : LvlChange := { c with todo := l2, done := done }
  let s2 := { s1 with clk := { s1.clk with change := some c1 } }
  if l2.isEmpty then s2.endChange.kickLevels c.at0 c.at1 else s2.beginStep l2

/-- Is a rail step still to come? -/
def railLeft (l : List LvlStep) : Bool := l.any (fun x => match x with | .sram _ | .core _ => true | _ => false)

/-- A rail has reached its voltage (R352): POWER_GOOD, the measured voltage, and RAIL_PL once both rails are there. -/
def State.railDone (s : State) (c : LvlChange) (core : Bool) (pl mv : Nat) : State :=
  let off := if core then 0x80 else 0x84
  let s1 := ((s.setField .pwr off 15 0 mv).setBit .pwr 0x88 (if core then 0 else 1) true).setBit .pwr 0x88 2 false
  let was := s.railPl
  let s2 := if railLeft (c.todo.drop 1) then s1 else s1.setField .isl 0x50 18 16 pl
  s2.nextStep c (c.done ++ [if core then .core was else .sram was])

/-- A write of ISL_PL0 or ISL_PL1 (R348, R351, R354). -/
def State.plWrite (s : State) (off : Nat) (m : Master) (v : Word) : State :=
  if s.regFault then s
  else
    let w0 := s.reg .isl 0x4C
    let w1 := s.reg .isl 0x50
    let t := s.setReg .isl off (mergeWrite .isl off m (s.reg .isl off) (limitLevels v))
    t.kickLevels w0 w1

/-- Return the level fields that caused a change to their values before it, unless a later write replaced them (R353). -/
def State.returnFields (s : State) (c : LvlChange) : State :=
  (List.range 10).foldl (fun t j =>
    let was := Machine.levelReq c.was0 c.was1 j
    let at' := Machine.levelReq c.at0 c.at1 j
    if was ≠ at' && t.levelReq j = at' then
      (if j < 8 then t.setField .isl 0x4C (4 * j + 2) (4 * j) was
       else if j = 8 then t.setField .isl 0x50 2 0 was else t.setField .isl 0x50 6 4 was)
    else t) s

/-- A regulator step fails (R353): every rail already changed and the failing one return to their voltage, and clocks, bias and
assist to what they were; or a revert step fails too (R354). -/
def State.stepFailed (s : State) (c : LvlChange) (core noAck revertFails : Bool) : State :=
  let was := s.railPl
  let s1 := (s.setBit .pwr 0x88 8 (!core)).setBit .pwr 0x88 2 false
  let rails := c.done ++ [if core then .core was else .sram was]
  let s2 := rails.foldl (fun t x => match x with
    | .core pl => t.setReg .pwr 0x80 (word (coreMv pl * 2 ^ 16 + coreMv pl))
    | .sram pl => t.setReg .pwr 0x84 (word (sramMv pl * 2 ^ 16 + sramMv pl))
    | _ => t) s1
  let s3 := s2.returnFields c
  if revertFails then
    let t := ((s3.setField .pwr 0x88 7 4 3).setBit .pwr 0x88 3 true).setBit .pwr 0x88 (if core then 0 else 1) false
    let u := { t with clk := { t.clk with change := none, levels := List.replicate 10 0, assist := true } }
    u.endChange.raise .pwr 11
  else
    let t := ((s3.setField .pwr 0x88 7 4 (if noAck then 1 else 2)).add .pwr 0x88 31 16 1).setBit .pwr 0x88 (if core then 0 else 1) true
    let u := { t with clk := { t.clk with change := none, levels := c.levelsWas, assist := c.assistWas } }
    let u1 := u.endChange
    let asked := (List.range 10).any (fun j => decide (Machine.levelReq c.was0 c.was1 j ≠ u1.levelReq j))
    (if asked then u1.kickLevels c.was0 c.was1 else u1).raise .pwr 10

/-! ## Wake (R357, R360, R361) -/

/-- Wake an island in S1: powered, clocked, unclamped and ACTIVE with the state it held; `row` is the source's row of R360, 0
for a write of RUN. -/
def State.wakeIsland (s : State) (i : Island) (row : Nat) : State :=
  let x := s.island i
  if x.mode ≠ .retain || x.entry ≠ .none then s
  else
    let t := s.setIsland i { x with mode := .active, latched := 0 }
    let j := if 4 ≤ i.num ∧ i.num < 12 then i.num - 4 else if i.num = 12 then 8 else if i.num = 13 then 9 else 10
    let t1 := if j < 10 then t.setLevel j (min (t.level j) t.railPl) else t
    (((t1.setField .isl 0x78 19 16 row).setField .isl 0x78 12 8 i.num).raise .isl 1).followLevels

/-- An edge source acts (R361): it wakes an island in S1, is latched while the island drains, and is lost in the window. -/
def State.edgeWake (s : State) (i : Island) (row : Nat) : State :=
  let x := s.island i
  if x.entry = .draining then s.setIsland i { x with latched := if x.latched = 0 then row else x.latched }
  else s.wakeIsland i row

/-- Is the wake condition of the PTP timer true for the islands it selects (R360)? -/
def State.timerReached (s : State) : Word :=
  if s.reg64 .isl 0x70 ≤ s.ptp.time then s.reg .isl 0x68 &&& 0xFFF else 0

/-- The matches that hold no longer are forgotten, so that a later one is new (R360). -/
def State.followTimer (s : State) : State :=
  { s with clk := { s.clk with timerMatched := s.clk.timerMatched &&& s.timerReached } }

/-- The link state of U0 (p = 2) or U1 (p = 3) as MGT watches it; a change is an edge source of PUP (R360). -/
def State.watchLink (s : State) (p : Nat) (up : Bool) : State :=
  if p < 2 || bitOn s.clk.linkU (p - 2) = up then s
  else
    let t := { s with clk := { s.clk with linkU := putBit s.clk.linkU (p - 2) up } }
    if bitOn (s.reg .isl 0x68) 16 then t.edgeWake .pup 6 else t

end Sys2Proof.Machine
end

