-- ==== Sys2Proof/Machine/Gates.lean ====
section
/-!
DEFINITION. Machine/Gates.lean: gate lists (R208), their combination with the safety list (R212), the length-aware start of
a frame (R211), arming and swapping (R209, R210).
-/
namespace Sys2Proof.Machine

open Sys2Proof

/-! ## Open periods -/

/-- The longest run of consecutive parts that open class k. -/
def longestRun (k : Nat) (l : List (Nat × Nat × Nat)) (cur best : Nat) : Nat :=
  match l with
  | [] => max best cur
  | (d, m, _) :: r => if nbit m k then longestRun k r (cur + d) best else longestRun k r 0 (max best cur)

/-- The longest open period of class k in one cycle, runs across the cycle boundary included; none where it never closes. -/
def PegList.longest (l : PegList) (k : Nat) : Option Nat :=
  let p := l.parts
  if p.all (fun x => nbit x.2.1 k) then none else some (longestRun k (p ++ p) 0 0)

/-! ## The combined gates -/

/-- Which lists decide class k of a port (R208, R212): the active list unless gating is off or the safety list owns class
7, and the safety list while it is enabled. -/
def State.gateLists (s : State) (p k : Nat) : List PegList :=
  let g := s.gate p
  (if bitOn (s.reg (gatePage p) 0x40) 0 && !(g.safOn && decide (k = 7)) then [g.act] else []) ++ (if g.safOn then [g.saf] else [])

/-- The swap instants that end an open period (R211). -/
def GateSt.swaps (g : GateSt) : List Nat := g.armed.toList ++ g.safArmed.toList

/-- Is class k open through `n` ns from t? `fuel` bounds the parts walked, each of which is at least 1 ns long. -/
def openFor (ls : List PegList) (k fuel t n : Nat) : Bool :=
  match fuel with
  | 0 => decide (n = 0)
  | fuel + 1 =>
      if n = 0 then true
      else
        let ps := ls.map (fun l => l.at t)
        if ps.all (fun x => nbit x.2.1 k) then
          let d := ps.foldl (fun a x => min a x.1) n
          openFor ls k fuel (t + d) (n - d)
        else false

/-- May a frame that takes n ns start in class k at time t: open to its last bit, no swap before it (R211)? -/
def State.gateFits (s : State) (p k n : Nat) : Bool :=
  let t := s.ptp.time
  openFor (s.gateLists p k) k n t n && (s.gate p).swaps.all (fun w => decide (t + n ≤ w) || decide (w ≤ t))

/-- Is class k open through `n` ns anywhere from t on, `span` ns of which are walked? `cur` is how long it has been open at t; `fuel` bounds
the parts, each of which is at least 1 ns long. -/
def openWithin (ls : List PegList) (k n fuel t span cur : Nat) : Bool :=
  match fuel with
  | 0 => decide (n ≤ cur)
  | fuel + 1 =>
      if n ≤ cur then true
      else if span = 0 then false
      else
        let ps := ls.map (fun l => l.at t)
        let d := ps.foldl (fun a x => min a x.1) span
        openWithin ls k n fuel (t + d) (span - d) (if ps.all (fun x => nbit x.2.1 k) then cur + d else 0)

/-- How long the combination of two lists takes to repeat: the least time that both cycles divide. -/
def repeats (ls : List PegList) : Nat := ls.foldl (fun n l => Nat.lcm n (max l.cycle 1)) 1

/-- Can a frame that takes n ns never start in class k: no open period of a list is long enough, or none of the combined gates (R211)? -/
def State.gateNoFit (s : State) (p k n : Nat) : Bool :=
  let ls := s.gateLists p k
  ls.any (fun l => match l.longest k with | none => false | some m => decide (m < n)) ||
    (decide (2 ≤ ls.length) && !openWithin ls k n (repeats ls + n) s.ptp.time (repeats ls + n) 0)

/-! ## Arming and swapping (R209, R210) -/

/-- The instant of a swap armed at time t, and whether it is a late arm (R209). -/
def swapInstant (l : PegList) (t : Nat) : Nat × Bool :=
  if t + 1000 ≤ l.base then (l.base, false)
  else
    let c := max l.cycle 1
    (l.base + (t + 1000 - l.base + c - 1) / c * c, true)

/-- A write of GATE_CMD (R209): ARM arms a swap, DISARM cancels it. -/
def State.gateCmd (s : State) (p : Nat) (v : Word) : State :=
  let g := s.gate p
  let s1 := if bitOn v 0 ∧ g.armed.isNone then
      let w := swapInstant g.pend s.ptp.time
      let t := s.setGate p { g with armed := some w.1 }
      if w.2 then t.add (gatePage p) 0x7C 15 0 1 else t
    else s
  if bitOn v 1 then s1.setGate p { s1.gate p with armed := none } else s1

/-- A write of a pending register (R210, R224): nothing while a swap is armed; limits as the table states. -/
def State.gatePend (s : State) (p off : Nat) (v : Word) : State :=
  let g := s.gate p
  if g.armed.isSome then s
  else
    let l := g.pend
    let n :=
      if off = 0x58 then { l with base := l.base / 2 ^ 32 * 2 ^ 32 + v.toNat }
      else if off = 0x5C then { l with base := v.toNat * 2 ^ 32 + l.base % 2 ^ 32 }
      else if off = 0x60 then { l with cycle := clamp 1000 1000000000 (fld v 29 0) }
      else if off = 0x64 then { l with len := clamp 1 1024 (fld v 10 0) } else l
    s.setGate p { g with pend := n }

/-- An access to GATE_PEG_DATA advances the index modulo 1,024 (R210, log entry 19). -/
def State.pegNext (s : State) (p : Nat) : State :=
  s.setField (gatePage p) 0x6C 9 0 ((s.field (gatePage p) 0x6C 9 0 + 1) % 1024)

/-- A write of GATE_PEG_DATA (R210): it reaches the pending list unless a swap is armed; every access advances the index. -/
def State.pegWrite (s : State) (p : Nat) (v : Word) : State :=
  let g := s.gate p
  let i := s.field (gatePage p) 0x6C 9 0
  let t := if g.armed.isSome then s else s.setGate p { g with pend := { g.pend with pegs := Sparse.set (pegReset i) g.pend.pegs i v } }
  t.pegNext p

/-- Move PTP time on to an instant. -/
def State.reachTime (s : State) (t : Nat) : State :=
  if s.ptp.time < t then { s with ptp := { s.ptp with time := t } } else s

/-- The pegs shown as in force follow the time. -/
def State.showPegs (s : State) (p : Nat) : State :=
  let g := s.gate p
  s.setGate p { g with peg := (g.act.at s.ptp.time).2.2, safPeg := if g.safOn then (g.saf.at s.ptp.time).2.2 else 0 }

/-- GATE_PEG_ADVANCE (R208): the end of the part in force of the active or the safety list is reached, and what follows comes
into force. -/
def execGatePegAdvance (p : Fin 4) (s : State) : Host.Outcome State Fault Refusal :=
  if !s.runs .fab then .next s
  else
    let g := s.gate p.val
    let a := (g.act.at s.ptp.time).1
    let n := if g.safOn then min a (g.saf.at s.ptp.time).1 else a
    .next ((s.reachTime (s.ptp.time + n)).showPegs p.val)

/-- GATE_SWAP (R209): the swap instant of an armed list is reached: the pending list becomes active with its own base and
cycle, the former active list becomes the pending one, ARMED clears and SWAPS counts. A safety list swaps by the same rule
(R212); it is enabled while its LEN is not 0. -/
def execGateSwap (p : Fin 4) (s : State) : Host.Outcome State Fault Refusal :=
  let g := s.gate p.val
  match g.armed, g.safArmed with
  | some t, sw =>
      if (match sw with | some u => decide (u < t) | none => false) then
        let s1 := s.reachTime (g.safArmed.getD 0)
        .next ((s1.setGate p.val { g with saf := g.safPend, safPend := g.saf, safArmed := none,
                                          safOn := decide (g.safPend.len ≠ 0) }).showPegs p.val)
      else
        let s1 := s.reachTime t
        let s2 := s1.setGate p.val { g with act := g.pend, pend := g.act, armed := none, bank := !g.bank }
        .next ((s2.add (gatePage p.val) 0x7C 31 16 1).showPegs p.val)
  | none, some u =>
      let s1 := s.reachTime u
      .next ((s1.setGate p.val { g with saf := g.safPend, safPend := g.saf, safArmed := none,
                                        safOn := decide (g.safPend.len ≠ 0) }).showPegs p.val)
  | none, none => .next s

end Sys2Proof.Machine
end

