-- ==== Sys2Proof/Machine/Egress.lean ====
section
/-!
DEFINITION. Machine/Egress.lean: destination codes (R228), copies of a frame to its destinations (R172, R216, R221), order
gates (R308), and the start of a frame on the wire (R186, R211 to R213, R265).
-/
namespace Sys2Proof.Machine

open Sys2Proof

/-! ## On the way to a port -/

/-- Bits per nanosecond of a SPEED code (R179); 0 for a disabled port. -/
def rate (code : Nat) : Nat := match code with | 1 => 1 | 2 => 10 | 3 => 25 | 4 => 40 | 5 => 100 | _ => 0

/-- PORT_CFG.SPEED. -/
def State.speed (s : State) (p : Nat) : Nat := s.field (portPage p) 0x40 3 0

/-- Nanoseconds that n bytes and the preamble take on the wire of port p (log entry 24). -/
def State.wireTime (s : State) (p n : Nat) : Nat :=
  let r := max 1 (rate (s.speed p))
  ((n + 8) * 8 + r - 1) / r

/-- The transmit SA of a frame on its way to port p that MACsec is to protect (R265). -/
def State.protectSa (s : State) (x : Frame) (p : Nat) : Option Nat :=
  if !x.prot && s.macsecOn p && bitOn (s.msPort p) 4 && !macsecFree (etherType false x.body) && x.part ≠ .safety && x.part ≠ .mgt then
    some (fld (s.msPort p) 31 16)
  else none

/-- Why the transmit SA of port p fails, by engine code: STYPE 1 and the same PORT (R265). -/
def State.txSaFault (s : State) (p i : Nat) : Option Nat :=
  match s.saFault i 1 with
  | some c => some c
  | none => if byteAt (s.entry 3 i) 2 % 8 = p then none else some 1

/-- Bytes that MACsec adds under SA i (R262). -/
def State.secOverhead (s : State) (i : Nat) : Nat := if nbit (byteAt (s.entry 3 i) 1) 5 then 32 else 24

/-- Bytes of a frame on the wire: padded to 64, with HSR tag or PRP trailer (6 bytes), and what the transmit SA still to protect it adds
(R182, R211, R262). -/
def State.wireLen (s : State) (x : Frame) (sa : Option Nat) : Nat :=
  max 64 (x.body.length + 4) + (if x.seq.isSome then 6 else 0) + (match sa with | some i => s.secOverhead i | none => 0)

/-- Is a frame kept from leaving by the safety partition (R413)? -/
def State.kptBlocked (s : State) (x : Frame) : Bool := etherType true x.body = s.kptEtype && x.part ≠ .safety

/-- End a frame that may not leave by port p: KPT_ETYPE outside the safety reserve (R413), link down or longer than M (R186),
a transmit SA that is to protect it and is not usable (R265); none where it may wait. -/
def State.egressEnd (s : State) (x : Frame) (p : Nat) (sa : Option Nat) : Option State :=
  if s.kptBlocked x then
    let t := s.endFrame x (.drop 2)
    some { t with saf := { t.saf with blocked := t.saf.blocked + 1 } }
  else if !s.linkUp p then some ((s.endFrame x (.drop 3)).count (portPage p) 0x180)
  else
    match sa.bind (fun i => s.txSaFault p i) with
    | some c => some ((s.endFrame x (.engine c)).msCount p 6)
    | none =>
        if s.field (portPage p) 0x44 15 0 < s.wireLen x sa then some ((s.endFrame x (.drop 4)).count (portPage p) 0x184)
        else none

/-! ## Destinations -/

/-- One destination of a frame: a port with the sequence number of its tag or trailer, a receive queue, the management
controller, or a place inside the unit that its cells do not move for. -/
inductive Target where
  | port (p : Nat) (seq : Option Nat)
  | rxq (f q : Nat)
  | mgt
  | here (l : Loc)
  deriving DecidableEq, Repr

/-- Take the next HSR sequence number (R216). -/
def State.nextHsrSeq (s : State) : State × Nat :=
  (s.add .ring 0x50 15 0 1, s.field .ring 0x50 15 0)

/-- Take the next PRP sequence number (R221). -/
def State.nextPrpSeq (s : State) : State × Nat :=
  ({ s with ring := { s.ring with prpSeq := (s.ring.prpSeq + 1) % 65536 } }, s.ring.prpSeq)

/-- Both ring ports (R216): one tag and number under HSR; untagged on each port whose link is up otherwise (R215). -/
def State.ringTargets (s : State) : State × List Target :=
  if s.hsr then
    let n := s.nextHsrSeq
    (n.1, [.port 0 (some n.2), .port 1 (some n.2)])
  else (s, (if s.linkUp 0 then [.port 0 none] else []) ++ (if s.linkUp 1 then [.port 1 none] else []))

/-- Both uplinks of the PRP pair with one number (R221); nothing while PRP is off (log entry 25). -/
def State.pairTargets (s : State) : State × List Target :=
  if s.prp then
    let n := s.nextPrpSeq
    (n.1, [.port 2 (some n.2), .port 3 (some n.2)])
  else (s, [])

/-- HSR_EN = 1, in effect or suspended: what R216 sends onto the ring goes out by both ring ports (R215). -/
def State.hsrEn (s : State) : Bool := bitOn (s.reg .ring 0x40) 0

/-- The targets of PORT code k; a frame to 01-80-C2-00-00-0E leaves its own port untagged (R216). -/
def State.portTargets (s : State) (x : Frame) (k : Nat) : State × List Target :=
  if k < 2 then
    (if dstAddr x.body = ptpPeer ∨ !s.hsrEn then (s, [.port k none]) else s.ringTargets)
  else if k < 4 then (s, [.port k none])
  else if k = 4 then
    (if dstAddr x.body = ptpPeer then (s, [.port 0 none, .port 1 none]) else s.ringTargets)
  else s.pairTargets

/-- The FLOOD mask of a frame's ingress (R229, R253). -/
def State.floodMask (s : State) (x : Frame) : Nat :=
  if x.func then s.field .swt 0x50 5 0 else s.field .swt (0x60 + 4 * x.src) 13 8

/-- The targets of a flooded frame (R229): its mask but for the port it came in on; ring and PRP pair as wholes. A frame to
01-80-C2-00-00-0E leaves each ring port untagged (R216); a frame from a ring port while HSR is suspended meets two independent ports (R215). -/
def State.floodTargets (s : State) (x : Frame) : State × List Target :=
  let m := s.floodMask x
  let from_ (k : Nat) : Bool := !x.func && decide (x.src = k)
  let fromRing := from_ 0 || from_ 1
  let whole := s.hsrEn && decide (dstAddr x.body ≠ ptpPeer) && (s.hsr || !fromRing)
  let ring := whole && (nbit m 0 || nbit m 1 || nbit m 4) && !fromRing
  let pair := s.prp && nbit m 5 && !from_ 2 && !from_ 3
  let r := if ring then s.ringTargets else (s, [])
  let q := if pair then r.1.pairTargets else (r.1, [])
  let ringOne (k : Nat) : List Target :=
    if !whole && (nbit m k || nbit m 4) && !from_ k then [.port k none] else []
  let upOne (k : Nat) : List Target := if !pair && nbit m k && !from_ k then [.port k none] else []
  let e := s.reg .swt 0x4C
  (q.1, r.2 ++ ringOne 0 ++ ringOne 1 ++ q.2 ++ upOne 2 ++ upOne 3 ++
    (if bitOn e 31 then [.rxq (fld e 27 18) (fld e 17 10)] else []))

/-- The targets a destination code stands for (R228); a reserved code acts as TYPE 0 and is counted in SWT_BAD_DEST. -/
def State.targets (s : State) (x : Frame) : State × List Target :=
  let d := x.dest
  match d / 2 ^ 29 with
  | 0 => (s, [])
  | 1 => if 6 ≤ d % 8 then (s.count .swt 0x98, []) else s.portTargets x (d % 8)
  | 2 => (s, [.rxq (d / 2 ^ 18 % 1024) (d / 2 ^ 10 % 256)])
  | 3 => s.floodTargets x
  | 4 => (s, [.mgt])
  | _ => (s.count .swt 0x98, [])

/-- Can receive queue q of function f take a frame (R231, reason 7)? A function on its way into D3hot takes none any more (DESIGN CHOICE,
log entry 115). -/
def State.rxOpen (s : State) (f q : Nat) : Bool :=
  (match s.wq f q with | some w => decide (w.kind = 1) | none => false) && !(s.func f).inReset && (s.func f).dstate = .d0 && !s.host.lost

/-- Does a frame that finds its receive queue closed count in FUNC_RX_DISCARD (R19, R107, R162)? -/
def State.rxDiscards (s : State) (f : Nat) : Bool := s.host.lost || (s.func f).dstate ≠ .d0

/-- The receive wake source (R112): a frame classified to a receive queue of a selected PF in D3hot or with the link down. -/
def State.rxWake (s : State) (f : Nat) : State :=
  if decide (f < 4) && bitOn (s.reg .hlnk 0x4C) f && (s.host.lost || (s.func f).dstate = .d3) then s.wakeHost 1 else s

/-! ## Protection (R255, R265) -/

/-- The PRP trailer of a frame for LAN A (U0) or B (U1), behind its padded bytes (R221, log entry 10). -/
def trailed (n p : Nat) (b : List Byte) : List Byte :=
  let c := b ++ List.replicate (60 - b.length) 0
  let lsdu := c.length - (if isVlan (beAt c 12 2) then 18 else 14) + 6
  c ++ beBytes 2 n ++ beBytes 2 ((if p = 2 then 10 else 11) * 4096 + lsdu % 4096) ++ [0x88, 0xFB]

/-- The nonce of MACsec: SSCI and number under all the salt with XPN, SCI and number without any (R268, R271, log entry 117). -/
def State.secIv (s : State) (i n : Nat) : List Byte :=
  let e := s.entry 3 i
  if nbit (byteAt e 1) 2 then
    let salt := (s.keySlot i).salt
    let b := beBytes 4 (salt.getD 2 0).toNat ++ beBytes 4 (salt.getD 1 0).toNat ++ beBytes 4 (salt.getD 0 0).toNat
    (beBytes 4 (leAt e 44 4) ++ beBytes 8 n).zipWith (· ^^^ ·) b
  else slice e 4 8 ++ beBytes 4 n

/-- The bytes MACsec sends for a frame under SA i with number n (R262, log entry 14): sealed with CONF, else in clear behind the SecTAG and
before the ICV (R268). -/
def State.secure (s : State) (i n : Nat) (b : List Byte) : List Byte :=
  let e := s.entry 3 i
  let f := byteAt e 1
  let tci := (nbit f 5).toNat * 32 + (nbit f 6).toNat * 12 + byteAt e 2 / 16 % 4
  let user := b.drop 12
  let head := slice b 0 12 ++ [0x88, 0xE5, BitVec.ofNat 8 tci, if user.length < 48 then BitVec.ofNat 8 user.length else 0] ++ beBytes 4 n ++
    (if nbit f 5 then slice e 4 8 else [])
  if nbit f 6 then head ++ s.gcm i (s.secIv i n) head user else head ++ user ++ s.gcm i (s.secIv i n) (head ++ user) []

/-- CRY takes a frame for port p and protects it under SA i: it takes its number as it enters CRY, and goes on to the port's queue (R265,
R275). -/
def State.protectNow (s : State) (x : Frame) (p i : Nat) : State :=
  (s.moveOrDrop x 8).onFrame x.id (fun t y =>
    let n := nextPn (t.entry 3 i)
    let b := t.secure i n (match y.seq with | some k => trailed k p y.body | none => y.body)
    (((t.usePn i n).msCount p 5).setFitted { y with nonets := stitched b [0], seq := none, prot := true, loc := .egress p }).onFrame x.id
      (fun u z => (u.toBack z).moveOrDrop z (2 * p + 1)))

/-- Do frames for port p wait for CRY? -/
def State.protectWaits (s : State) (id p : Nat) : Bool := s.frames.any (fun y => decide (y.loc = .protect p) && decide (y.id ≠ id))

/-- A frame goes to egress port p: by CRY where it is to be protected, behind those that wait for it, else at once (R173, R255). -/
def State.toPort (s : State) (x : Frame) (p : Nat) : State :=
  match s.protectSa x p with
  | none => s.moveOrDrop x (2 * p + 1)
  | some i => if s.runs .cry && !s.protectWaits x.id p then s.protectNow x p i else s.setFrame { x with loc := .protect p }

/-- A copy of a frame arrives at its target: its cells move there, or it is dropped (R173, R186, R231). -/
def State.arrive (s : State) (x : Frame) (g : Target) : State :=
  match g with
  | .port p _ => (match s.egressEnd x p (s.protectSa x p) with | some t => t | none => s.toPort x p)
  | .rxq f q =>
      if s.rxOpen f q then s.moveOrDrop x (funcChan f 1)
      else
        let t := s.endFrame x (.drop 7)
        (if s.rxDiscards f then t.count (funcPage f) 0x120 else t).rxWake f
  | .mgt => s
  | .here _ => s

/-- Where a copy for a target stands. -/
def Target.loc : Target → Loc
  | .port p _ => .egress p
  | .rxq f q => .rxq f q
  | .mgt => .mgtIn
  | .here l => l

/-- The number a copy for a target carries. -/
def Target.seq : Target → Option Nat
  | .port _ n => n
  | _ => none

/-- Copies of a frame, one a target; the first keeps its number and its cells. -/
def copies (x : Frame) (next : Nat) (l : List Target) : List (Frame × Target) :=
  match l with
  | [] => []
  | g :: r => ({ x with gate := none, loc := g.loc, seq := g.seq }, g) ::
      (r.zip (List.range r.length)).map (fun y =>
        ({ x with gate := none, loc := y.1.loc, seq := y.1.seq, id := next + y.2, cells := 0 }, y.1))

/-- Send a frame to its targets, behind everything already queued; with none it is dropped (reason 2). -/
def State.fanOut (s : State) (x : Frame) (l : List Target) : State :=
  if l.isEmpty then s.endFrame x (.drop 2)
  else
    let cs := copies x s.nextId l
    let s1 := { s with frames := s.frames.filter (fun y => y.id ≠ x.id) ++ cs.map (·.1), nextId := s.nextId + l.length }
    cs.foldl (fun t c => match t.frame c.1.id with | some y => t.arrive y c.2 | none => t) s1

/-- Is every earlier frame of this frame's gate emitted or dropped (R308)? The frames stand in dispatch order. -/
def gateClear (id : Nat) (key : Option Nat) (l : List Frame) : Bool :=
  match l with
  | [] => true
  | x :: r => if x.id = id then true else decide (x.gate ≠ key) && gateClear id key r

/-- ORDER_GATE_RELEASE (R308, R228): an emitted frame leaves the cluster once every earlier frame of its gate has left, and
goes to its destinations. -/
def execOrderGateRelease (id : Nat) (s : State) : Host.Outcome State Fault Refusal :=
  match s.frame id with
  | none => .next s
  | some x =>
      match x.loc with
      | .gated _ =>
          if !gateClear id x.gate s.frames then .next s
          else if x.bad then .next (s.endFrame x (.drop 6))
          else
            let y := x.untagHsr
            let r := s.targets y
            .next (r.1.fanOut y r.2)
      | _ => .next s

/-! ## Transmission -/

/-- The class a frame leaves in (R213): class 7 of an enabled safety list is for the safety reserve alone. -/
def State.txClass (s : State) (x : Frame) (p : Nat) : Nat :=
  if (s.gate p).safOn && decide (x.tc % 8 = 7) && x.part ≠ .safety then 6 else x.tc % 8

/-- Is class k of port p paused (R191, R193)? -/
def State.paused (s : State) (p k : Nat) : Bool :=
  let t := (s.port p).timers
  !s.hsrOn p && (t.contains 8 || t.contains k)

/-- Does an earlier frame of this port and class wait (R16)? One that pause holds holds no frame of the safety reserve (R194). -/
def State.notFirst (s : State) (x : Frame) (p k : Nat) (l : List Frame) : Bool :=
  match l with
  | [] => false
  | y :: r =>
      if y.id = x.id then false
      else
        (decide (y.loc = .egress p) && decide (s.txClass y p = k) && !(decide (x.part = .safety) && decide (y.part ≠ .safety) && s.paused p k)) ||
          s.notFirst x p k r

/-- Place a transmit timestamp in the FIFO of 64, or lose it (R207). -/
def State.stamp (s : State) (x : Frame) (p : Nat) : State :=
  if !(x.func && nbit x.txf 1) then s
  else if s.ptp.fifo.length < 64 then
    let e : TxStamp := { port := p, f := x.src, wq := x.wq, tag := x.tag, sec := s.ptp.time / 1000000000, ns := s.ptp.time % 1000000000 }
    { s with ptp := { s.ptp with fifo := s.ptp.fifo ++ [e] } }
  else (s.add .ptp 0x80 15 8 1).raise .ptp 3

/-- With ONESTEP a ring port writes the time into the originTimestamp of a Sync as it leaves (R205; the layout is that of IEEE 1588,
PRESUMED, log entry 109). -/
def State.oneStep (s : State) (p : Nat) (b : List Byte) : List Byte :=
  let h := etherPos false b + 2
  if decide (p < 2) && bitOn (s.reg .ptp 0x40) (8 + p) && decide (etherType false b = 0x88F7) && decide (byteAt b h % 16 = 0) then
    splice b (h + 34) (beBytes 6 (s.ptp.time / 1000000000) ++ beBytes 4 (s.ptp.time % 1000000000))
  else b

/-- The continuous pauses of a port that a frame of class k ends as it leaves: those whose timer has ended (R195). -/
def State.pauseOver (s : State) (p k : Nat) : State :=
  let x := s.port p
  let gone (j : Nat) : Bool := (decide (j = 8) || decide (j = k)) && !x.timers.contains j
  if x.standing.any gone then
    s.setPort p { x with standing := x.standing.filter (fun j => !gone j), stormed := x.stormed.filter (fun j => !gone j) }
  else s

/-- The frame leaves: the wire, without stitch bits (R165), counters, the timestamp, the end (R205). -/
def State.sendFrame (s : State) (x : Frame) (p k : Nat) : State :=
  let s1 := if k = x.tc % 8 then s else s.count (gatePage p) 0x80
  let s2 := ((s1.add64 (portPage p) 0x110 1).add64 (portPage p) 0x118 (s.wireLen x none)).emit
    (.wire p k x.seq ((s.oneStep p x.body).map (fun b => nonet b false)))
  ((s2.pauseOver p k).stamp x p).endFrame x .sent

/-- FRAME_TRANSMIT (R211, R186): a queued frame starts when it is the first of its class, not paused, and its gate stays
open to its last bit; it is dropped for a down link, its size, or a gate it can never pass. The first of those that wait for CRY goes through
it to the port's queue. -/
def execFrameTransmit (id : Nat) (s : State) : Host.Outcome State Fault Refusal :=
  match s.frame id with
  | none => .next s
  | some x =>
      match x.loc with
      | .egress p =>
          if !s.runs (portPage p).island then .next s
          else if x.bad then .next (s.endFrame x (.drop 6))
          else
            match s.egressEnd x p none with
            | some t => .next t
            | none =>
                let k := s.txClass x p
                let n := s.wireTime p (s.wireLen x none)
                if s.gateNoFit p k n then .next ((s.endFrame x (.drop 5)).count (gatePage p) 0x78)
                else if s.notFirst x p k s.frames || (x.part ≠ .safety && s.paused p k) || !s.gateFits p k n then .next s
                else .next (s.sendFrame x p k)
      | .protect p =>
          if !s.runs .cry || decide (s.frames.find? (fun y => y.loc = .protect p) ≠ some x) then .next s
          else if x.bad then .next (s.endFrame x (.drop 6))
          else
            match s.egressEnd x p (s.protectSa x p) with
            | some t => .next t
            | none =>
                match s.protectSa x p with
                | some i => .next (s.protectNow x p i)
                | none => .next ((s.toBack { x with loc := .egress p }).onFrame id (fun u y => u.moveOrDrop y (2 * p + 1)))
      | _ => .next s

end Sys2Proof.Machine
end

