-- ==== Sys2Proof/Machine/Operands.lean ====
section
/-!
DEFINITION. Machine/Operands.lean: how a Nyate instruction is issued (R300, R316, R323, R329): which fields it uses, when it
is ILLEGAL, when it is not issued at all, and the operand forms of R324 and R331.
A command of the family names the cluster c, the thread t = 16 × core + thread number, and the fields of the word.
-/
namespace Sys2Proof.Machine

open Sys2Proof

/-- Which fields an instruction's row uses (R323): RD, RA, RB and IMM; a pair register must be even; RB as a frame slot
leaves bits [3:2] at 0. -/
structure Form where
  rd   : Bool := false
  ra   : Bool := false
  rb   : Bool := false
  imm  : Bool := false
  slot : Bool := false
  pairD : Bool := false
  pairA : Bool := false
  deriving DecidableEq, Repr

/-- rd, ra, rb. -/
def formReg : Form := { rd := true, ra := true, rb := true }
/-- rd, ra, imm. -/
def formImm : Form := { rd := true, ra := true, imm := true }
/-- rd, [ra + imm], f. -/
def formWin : Form := { rd := true, ra := true, imm := true, slot := true }

/-- Is a field outside what the form allows (R323)? -/
def Form.illegal (f : Form) (rd ra rb : BitVec 4) (imm : BitVec 18) : Bool :=
  (!f.rd && decide (rd ≠ 0)) || (!f.ra && decide (ra ≠ 0)) || (!f.rb && !f.slot && decide (rb ≠ 0)) ||
    (!f.imm && decide (imm ≠ 0)) || (f.slot && decide (4 ≤ rb.toNat)) || (f.pairD && rd.getLsbD 0) || (f.pairA && ra.getLsbD 0)

/-- The 36 bits of an instruction (R323). -/
def nWord (op : Nat) (rd ra rb : BitVec 4) (imm : BitVec 18) : Nat :=
  imm.toNat * 2 ^ 18 + op * 2 ^ 12 + rd.toNat * 2 ^ 8 + ra.toNat * 2 ^ 4 + rb.toNat

/-- The instruction that stands in instruction memory for a thread, where a load has listed one. -/
def State.fetched (s : State) (c t : Nat) : Option Nat :=
  let th := s.thread c t
  Sparse.find s.nyate.imem (32768 * (8 * c + t / 16) + th.ibase + th.pc)

/-- Can a thread issue now: RUNNABLE, its cluster not halted, its island running (R300, R304, R319)? -/
def State.canIssue (s : State) (c t : Nat) : Bool :=
  decide ((s.thread c t).st = .runnable) && decide ((s.cluster c).halt = 0) && s.runs (nycIsland c)

/-- Issue one instruction for a thread. It is not issued while the thread cannot issue, or where a load placed another
instruction at its program counter. At or beyond ILEN, or
beyond the core's memory of R299, the thread faults with CODE_RANGE (R329); a reserved opcode in
instruction memory and a field the form does not allow fault with ILLEGAL (R323); otherwise `k` is what it does. -/
def nIssue (op : Nat) (f : Form) (c : Fin 8) (t : Fin 128) (rd ra rb : BitVec 4) (imm : BitVec 18) (s : State)
    (k : Thread → State) : Host.Outcome State Fault Refusal :=
  let th := s.thread c.val t.val
  let w := nWord op rd ra rb imm
  if !s.canIssue c.val t.val then .next s
  else if th.ilen ≤ th.pc ∨ 32768 ≤ th.ibase + th.pc then .next (s.nFault c.val t.val 2 th.pc)
  else
    match s.fetched c.val t.val with
    | some x =>
        if 0x3D ≤ x / 2 ^ 12 % 64 then .next (s.nFault c.val t.val 1 (x % 2 ^ 18))
        else if x ≠ w then .next s
        else if f.illegal rd ra rb imm then .next (s.nFault c.val t.val 1 (w % 2 ^ 18))
        else .next (k th)
    | none =>
        if f.illegal rd ra rb imm then .next (s.nFault c.val t.val 1 (w % 2 ^ 18)) else .next (k th)

/-- Write a result and its flags. -/
def Thread.result (t : Thread) (rd : BitVec 4) (x : NWord × Flags) : Thread :=
  { (t.setR rd.toNat x.1) with sw := applyFlags t.sw x.2 }.step

/-- Write a pair of results and their flags. -/
def Thread.result2 (t : Thread) (rd : BitVec 4) (x : NWord × NWord × Flags) : Thread :=
  { ((t.setR rd.toNat x.1).setR (rd.toNat + 1) x.2.1) with sw := applyFlags t.sw x.2.2 }.step

/-- An instruction rd = g(n[ra], n[rb]) (R324, R325). -/
def nReg (op : Nat) (g : NWord → NWord → Bool → NWord × Flags) (c : Fin 8) (t : Fin 128) (rd ra rb : BitVec 4)
    (imm : BitVec 18) (s : State) : Host.Outcome State Fault Refusal :=
  nIssue op formReg c t rd ra rb imm s (fun th =>
    s.setThread c.val t.val (th.result rd (g (th.r ra.toNat) (th.r rb.toNat) (carry th.sw))))

/-- An instruction rd = g(n[ra], IMM) (R324, R325). -/
def nImm (op : Nat) (g : NWord → NWord → Bool → NWord × Flags) (c : Fin 8) (t : Fin 128) (rd ra rb : BitVec 4)
    (imm : BitVec 18) (s : State) : Host.Outcome State Fault Refusal :=
  nIssue op formImm c t rd ra rb imm s (fun th =>
    s.setThread c.val t.val (th.result rd (g (th.r ra.toNat) imm (carry th.sw))))

/-- An instruction that writes the pair rd from n[ra] and n[rb]. -/
def nPair (op : Nat) (g : NWord → NWord → NWord × NWord × Flags) (c : Fin 8) (t : Fin 128) (rd ra rb : BitVec 4)
    (imm : BitVec 18) (s : State) : Host.Outcome State Fault Refusal :=
  nIssue op { formReg with pairD := true } c t rd ra rb imm s (fun th =>
    s.setThread c.val t.val (th.result2 rd (g (th.r ra.toNat) (th.r rb.toNat))))

/-- A division: by zero it faults with DIV_ZERO under TRAP_DZ, else sets DZ (R328). -/
def nDivide (op : Nat) (g : NWord → NWord → NWord × NWord × Flags) (c : Fin 8) (t : Fin 128) (rd ra rb : BitVec 4)
    (imm : BitVec 18) (s : State) : Host.Outcome State Fault Refusal :=
  nIssue op { formReg with pairD := true } c t rd ra rb imm s (fun th =>
    let a := th.r ra.toNat
    let b := th.r rb.toNat
    if b = 0 then
      if th.sw.getLsbD 8 then s.nFault c.val t.val 5 0
      else
        let x := th.result2 rd (divZeroF a)
        s.setThread c.val t.val { x with sw := swBit x.sw 5 true }
    else s.setThread c.val t.val (th.result2 rd (g a b)))

/-- The address of R324. -/
def nAddr (th : Thread) (ra : BitVec 4) (imm : BitVec 18) : NWord := th.r ra.toNat + imm

/-- The frame a slot holds, if any. -/
def State.slotFrame (s : State) (th : Thread) (rb : BitVec 4) : Option Frame :=
  match th.slots.getD rb.toNat none with | some id => s.frame id | none => none

/-- A window instruction of `n` nonets (R331): an empty slot, an offset at or beyond the frame's end and an uncorrectable
error fault; otherwise `k` gets the frame and the offset. -/
def nWindow (op n : Nat) (c : Fin 8) (t : Fin 128) (rd ra rb : BitVec 4) (imm : BitVec 18) (s : State)
    (k : Thread → Frame → Nat → State) : Host.Outcome State Fault Refusal :=
  nIssue op formWin c t rd ra rb imm s (fun th =>
    let a := (nAddr th ra imm).toNat
    match s.slotFrame th rb with
    | none => s.nFault c.val t.val 4 0x3FFFF
    | some x =>
        if x.nonets.length ≤ a then s.nFault c.val t.val 4 a
        else if x.nonets.length < a + n then s.nFault c.val t.val 4 (a + n - 1)
        else if x.bad then s.nFault c.val t.val 6 a
        else k th x a)

/-- A window load into rd. -/
def nWinLoad (op n : Nat) (g : List Nonet → Nat → NWord) (c : Fin 8) (t : Fin 128) (rd ra rb : BitVec 4) (imm : BitVec 18)
    (s : State) : Host.Outcome State Fault Refusal :=
  nWindow op n c t rd ra rb imm s (fun th x a =>
    s.setThread c.val t.val (th.setR rd.toNat (g x.nonets a)).step)

/-- A window store of n[rd]. -/
def nWinStore (op n : Nat) (g : List Nonet → Nat → NWord → List Nonet) (c : Fin 8) (t : Fin 128) (rd ra rb : BitVec 4)
    (imm : BitVec 18) (s : State) : Host.Outcome State Fault Refusal :=
  nWindow op n c t rd ra rb imm s (fun th x a =>
    (s.setFrame { x with nonets := g x.nonets a (th.r rd.toNat) }).setThread c.val t.val th.step)

end Sys2Proof.Machine
end

