-- ==== Sys2Proof/Machine/NyateMem.lean ====
section
/-!
DEFINITION. Machine/NyateMem.lean: the Nyate instructions that reach memory, frames, the table engine and the program
counter (R329 to R337), one definition each. PGR and PGW stand in Machine/Access.lean.
-/
namespace Sys2Proof.Machine

open Sys2Proof

/-! ## Data memory -/

/-- A data access (R330): outside DLEN × 64, or beyond the core's memory, it faults with DATA_RANGE and the address. -/
def nData (op : Nat) (c : Fin 8) (t : Fin 128) (rd ra rb : BitVec 4) (imm : BitVec 18) (s : State)
    (k : Thread → Nat → State) : Host.Outcome State Fault Refusal :=
  nIssue op formImm c t rd ra rb imm s (fun th =>
    let a := (nAddr th ra imm).toNat
    if th.dlen ≤ a ∨ 65536 ≤ th.dbase + a then s.nFault c.val t.val 3 a else k th (th.dbase + a))

/-- LD (R330). -/
def execNLd (c : Fin 8) (t : Fin 128) (rd ra rb : BitVec 4) (imm : BitVec 18) (s : State) : Host.Outcome State Fault Refusal :=
  nData 0x24 c t rd ra rb imm s (fun th a =>
    s.setThread c.val t.val (th.setR rd.toNat (s.dmemAt c.val (t.val / 16) a)).step)

/-- ST (R330). -/
def execNSt (c : Fin 8) (t : Fin 128) (rd ra rb : BitVec 4) (imm : BitVec 18) (s : State) : Host.Outcome State Fault Refusal :=
  nData 0x25 c t rd ra rb imm s (fun th a =>
    (s.setDmem c.val (t.val / 16) a (th.r rd.toNat)).setThread c.val t.val th.step)

/-! ## The cluster window -/

/-- Nonet i of a frame. -/
def nonetAt (l : List Nonet) (i : Nat) : Nonet := l.getD i 0

/-- LDN (R331): data and stitch bit. -/
def execNLdn (c : Fin 8) (t : Fin 128) (rd ra rb : BitVec 4) (imm : BitVec 18) (s : State) : Host.Outcome State Fault Refusal :=
  nWinLoad 0x26 1 (fun l i => (nonetAt l i).setWidth 18) c t rd ra rb imm s

/-- LDB (R331): the data byte. -/
def execNLdb (c : Fin 8) (t : Fin 128) (rd ra rb : BitVec 4) (imm : BitVec 18) (s : State) : Host.Outcome State Fault Refusal :=
  nWinLoad 0x27 1 (fun l i => ((nonetAt l i).setWidth 8 : BitVec 8).setWidth 18) c t rd ra rb imm s

/-- LDW (R331): two nonets, the one at the offset in the upper half. -/
def execNLdw (c : Fin 8) (t : Fin 128) (rd ra rb : BitVec 4) (imm : BitVec 18) (s : State) : Host.Outcome State Fault Refusal :=
  nWinLoad 0x28 2 (fun l i => nonetAt l i ++ nonetAt l (i + 1)) c t rd ra rb imm s

/-- STN (R331): data and stitch bit. -/
def execNStn (c : Fin 8) (t : Fin 128) (rd ra rb : BitVec 4) (imm : BitVec 18) (s : State) : Host.Outcome State Fault Refusal :=
  nWinStore 0x29 1 (fun l i v => l.set i (v.setWidth 9)) c t rd ra rb imm s

/-- STB (R331): the data byte, the stitch bit kept. -/
def execNStb (c : Fin 8) (t : Fin 128) (rd ra rb : BitVec 4) (imm : BitVec 18) (s : State) : Host.Outcome State Fault Refusal :=
  nWinStore 0x2A 1 (fun l i v => l.set i ((nonetAt l i &&& 0x100) ||| ((v.setWidth 8 : BitVec 8).setWidth 9))) c t rd ra rb imm s

/-- STW (R331): the inverse of LDW. -/
def execNStw (c : Fin 8) (t : Fin 128) (rd ra rb : BitVec 4) (imm : BitVec 18) (s : State) : Host.Outcome State Fault Refusal :=
  nWinStore 0x2B 2 (fun l i v => (l.set i ((v >>> 9).setWidth 9)).set (i + 1) (v.setWidth 9)) c t rd ra rb imm s

/-- STS (R331): the stitch bit, data kept. -/
def execNSts (c : Fin 8) (t : Fin 128) (rd ra rb : BitVec 4) (imm : BitVec 18) (s : State) : Host.Outcome State Fault Refusal :=
  nWinStore 0x2C 1 (fun l i v => l.set i ((nonetAt l i &&& 0xFF) ||| (if v.getLsbD 0 then 0x100 else 0))) c t rd ra rb imm s

/-- The lowest offset from a on that carries a stitch bit (R332). -/
def findStitch (l : List Nonet) (a : Nat) : Option Nat :=
  (List.range l.length).find? (fun i => decide (a ≤ i) && (nonetAt l i).getLsbD 8)

/-- FSS (R332): a search that starts at or beyond the frame's end finds nothing (log entry 21). -/
def execNFss (c : Fin 8) (t : Fin 128) (rd ra rb : BitVec 4) (imm : BitVec 18) (s : State) : Host.Outcome State Fault Refusal :=
  nIssue 0x2D formWin c t rd ra rb imm s (fun th =>
    let a := (nAddr th ra imm).toNat
    match s.slotFrame th rb with
    | none => s.nFault c.val t.val 4 0x3FFFF
    | some x =>
        if x.bad ∧ a < x.nonets.length then s.nFault c.val t.val 6 a
        else
          let r := (findStitch x.nonets a).getD x.nonets.length
          let th1 := th.setR rd.toNat (BitVec.ofNat 18 r)
          s.setThread c.val t.val { th1 with sw := swBit th.sw 0 (findStitch x.nonets a).isNone }.step)

/-! ## Frames -/

/-- Rows that use a frame slot. -/
def formSlot : Form := { slot := true }

/-- TAKE (R333, R307): the oldest ready frame of the thread's classes, or park with TAKE. -/
def execNTake (c : Fin 8) (t : Fin 128) (rd ra rb : BitVec 4) (imm : BitVec 18) (s : State) : Host.Outcome State Fault Refusal :=
  nIssue 0x2E { rd := true, slot := true } c t rd ra rb imm s (fun th =>
    if (th.slots.getD rb.toNat none).isSome then s.nFault c.val t.val 1 (nWord 0x2E rd ra rb imm % 2 ^ 18)
    else
      match s.oldestFor c.val th.classes with
      | some x => s.receive c.val t.val rb.toNat rd.toNat x
      | none =>
          let th1 := { th with st := .parked, park := 2, rd := rd.toNat, slot := rb.toNat }
          let cl := s.cluster c.val
          (s.setThread c.val t.val th1).setCluster c.val { cl with takers := cl.takers ++ [t.val] })

/-- An instruction on the frame in slot f: an empty slot faults with WINDOW_RANGE and 0x3_FFFF (R331). -/
def nFrame (op : Nat) (f : Form) (c : Fin 8) (t : Fin 128) (rd ra rb : BitVec 4) (imm : BitVec 18) (s : State)
    (k : Thread → Frame → State) : Host.Outcome State Fault Refusal :=
  nIssue op f c t rd ra rb imm s (fun th =>
    match s.slotFrame th rb with
    | none => s.nFault c.val t.val 4 0x3FFFF
    | some x => k th x)

/-- A thread whose slot f is emptied. -/
def Thread.free (th : Thread) (rb : BitVec 4) : Thread := { th with slots := setAt none th.slots rb.toNat none }

/-- DROP (R333): the frame ends and its order-gate place is released. -/
def execNDrop (c : Fin 8) (t : Fin 128) (rd ra rb : BitVec 4) (imm : BitVec 18) (s : State) : Host.Outcome State Fault Refusal :=
  nFrame 0x2F formSlot c t rd ra rb imm s (fun th x =>
    (s.setThread c.val t.val (th.free rb).step).endFrame x (.drop 2))

/-- The destination code in a register pair (R333). -/
def destPair (th : Thread) (ra : BitVec 4) : Nat :=
  (th.r (ra.toNat + 1)).toNat % 65536 * 65536 + (th.r ra.toNat).toNat % 65536

/-- Is a destination open to a thread (R310)? A bound thread emits only to the ports in EMIT and to its function's queues
(log entry 22). -/
def Thread.mayEmit (th : Thread) (dest : Nat) : Bool :=
  !th.isBound ||
    (decide (dest / 2 ^ 29 = 1) && decide (dest % 8 < 6) && bitOn th.bind (10 + dest % 8)) ||
    (decide (dest / 2 ^ 29 = 2) && decide (dest / 2 ^ 18 % 1024 = th.func))

/-- EMIT (R333): the frame leaves its slot for its order gate (R308); a destination refused under R310 is DENIED. -/
def execNEmit (c : Fin 8) (t : Fin 128) (rd ra rb : BitVec 4) (imm : BitVec 18) (s : State) : Host.Outcome State Fault Refusal :=
  nFrame 0x30 { ra := true, slot := true, pairA := true } c t rd ra rb imm s (fun th x =>
    let dest := destPair th ra
    if !th.mayEmit dest then s.nFault c.val t.val 7 (dest / 2 ^ 29)
    else (s.setFrame { x with loc := .gated c.val, dest := dest }).setThread c.val t.val (th.free rb).step)

/-- A metadata field (R334). -/
def Frame.meta (x : Frame) (i : Nat) : Option Nat :=
  match i with
  | 0 => some (x.nonets.length % 2 ^ 15)
  | 1 => some (if x.func then 2 ^ 17 + x.src % 1024 else x.src % 8)
  | 2 => some (x.dclass % 16)
  | 3 => some (x.tc % 8)
  | 4 => some (x.ns % 2 ^ 18)
  | 5 => some (x.ns / 2 ^ 18 % 2 ^ 12)
  | 6 => some (x.sec % 2 ^ 18)
  | 7 => some (x.wq % 256)
  | 8 => some (x.tag % 65536)
  | 9 => some (x.txf % 32)
  | 10 => some (x.tun % 65536)
  | 11 => some (x.sa % 65536)
  | _ => none

/-- GETM (R333, R334). -/
def execNGetm (c : Fin 8) (t : Fin 128) (rd ra rb : BitVec 4) (imm : BitVec 18) (s : State) : Host.Outcome State Fault Refusal :=
  nIssue 0x31 { rd := true, slot := true, imm := true } c t rd ra rb imm s (fun th =>
    if 12 ≤ imm.toNat then s.nFault c.val t.val 1 (nWord 0x31 rd ra rb imm % 2 ^ 18)
    else
      match s.slotFrame th rb with
      | none => s.nFault c.val t.val 4 0x3FFFF
      | some x => s.setThread c.val t.val (th.setR rd.toNat (BitVec.ofNat 18 ((x.meta imm.toNat).getD 0))).step)

/-- SETM (R333, R334): TC, TUN and SA only. -/
def execNSetm (c : Fin 8) (t : Fin 128) (rd ra rb : BitVec 4) (imm : BitVec 18) (s : State) : Host.Outcome State Fault Refusal :=
  nIssue 0x32 { ra := true, slot := true, imm := true } c t rd ra rb imm s (fun th =>
    if imm ≠ 3 ∧ imm ≠ 10 ∧ imm ≠ 11 then s.nFault c.val t.val 1 (nWord 0x32 rd ra rb imm % 2 ^ 18)
    else
      match s.slotFrame th rb with
      | none => s.nFault c.val t.val 4 0x3FFFF
      | some x =>
          let v := (th.r ra.toNat).toNat
          let y := if imm = 3 then { x with tc := v % 8 } else if imm = 10 then { x with tun := v % 65536 }
            else { x with sa := v % 65536 }
          (s.setFrame y).setThread c.val t.val th.step)

/-- Set the stitch bit of the first nonet. -/
def stitchFirst (l : List Nonet) : List Nonet := match l with | [] => [] | x :: r => (x ||| 0x100) :: r

/-- ADJH (R333): a length below 1, or more than 128 nonets prepended in all, faults with WINDOW_RANGE. -/
def execNAdjh (c : Fin 8) (t : Fin 128) (rd ra rb : BitVec 4) (imm : BitVec 18) (s : State) : Host.Outcome State Fault Refusal :=
  nFrame 0x33 { slot := true, imm := true } c t rd ra rb imm s (fun th x =>
    let d := imm.toInt
    let k := d.natAbs
    if 0 ≤ d then
      if x.nonets.length ≤ k then s.nFault c.val t.val 4 imm.toNat
      else (s.setFrame { x with nonets := stitchFirst (x.nonets.drop k) }).setThread c.val t.val th.step
    else if 128 < x.room + k then s.nFault c.val t.val 4 imm.toNat
    else
      (s.setFrame { x with nonets := stitchFirst (List.replicate k 0 ++ x.nonets), room := x.room + k }).setThread
        c.val t.val th.step)

/-! ## Engines and tables -/

/-- The allowed selections of ENG (R335). -/
def engAllowed (imm : BitVec 18) : Bool :=
  imm = 1 || imm = 2 || imm = 3 || imm = 4 || imm = 12 || imm = 8

/-- The function an encapsulation record is bound to (R257). -/
def encBound (e : List Byte) : Option Nat :=
  let b := leAt e 62 2
  if nbit b 15 then some (b % 1024) else none

/-- An encapsulation record's bytes; all zero where none was written. -/
def State.encRec (s : State) (i : Nat) : List Byte := Sparse.get (List.replicate 128 0) s.tun.enc i

/-- May a thread name the frame's context and SA (R310)? -/
def State.mayName (s : State) (th : Thread) (x : Frame) (ops : Nat) : Bool :=
  let e := s.entry 3 x.sa
  let other (b : Option Nat) : Bool := match b with | some f => decide (f ≠ th.func) | none => false
  !th.isBound ||
    !((nbit ops 1 && other (encBound (s.encRec x.tun))) ||
      ((nbit ops 0 || nbit ops 3) && decide (byteAt e 0 = 5) && validEntry 3 e && other (boundTo 3 e)))

/-- ENG (R335): the frame is handed to CRY and TUN and the thread parks with ENGINE until the first engine accepts it. -/
def execNEng (c : Fin 8) (t : Fin 128) (rd ra rb : BitVec 4) (imm : BitVec 18) (s : State) : Host.Outcome State Fault Refusal :=
  nIssue 0x34 { ra := true, imm := true, slot := true, pairA := true } c t rd ra rb imm s (fun th =>
    if !engAllowed imm then s.nFault c.val t.val 1 (nWord 0x34 rd ra rb imm % 2 ^ 18)
    else
      match s.slotFrame th rb with
      | none => s.nFault c.val t.val 4 0x3FFFF
      | some x =>
          let dest := destPair th ra
          if !th.mayEmit dest || !s.mayName th x imm.toNat then s.nFault c.val t.val 7 (dest / 2 ^ 29)
          else
            (s.setFrame { x with loc := .engine c.val t.val imm.toNat false, dest := dest }).setThread c.val t.val
              { th with st := .parked, park := 4, slot := rb.toNat })

/-- TREQ (R336): one table request; the thread parks with TABLE until TABLE_ANSWER. -/
def execNTreq (c : Fin 8) (t : Fin 128) (rd ra rb : BitVec 4) (imm : BitVec 18) (s : State) : Host.Outcome State Fault Refusal :=
  nIssue 0x35 { rd := true, ra := true, imm := true } c t rd ra rb imm s (fun th =>
    let core := t.val / 16
    let a := (th.r ra.toNat).toNat
    let lim := min th.dlen (65536 - th.dbase)
    if imm &&& 0x3F8C8 ≠ 0 then s.nFault c.val t.val 1 (nWord 0x35 rd ra rb imm % 2 ^ 18)
    else if lim < a + 36 then s.nFault c.val t.val 3 (max a lim)
    else
      let op := imm.toNat % 8
      let k := imm.toNat / 16 % 4
      let b := th.dbase + a
      let e := cleanEntry k (s.blockEntry c.val core b)
      if s.treqDenied th.bind op k (s.blockIndex c.val core b) e (nbit imm.toNat 8) then s.nFault c.val t.val 7 op
      else
        let r : TReq := { c := c.val, t := t.val, imm := imm.toNat, addr := b, dead := false, bind := th.bind }
        let s1 := { s with nyate := { s.nyate with treqs := s.nyate.treqs ++ [r] } }
        s1.setThread c.val t.val { th with st := .parked, park := 1, rd := rd.toNat })

/-! ## Control flow -/

/-- Jump to a target relative to IBASE; at or above ILEN the thread faults with CODE_RANGE (R329). -/
def nJump (s : State) (c t : Nat) (th : Thread) (target : Nat) : State :=
  if th.ilen ≤ target then s.nFault c t 2 target else s.setThread c t { th with pc := target }

/-- BR (R329): the condition is in RD. -/
def execNBr (c : Fin 8) (t : Fin 128) (rd ra rb : BitVec 4) (imm : BitVec 18) (s : State) : Host.Outcome State Fault Refusal :=
  nIssue 0x36 { rd := true, imm := true } c t rd ra rb imm s (fun th =>
    if 2 ^ 15 ≤ imm.toNat then s.nFault c.val t.val 1 (nWord 0x36 rd ra rb imm % 2 ^ 18)
    else if condHolds th.sw rd then nJump s c.val t.val th imm.toNat
    else s.setThread c.val t.val th.step)

/-- JAL (R329): n[rd] = PC + 1; PC = IMM[14:0]. -/
def execNJal (c : Fin 8) (t : Fin 128) (rd ra rb : BitVec 4) (imm : BitVec 18) (s : State) : Host.Outcome State Fault Refusal :=
  nIssue 0x37 { rd := true, imm := true } c t rd ra rb imm s (fun th =>
    let target := imm.toNat % 2 ^ 15
    if th.ilen ≤ target then s.nFault c.val t.val 2 target
    else s.setThread c.val t.val { (th.setR rd.toNat (BitVec.ofNat 18 (th.pc + 1))) with pc := target })

/-- JR (R329): PC = n[ra][14:0]. -/
def execNJr (c : Fin 8) (t : Fin 128) (rd ra rb : BitVec 4) (imm : BitVec 18) (s : State) : Host.Outcome State Fault Refusal :=
  nIssue 0x38 { ra := true } c t rd ra rb imm s (fun th => nJump s c.val t.val th ((th.r ra.toNat).toNat % 2 ^ 15))

/-! ## Other instructions -/

/-- SLEEP (R337): parks with SLEEP for IMM µs; IMM 0 completes without parking. -/
def execNSleep (c : Fin 8) (t : Fin 128) (rd ra rb : BitVec 4) (imm : BitVec 18) (s : State) : Host.Outcome State Fault Refusal :=
  nIssue 0x39 { imm := true } c t rd ra rb imm s (fun th =>
    if imm = 0 then s.setThread c.val t.val th.step
    else s.setThread c.val t.val { th.step with st := .parked, park := 5 })

/-- TRAP (R337): the thread faults with TRAP and IMM. -/
def execNTrap (c : Fin 8) (t : Fin 128) (rd ra rb : BitVec 4) (imm : BitVec 18) (s : State) : Host.Outcome State Fault Refusal :=
  nIssue 0x3A { imm := true } c t rd ra rb imm s (fun _ => s.nFault c.val t.val 9 imm.toNat)

end Sys2Proof.Machine
end

