-- ==== Sys2Proof/Machine/Tunnel.lean ====
section
/-!
DEFINITION. Machine/Tunnel.lean: encapsulation records (R257, R259), encapsulation (R258), decapsulation (R260), and the
hand-over of a frame from a thread to the engines (R335, R270).
Header layouts are those of RFC 7348 and RFC 8926, which the spec names (PRESUMED, log entry 14).
-/
namespace Sys2Proof.Machine

open Sys2Proof

/-! ## Records -/

/-- VALID of an encapsulation record. -/
def encValid (e : List Byte) : Bool := nbit (byteAt e 61) 7

/-- The staged record. -/
def State.stagedEnc (s : State) : List Byte :=
  keepDest 56 (keepBits [(7, 0), (61, 0x81), (63, 0x83)] ((List.range 32).flatMap (fun w => leBytes 4 (s.reg .tun (0x80 + 4 * w)).toNat)))

/-- Valid records bound to function f, record i left out. -/
def State.encCount (s : State) (f i : Nat) : Nat :=
  (s.tun.enc.filter (fun r => decide (r.1 ≠ i) && encValid r.2 && decide (encBound r.2 = some f))).length

/-- Is a record acceptable at index i (R259)? -/
def State.encOk (s : State) (i : Nat) (e : List Byte) : Bool :=
  decide (byteAt e 60 ≤ 16) && decide (leAt e 56 4 / 2 ^ 29 = 1) && (decide (byteAt e 0 = 1) || decide (byteAt e 0 = 2)) &&
    (decide (byteAt e 1 = 4) || decide (byteAt e 1 = 6)) && s.bindOk (encBound e) &&
    (match encBound e with
     | some f => !encValid e || (match s.quota 2 f with | some q => decide (s.encCount f i + 1 ≤ q) | none => true)
     | none => true)

/-- A write of TUN_ENC_CMD (R259): WRITE replaces all 128 bytes or is refused; READ copies a record to the staging registers. -/
def State.encCmd (s : State) (v : Word) : State :=
  let i := s.field .tun 0x48 15 0
  if bitOn v 0 then
    let e := s.stagedEnc
    if s.encOk i e then
      ({ s with tun := { enc := Sparse.set (List.replicate 128 0) s.tun.enc i e } }).setReg .tun 0x50 1
    else s.setReg .tun 0x50 2
  else if bitOn v 1 then
    let e := s.encRec i
    ((List.range 32).foldl (fun t w => t.setReg .tun (0x80 + 4 * w) (word (leAt e (4 * w) 4))) s).setReg .tun 0x50 1
  else s

/-! ## Encapsulation -/

/-- The flow key of R233 of a packet, VID and INGRESS 0. -/
def innerKey (v6 : Bool) (b : List Byte) (l3 : Nat) : List Byte :=
  let proto := ipProto v6 b l3
  let l4 := l3 + ipLen v6 b l3
  let ports := if (proto = 6 ∨ proto = 17) ∧ !ipFrag v6 b l3 then leBytes 2 (beAt b l4 2) ++ leBytes 2 (beAt b (l4 + 2) 2) else [0, 0, 0, 0]
  [if v6 then 2 else 1, BitVec.ofNat 8 proto, 0, 0, 0, 0] ++ ports ++ ipSrc v6 b l3 ++ ipDst v6 b l3

/-- The outer UDP source port (R258). -/
def sourcePort (b : List Byte) : Nat :=
  49152 + crc32c (match ipAt b with | some (v6, l3) => innerKey v6 b l3 | none => slice b 0 12) % 16384

/-- Does a run of Geneve options hold a critical one? -/
def criticalOption (n : Nat) (o : List Byte) : Bool :=
  match n with
  | 0 => false
  | n + 1 => if o.length < 4 then false else nbit (byteAt o 2) 7 || criticalOption n (o.drop (4 + byteAt o 3 % 32 * 4))

/-- The tunnel header of a record. -/
def tunHeader (e : List Byte) : List Byte :=
  let vni := leAt e 4 4 % 2 ^ 24
  if byteAt e 0 = 1 then [8, 0, 0, 0] ++ beBytes 3 vni ++ [0]
  else
    let n := byteAt e 60
    let o := slice e 64 (4 * n)
    [BitVec.ofNat 8 n, if criticalOption 16 o then 0x40 else 0, 0x65, 0x58] ++ beBytes 3 vni ++ [0] ++ o

/-- The UDP checksum of a datagram with its pseudo header. -/
def udpSum (v6 : Bool) (src dst udp : List Byte) : Nat :=
  let n := if v6 then 16 else 4
  let c := inetSum (slice src 0 n ++ slice dst 0 n ++ beBytes 4 udp.length ++ [0, 0, 0, 17] ++ udp)
  if c = 0 then 0xFFFF else c

/-- A frame's bytes under a record's outer headers (R257, R258). -/
def encapsulate (e b : List Byte) : List Byte :=
  let v6 := byteAt e 1 = 6
  let src := slice e 8 16
  let dst := slice e 24 16
  let inner := tunHeader e ++ b
  let udp0 := beBytes 2 (sourcePort b) ++ beBytes 2 (leAt e 2 2) ++ beBytes 2 (8 + inner.length) ++ [0, 0] ++ inner
  let udp := if nbit (byteAt e 61) 0 then splice udp0 6 (beBytes 2 (udpSum v6 src dst udp0)) else udp0
  let tos := byteAt e 55
  let dscp := match ipAt b with | some (i6, l3) => if nbit tos 6 then ipDscp i6 b l3 else tos % 64 | none => tos % 64
  let ov := leAt e 52 2
  let tag := if nbit ov 15 then [0x81, 0x00] ++ beBytes 2 (ov % 2 ^ 15 / 4096 * 8192 + ov % 4096) else []
  slice e 40 12 ++ tag ++ (if v6 then [0x86, 0xDD] else [0x08, 0x00]) ++
    ipHeader v6 dscp (Config.ipId b % 65536) (nbit tos 7) (byteAt e 54) 17 udp.length src dst ++ udp

/-! ## The engines -/

/-- Engine code BINDING for a frame whose TXD named an SA or a context that is bound as `b` says (R270). -/
def txdBinding (x : Frame) (named : Option Nat) (b : Nat → Option Nat) : Bool :=
  match named with
  | some i => x.func && (match b i with | some f => decide (f ≠ x.src) | none => decide (x.src ≠ 0))
  | none => false

/-- Why ESP outbound fails on a frame, by engine code. -/
def State.espOutFault (s : State) (x : Frame) : Option Nat :=
  match s.saFault x.sa 3 with
  | some c => some c
  | none => if txdBinding x x.saNamed (fun i => boundTo 3 (s.entry 3 i)) then some 5 else none

/-- Why encapsulation fails on a frame, by engine code. -/
def State.encapFault (s : State) (x : Frame) : Option Nat :=
  if !encValid (s.encRec x.tun) then some 4
  else if txdBinding x x.tunNamed (fun i => encBound (s.encRec i)) then some 5 else none

/-- The stage of ESP outbound in CRY. A frame that is not IP and a fragment pass unchanged and take no number (R266, log entry 15). -/
def State.cryStage (s : State) (x : Frame) : State :=
  if (ipAt x.body).isNone || x.fragment then s
  else
    match s.espOutFault x with
    | some c => s.endFrame x (.engine c)
    | none =>
        let n := nextPn (s.entry 3 x.sa)
        (s.usePn x.sa n).setFitted (x.rebuilt (s.espOut x.sa n x.body))

/-- Was a frame handed to the engines by the base image (thread 128, R229)? -/
def Frame.byBase (x : Frame) : Bool := match x.loc with | .engine _ t _ _ => decide (128 ≤ t) | _ => false

/-- The stage of encapsulation in TUN. The base image's frames go to the OUT_DEST of the record, which is read with the headers (R259). -/
def State.tunStage (s : State) (x : Frame) : State :=
  let e := s.encRec x.tun
  match s.encapFault x with
  | some c => s.endFrame x (.engine c)
  | none =>
      (s.setFitted { x.rebuilt (encapsulate e x.body) with dest := if x.byBase then leAt e 56 4 else x.dest }).count .tun 0x100

/-- Does the first engine of a selection accept work (R255, R335)? CRY for ESP, TUN for the rest. -/
def State.engineRuns (s : State) (ops : Nat) : Bool :=
  let cry := nbit ops 0 || ops = 8
  (!cry || s.admitsWork .cry) && (ops = 8 || ops = 1 || s.admitsWork .tun)

/-- ENGINE_ACCEPT (R335): the first engine accepts a frame; the slot is empty and the thread runs on (128 names no thread
but the base image). The outbound operations act in the order of R255; a frame to be decapsulated or opened waits in its engine. -/
def execEngineAccept (id : Nat) (s : State) : Host.Outcome State Fault Refusal :=
  match s.frame id with
  | none => .next s
  | some x =>
      match x.loc with
      | .engine c t ops false =>
          if !s.engineRuns ops then .next s
          else
            let th := s.thread c t
            let th1 := if th.st = .parked then { th.step with st := .runnable } else th
            let s1 := if 128 ≤ t then s else
              s.setThread c t { th1 with park := 0, slots := setAt none th.slots th.slot none }
            let s2 := s1.setFrame { x with loc := .engine c t ops true }
            let cry := ops = 1 || ops = 3 || ops = 8
            let s3 := s2.onFrame id (fun u y => if y.bad then u.endFrame y (.drop 6) else u.moveOrDrop y (if cry then 8 else 9))
            let s4 := if nbit ops 0 then s3.onFrame id State.cryStage else s3
            let s5 := if nbit ops 1 then
                (if nbit ops 0 then s4.onFrame id (fun u y => u.moveOrDrop y 9) else s4).onFrame id State.tunStage
              else s4
            if ops ≤ 3 then .next (s5.onFrame id (fun u y => u.setFrame { y with loc := .gated c })) else .next s5
      | _ => .next s

/-! ## Decapsulation -/

/-- The type of tunnel a UDP port stands for: that of a tunnel entry with this port and address, else Geneve for its
registered port (log entry 17). -/
def State.tunKind (s : State) (v6 : Bool) (port : Nat) (dst : List Byte) : Nat :=
  match s.tbl.tun.find? (fun r => validEntry 2 r.2 && decide (byteAt r.2 1 = if v6 then 6 else 4) &&
      decide (leAt r.2 2 2 = port) && decide (slice r.2 8 16 = dst)) with
  | some r => byteAt r.2 0
  | none => if port = 6081 then 2 else 1

/-- What becomes of a frame at decapsulation: an inner frame, a counter of R279 it is dropped in, or the OAM hand-over. -/
inductive Decap where
  | inner (b : List Byte)
  | drop (counter : Nat)
  | oam
  deriving DecidableEq, Repr

/-- The checks of R260, in order, on the bytes of an outer frame. -/
def State.decap (s : State) (b : List Byte) (csumBad : Bool) : Decap :=
  match ipAt b with
  | none => .drop 0x10C
  | some (v6, l3) =>
      let l4 := l3 + ipLen v6 b l3
      let h := l4 + 8
      if ipProto v6 b l3 ≠ 17 then .drop 0x10C
      else if csumBad && decide (beAt b (l4 + 6) 2 ≠ 0) then .drop 0x108
      else if s.tunKind v6 (beAt b (l4 + 2) 2) (ipDst v6 b l3) = 1 then
        (if nbit (byteAt b h) 3 then .inner (b.drop (h + 8)) else .drop 0x10C)
      else
        let n := byteAt b h % 64 * 4
        if byteAt b h / 64 ≠ 0 ∨ beAt b (h + 2) 2 ≠ 0x6558 then .drop 0x10C
        else if 64 < n then .drop 0x110
        else if nbit (byteAt b (h + 1)) 6 && !bitOn (s.reg .tun 0x40) 0 then .drop 0x114
        else if nbit (byteAt b (h + 1)) 7 then .oam
        else .inner (b.drop (h + 8 + n))

/-- TUNNEL_DECAP (R260): TUN checks a frame handed to it and removes the outer headers, drops it and counts, or hands a
Geneve frame with the O bit set to TUN_OAM.DEST. -/
def execTunnelDecap (id : Nat) (csumBad : Bool) (s : State) : Host.Outcome State Fault Refusal :=
  match s.frame id with
  | none => .next s
  | some x =>
      match x.loc with
      | .engine c t ops true =>
          if !nbit ops 2 || !s.runs .tun then .next s
          else if x.bad then .next (s.endFrame x (.drop 6))
          else
            match s.decap x.body csumBad with
            | .inner b =>
                let loc := if nbit ops 3 then Loc.engine c t 8 true else .gated c
                .next ((s.setFitted { x.rebuilt b with loc := loc }).count .tun 0x104)
            | .drop k => .next ((s.endFrame x (.engine 4)).count .tun k)
            | .oam =>
                let d := (s.reg .tun 0x44).toNat
                if d / 2 ^ 29 = 0 then .next ((s.endFrame x (.engine 4)).count .tun 0x118)
                else .next ((s.setFrame { x with loc := .gated c, dest := d }).count .tun 0x118)
      | _ => .next s

end Sys2Proof.Machine
end

