-- ==== Sys2Proof/Machine/Queues.lean ====
section
/-!
DEFINITION. Machine/Queues.lean: work queues and completion queues (chapter 7), the crypto operations of R276, and the
host reads that serve them (R102, R103).
-/
namespace Sys2Proof.Machine

open Sys2Proof

/-! ## Functions at work -/

/-- Does function f go on with the work it holds and write its entries: it exists, is not in reset, its entry into D3hot has not
ended, and the host can be reached (R107, R124, R363)? -/
def State.funcReports (s : State) (f : Nat) : Bool :=
  s.funcExists f && (s.func f).dstate ≠ .d3 && !(s.func f).inReset && s.runs .host && s.host.up

/-- Does function f begin new work: it reports, and it is in D0 (R107 step 1, R363 step 1)? -/
def State.funcRuns (s : State) (f : Nat) : Bool := s.funcReports f && (s.func f).dstate = .d0

/-- Function f makes progress (R127, R128): a stall ends and its watchdog period begins anew. -/
def State.progressed (s : State) (f : Nat) : State :=
  let p := funcPage f
  ((s.setBit p 0x5C 3 false).setField p 0x5C 23 20 0).setFunc f { s.func f with timedOut := false }

/-! ## Enabling (R134, R135) -/

/-- The first failing check of an ENABLE, by its RESULT; 1 where none fails. -/
def State.enableResult (s : State) (f : Nat) : Nat :=
  let p := funcPage f
  let i := s.field p 0x100 7 0
  let isCq := bitOn (s.reg p 0x100) 15
  let c := s.reg p 0x10C
  let a := (s.func f).asg
  if (if isCq then a.cqCount else a.wqCount) ≤ i then 2
  else if 10 < fld c 3 0 then 3
  else if !isCq && (s.cq f (fld c 15 8)).isNone then 4
  else if !isCq && bitOn c 6 && (decide (256 ≤ f) || decide (2 ≤ fld c 5 4)) then 5
  else if (if isCq then (s.cq f i).isSome else (s.wq f i).isSome) then 6 else 1

/-- A write of FUNC_QCMD (R134): the staged values become the selected queue's context where every check passes. -/
def State.queueCmd (s : State) (f : Nat) (v : Word) : State :=
  if !bitOn v 0 then s
  else
    let p := funcPage f
    let i := s.field p 0x100 7 0
    let c := s.reg p 0x10C
    let r := s.enableResult f
    let t := s.setField p 0x118 11 8 r
    let base := s.reg64 p 0x104 / 4096 * 4096
    let size := 64 * 2 ^ fld c 3 0
    if r ≠ 1 then t
    else if bitOn (s.reg p 0x100) 15 then
      t.setCq f i (some { base := base, size := size, vector := fld c 26 16, prod := 0, lap := true, head := 0, armed := false })
    else
      t.setWq f i (some { base := base, size := size, kind := fld c 5 4, v1 := bitOn c 6, spec := bitOn c 7 && !bitOn c 6,
                          cq := fld c 15 8, poll := s.field p 0x110 15 0, fetch := 0, lap := true, tail := 0, pend := false,
                          idle := false, empty := 0, reading := none, noisy := false, aborting := false, items := [] })

/-! ## Doorbells (R144 to R147) -/

/-- Discard a doorbell write (R145). -/
def State.dbDiscard (s : State) : State := s.count .wq 0x44

/-- Is function f's BAR out of reach of a memory request, so that the request is answered as Unsupported Request (R107)? -/
def State.barAsleep (s : State) (f : Nat) : Bool := decide ((s.func f).dstate ≠ .d0)

/-- Can the host reach the BARs of function f at all: link up, HOST running, the function there? -/
def State.barThere (s : State) (f : Nat) : Bool := s.funcExists f && s.runs .host && s.host.up

/-- WQ_DOORBELL (R145, R146): the tail is replaced and the pending poll set; a second one before the poll is coalesced. -/
def execWqDoorbell (f : Fin 1024) (q : Fin 256) (width : Nat) (v : Word) (s : State) : Host.Outcome State Fault Refusal :=
  if !s.barThere f.val then .next s
  else if s.barAsleep f.val then .next (s.emit (.unsupported f.val))
  else if (s.func f.val).inReset || (decide (width ≠ 4) && decide (width ≠ 8)) then .next s.dbDiscard
  else
    match s.wq f.val q.val with
    | none => .next s.dbDiscard
    | some w =>
        if w.size ≤ fld v 15 0 then .next s.dbDiscard
        else
          let t := if w.pend then s.count .wq 0x40 else s
          .next (t.setWq f.val q.val (some { w with tail := fld v 15 0, pend := true, idle := false, empty := if w.idle then 0 else w.empty }))

/-- CQ_DOORBELL (R145, R147): the head is replaced; ARM arms the queue, or sends its message at once where entries stand. -/
def execCqDoorbell (f : Fin 1024) (q : Fin 256) (width : Nat) (v : Word) (s : State) : Host.Outcome State Fault Refusal :=
  if !s.barThere f.val then .next s
  else if s.barAsleep f.val then .next (s.emit (.unsupported f.val))
  else if (s.func f.val).inReset || (decide (width ≠ 4) && decide (width ≠ 8)) then .next s.dbDiscard
  else
    match s.cq f.val q.val with
    | none => .next s.dbDiscard
    | some c =>
        if c.size ≤ fld v 15 0 then .next s.dbDiscard
        else
          let d := { c with head := fld v 15 0 }
          if !bitOn v 31 then .next (s.setCq f.val q.val (some d))
          else if d.head ≠ d.prod then .next ((s.setCq f.val q.val (some { d with armed := false })).sendMsix f.val d.vector)
          else .next (s.setCq f.val q.val (some { d with armed := true }))

/-! ## Polls (R148 to R151) -/

/-- Bytes of a descriptor (R137, R141). -/
def descSize (v1 : Bool) : Nat := if v1 then 16 else 32

/-- Descriptors from the fetch point up to the tail. -/
def WqSt.ahead (w : WqSt) : Nat := (w.tail + w.size - w.fetch) % w.size

/-- Is a queue eligible for a poll, its interval having passed (R148)? -/
def WqSt.eligible (w : WqSt) : Bool :=
  w.reading.isNone && (w.pend || (if w.spec then !w.idle else decide (w.ahead ≠ 0)))

/-- Descriptors that outstanding polls may still bring. -/
def State.pollsOut (s : State) : Nat :=
  (s.host.reads.map (fun r => match r.use with | .poll _ n => n | _ => 0)).sum

/-- Descriptors that may still be fetched (R17); those an outstanding poll may bring count as held (DEDUCED, log entry 101). -/
def State.itemRoom (s : State) : Nat := 8192 - (s.itemsInFlight + s.pollsOut)

/-- May a queue of function f be polled now (R17, R102, R148, R363)? -/
def State.pollable (s : State) (f : Nat) (w : WqSt) : Bool :=
  s.funcRuns f && s.admitsWork .host && w.eligible && decide (0 < s.itemRoom) && decide (0 < s.readRoom f)

/-- Has queue q of function f its turn (R148)? Functions, and the queues of one, are served round-robin. A queue whose interval of
WQ_POLL may not have passed gives way; when it has passed is the environment's to say (log entry 101). -/
def State.hasTurn (s : State) (f q : Nat) : Bool :=
  !s.queues.wq.any (fun e =>
    let g := e.1 / 256
    let k := e.1 % 256
    let lastQ := Sparse.get 255 s.queues.lastQ f
    s.pollable g e.2 && (e.2.pend || decide (e.2.poll = 0)) &&
      (if g = f then decide (turn 256 lastQ k < turn 256 lastQ q) else decide (turn 1024 s.queues.lastF g < turn 1024 s.queues.lastF f)))

/-- The arbiter has granted a poll to queue q of function f (R148). -/
def State.tookTurn (s : State) (f q : Nat) : State :=
  { s with queues := { s.queues with lastF := f, lastQ := Sparse.set 255 s.queues.lastQ f q } }

/-- Requests that a read of the ring at `i` for n descriptors becomes (R148): cut at the ring's end and under R102. -/
def State.ringParts (s : State) (f : Nat) (w : WqSt) (n : Nat) : List (Nat × Nat) :=
  let z := descSize w.v1
  let a := min n (w.size - w.fetch)
  let mx := (s.func f).cfg.maxReadReq
  cuts (z * a) mx (w.base + z * w.fetch) (z * a) ++ cuts (z * (n - a)) mx w.base (z * (n - a))

/-- WQ_POLL (R148, R17): the eligible queue whose turn it is reads at most 32 descriptors from its fetch point, a bounded one only
up to its tail; nothing is fetched while a limit of R17 or R102 is reached. -/
def execWqPoll (f : Fin 1024) (q : Fin 256) (s : State) : Host.Outcome State Fault Refusal :=
  match s.wq f.val q.val with
  | none => .next s
  | some w =>
      let n := min s.itemRoom (min 32 (if w.spec then 32 else w.ahead))
      if !s.pollable f.val w || !s.hasTurn f.val q.val then .next s
      else
        let t := s.tookTurn f.val q.val
        if n = 0 then .next (t.setWq f.val q.val (some { w with pend := false }))
        else
          .next ((t.setWq f.val q.val (some { w with pend := false, reading := some s.host.nextRead })).openRead f.val (.poll q.val n)
            (s.ringParts f.val w n))

/-- A descriptor as fetched (R137, R139, R141); its status is still open. -/
def parseItem (v1 : Bool) (qkind idx : Nat) (b : List Byte) : Item :=
  let kind := if v1 then byteAt b 11 % 32 else byteAt b 31 % 32
  let eop := if v1 then nbit (byteAt b 10) 6 else nbit (byteAt b 12) 0
  { idx := idx, kind := kind, opcode := if v1 then 0 else byteAt b 13,
    eop := if kind = 31 then decide (qkind ≠ 0) else if qkind = 1 then false else eop,
    cb := if v1 then nbit (byteAt b 10) 5 else nbit (byteAt b 31) 6, fence := !v1 && nbit (byteAt b 31) 5,
    tag := if v1 then 0 else leAt b 14 2, addr := leAt b 0 8, len := if v1 then leAt b 8 2 else leAt b 8 4,
    tc := if v1 then byteAt b 12 % 8 else byteAt b 18 % 8, flags := if v1 then byteAt b 13 % 8 else byteAt b 19 % 32,
    vlan := if v1 then leAt b 14 2 else leAt b 16 2, tun := if v1 then 0 else leAt b 20 2, sa := if v1 then 0 else leAt b 22 2,
    extra := if v1 then [] else slice b 16 12, busy := false, part := 0, fin := none, result := 0, eng := 0, sent := false, rxf := 0 }

/-- Is a descriptor the unit's, read in a lap of this phase (R133)? -/
def owned (v1 lap : Bool) (b : List Byte) : Bool := if v1 then nbit (byteAt b 10) 7 else nbit (byteAt b 31) 7 == lap

/-- A receive descriptor that fails a check, with its status (R138, R140). -/
def rxFault (i : Item) : Option Nat :=
  if i.kind = 31 then none
  else if i.kind ≠ 4 then some 4
  else if i.len < 64 ∨ 16384 < i.len ∨ i.len % 64 ≠ 0 then some 5
  else if i.addr % 64 ≠ 0 then some 6 else none

/-- Take fetched descriptors: failing receive descriptors finish at once in an entry of their own; after an abort the
descriptors up to the next EOP finish with ABORTED_POWER (R363). -/
def WqSt.take (w : WqSt) (l : List Item) : WqSt :=
  match l with
  | [] => w
  | i :: r =>
      let j := if w.aborting && i.kind ≠ 31 then i.done 2 0
        else if w.kind = 1 then (match rxFault i with | some st => { i with eop := true }.done st 0 | none => i) else i
      { w with items := w.items ++ [j], aborting := w.aborting && (!i.eop || i.kind = 31) }.take r

/-- The leading owned descriptors of a read from the fetch point. -/
def WqSt.ownedRun (w : WqSt) (k : Nat) (l : List (List Byte)) : List Item :=
  match l with
  | [] => []
  | b :: r =>
      let i := w.fetch + k
      if owned w.v1 (w.lap ^^ decide (w.size ≤ i)) b then parseItem w.v1 w.kind (i % w.size) b :: w.ownedRun (k + 1) r else []

/-- DESCRIPTOR_READ_RETURN (R149, R150): with its last completion a poll's read has returned; owned descriptors are taken in order;
from the first that is not, the rest of the read is discarded and counted. -/
def execDescriptorReadReturn (id : Nat) (descs : List (List Byte)) (s : State) : Host.Outcome State Fault Refusal :=
  match s.host.reads.find? (fun r => r.id = id) with
  | none => .next s
  | some r =>
      match r.use with
      | .poll q n =>
          match s.wq r.f q with
          | none => .next s
          | some w =>
              if descs.length ≠ n || !s.runs .host || !r.want.isEmpty || r.out ≠ 1 then .next s
              else
                let got := w.ownedRun 0 descs
                let k := got.length
                let clean := decide (k = n)
                let s1 := { s with host := { s.host with reads := s.host.reads.filter (fun x => x.id ≠ id) } }
                let s2 := if clean then s1 else if w.spec then s1.count .wq 0x48
                  else (s1.count .wq 0x4C).raiseIf (!w.noisy) .wq 0
                let empty := if w.spec && k = 0 then w.empty + 1 else 0
                let w1 := { w with reading := none, noisy := !w.spec && !clean, empty := empty,
                                   idle := w.spec && decide (64 ≤ empty), fetch := (w.fetch + k) % w.size,
                                   lap := w.lap ^^ decide (w.size ≤ w.fetch + k) }.take got
                let s3 := (s2.setWq r.f q (some w1)).pumpReads
                .next (if k = 0 then s3 else s3.progressed r.f)
      | _ => .next s

/-! ## Runs of descriptors -/

/-- The unstarted frames or operations of a queue, each with the descriptors before it. On a transmit queue a NOP stands
aside; elsewhere it ends what precedes it (R157). -/
def runsOf (tx : Bool) (seen acc mid l : List Item) : List (List Item × List Item) :=
  match l with
  | [] => []
  | i :: r =>
      if i.kind = 31 || i.fin.isSome || i.busy then
        if acc.isEmpty then runsOf tx (seen ++ [i]) [] mid r
        else if tx then runsOf tx seen acc (mid ++ [i]) r
        else runsOf tx (seen ++ acc ++ [i]) [] [] r
      else if i.eop then (seen, acc ++ [i]) :: runsOf tx (seen ++ acc ++ mid ++ [i]) [] [] r
      else runsOf tx seen (acc ++ [i]) mid r

/-- Has the work of a descriptor started: its cells were asked for, or it is being done? -/
def Item.started (i : Item) : Bool := i.busy || decide (i.part ≠ 0)

/-- May a run start behind these descriptors (R157)? A FENCE waits for all of them; a waiting FENCE holds back the rest. -/
def mayStart (before run : List Item) : Bool :=
  (!run.any (·.fence) || before.all (fun j => j.fin.isSome)) && before.all (fun j => !j.fence || j.fin.isSome || j.started)

/-- The last descriptor of a run. -/
def lastOf (run : List Item) : Option Item := run.getLast?

/-- The frame or operation a queue starts next among those that satisfy p. -/
def WqSt.nextRun (w : WqSt) (p : List Item → Bool) : Option (List Item) :=
  ((runsOf (w.kind = 0) [] [] [] w.items).find? (fun r => mayStart r.1 r.2 && p r.2)).map (·.2)

/-- Total length of descriptors. -/
def lenOf (l : List Item) : Nat := (l.map (·.len)).sum

/-- Finish the frame or operation that ends at descriptor `last`. -/
def State.finishRun (s : State) (f q last st res : Nat) : State :=
  match s.wq f q with
  | none => s
  | some w => s.setWq f q (some (w.finishFrame last st res))

/-- Mark the descriptors of a run as started. -/
def WqSt.start (w : WqSt) (run : List Item) : WqSt :=
  { w with items := w.items.map (fun (i : Item) => if run.any (fun j => j.idx = i.idx) && i.fin.isNone then { i with busy := true } else i) }

/-! ## Bursts -/

/-- The run of a queue, not yet handed on, whose EOP descriptor has index idx and that may start (R157). -/
def WqSt.runAt (w : WqSt) (idx : Nat) : Option (List Item) :=
  ((runsOf (w.kind = 0) [] [] [] w.items).find? (fun r =>
    mayStart r.1 r.2 && (match lastOf r.2 with | some i => decide (i.idx = idx) | none => false))).map (·.2)

/-- Mark the descriptors of a run as having asked for the cells of their k-th burst. -/
def WqSt.asked (w : WqSt) (run : List Item) (k : Nat) : WqSt :=
  { w with items := w.items.map (fun (i : Item) => if run.any (fun j => j.idx = i.idx) && i.fin.isNone then { i with part := k } else i) }

/-- The run ending at idx of queue q of function f asks for the cells of its k-th burst, which reads these buffers (R175). -/
def State.askBurst (s : State) (f q idx k : Nat) (w : WqSt) (run : List Item) (bufs : List (Nat × Nat)) : State :=
  (s.setWq f q (some (w.asked run k))).requestBurst f q idx w.kind bufs none

/-- End the bursts of queue q of function f for the descriptor at idx. -/
def State.endBurstsAt (s : State) (f q idx : Nat) : State :=
  ((s.ham.granted ++ s.ham.bursts).filter (fun b => b.f = f && b.q = q && b.idx = idx)).foldl State.endBurst s

/-- Take a granted burst off the list: its cells pass to what the run becomes. -/
def State.takeBurst (s : State) (b : Burst) : State :=
  { s with ham := { s.ham with granted := s.ham.granted.filter (fun a => a.id ≠ b.id) } }

/-- The host buffers of descriptors. -/
def bufsOf (l : List Item) : List (Nat × Nat) := l.map (fun i => (i.addr, i.len))

/-! ## Transmission -/

/-- Why a transmit frame's descriptors fail, by status: BAD_KIND, BAD_LENGTH, FRAME_TOO_LONG, the first in this order
(R138, R140; log entry 29). -/
def txFault (run : List Item) : Option Nat :=
  if run.any (fun i => i.kind ≠ 1) then some 4
  else if run.any (fun i => i.len = 0 || decide (16384 < i.len)) then some 5
  else if 32 < run.length ∨ 16384 < lenOf run then some 9 else none

/-- The TCP or UDP checksum of a segment with its pseudo header. -/
def l4Sum (v6 : Bool) (b : List Byte) (l3 l4 proto : Nat) : Nat :=
  let n := if v6 then 16 else 4
  let seg := (b.drop l4).take (ipEnd v6 b l3 - l4)
  let c := inetSum (slice (ipSrc v6 b l3) 0 n ++ slice (ipDst v6 b l3) 0 n ++ beBytes 4 seg.length ++
    [0, 0, 0, BitVec.ofNat 8 proto] ++ seg)
  if proto = 17 ∧ c = 0 then 0xFFFF else c

/-- Insert the IPv4, TCP and UDP checksums (R139, CSUM). A fragment carries no whole segment and keeps its own. -/
def insertSums (b : List Byte) : List Byte :=
  match ipAt b with
  | none => b
  | some (v6, l3) =>
      let b1 := if v6 then b
        else
          let z := splice b (l3 + 10) [0, 0]
          splice z (l3 + 10) (beBytes 2 (inetSum (slice z l3 (ipLen false z l3))))
      let l4 := l3 + ipLen v6 b1 l3
      let pr := ipProto v6 b1 l3
      let at_ := l4 + (if pr = 6 then 16 else 6)
      if ipFrag v6 b1 l3 || (decide (pr ≠ 6) && decide (pr ≠ 17)) || decide (b1.length < at_ + 2) then b1
      else
        let z := splice b1 at_ [0, 0]
        splice z at_ (beBytes 2 (l4Sum v6 z l3 l4 pr))

/-- The frame that a run of TXD descriptors and its data make. -/
def State.txFrame (s : State) (f q cells : Nat) (e : Item) (data : List Byte) : State :=
  let b0 := if nbit e.flags 2 then slice data 0 12 ++ [0x81, 0x00] ++ beBytes 2 e.vlan ++ data.drop 12 else data
  let b := if nbit e.flags 0 then insertSums b0 else b0
  let x : Frame :=
    { id := s.nextId, part := .chan (funcChan f 0), cells := cells, nonets := stitched b (boundaries b), func := true, src := f,
      wq := q, last := e.idx, dclass := 8, tc := e.tc, pcp := outerPcp false b, ns := Config.txStamp (2 * s.nextId),
      sec := Config.txStamp (2 * s.nextId + 1), tag := e.tag, txf := e.flags, tun := e.tun, sa := e.sa, room := 0, gate := none,
      dest := 0, flags := 0, seq := none, group := s.nextId, bad := false, esp := false, loc := .dispatch (f % 8) 8,
      tunNamed := if nbit e.flags 3 then some e.tun else none, saNamed := if nbit e.flags 4 then some e.sa else none }
  { s with frames := s.frames ++ [x], nextId := s.nextId + 1 }

/-- TXD (R138 to R140, R175): the next frame of a transmit queue is checked and its cells are asked for; once they are granted and its
data are read it is handed to its cluster; `data` is what the host supplied for its buffers. -/
def execTxd (f : Fin 1024) (q : Fin 256) (data : List Byte) (s : State) : Host.Outcome State Fault Refusal :=
  match s.wq f.val q.val with
  | none => .next s
  | some w =>
      if w.kind ≠ 0 || !s.funcReports f.val then .next s
      else
        match w.nextRun (fun _ => true) with
        | none => .next s
        | some run =>
            match lastOf run with
            | none => .next s
            | some e =>
                match txFault run with
                | some st => .next (s.finishRun f.val q.val e.idx st 0)
                | none =>
                    match s.grantOf f.val q.val e.idx with
                    | none => .next (if s.funcRuns f.val then s.askBurst f.val q.val e.idx 1 w run (bufsOf run) else s)
                    | some b =>
                        if !s.burstRead b || data.length ≠ lenOf run then .next s
                        else .next (((s.takeBurst b).setWq f.val q.val (some (w.start run))).txFrame f.val q.val b.cells e data)

/-! ## NOP (R157) -/

/-- The operation left open at the end of `l`, with the descriptors before it. -/
def openAt (seen acc l : List Item) : List Item × List Item :=
  match l with
  | [] => (seen, acc)
  | i :: r => if i.fin.isSome || i.busy || i.eop then openAt (seen ++ acc ++ [i]) [] r else openAt seen (acc ++ [i]) r

/-- The first unfinished NOP with the descriptors before it. -/
def firstNop (seen l : List Item) : Option (List Item × Item) :=
  match l with
  | [] => none
  | i :: r => if i.kind = 31 && i.fin.isNone then some (seen, i) else firstNop (seen ++ [i]) r

/-- Finish the operation that a NOP cuts short (R157): its last descriptor before the NOP closes it with BAD_OP. -/
def WqSt.cutOpen (w : WqSt) (run : List Item) : WqSt :=
  match lastOf run with
  | none => w
  | some e => { w with items := w.items.map (fun (i : Item) => if i.idx = e.idx then { i with eop := true } else i) }.finishFrame e.idx 7 7

/-- Finish a NOP where the descriptors before it let it start (R157). -/
def WqSt.endNop (w : WqSt) (n : Item) : WqSt :=
  if mayStart (w.items.takeWhile (fun i => i.idx ≠ n.idx)) [n] then
    { w with items := w.items.map (fun (i : Item) => if i.idx = n.idx then i.done 0 0 else i) } else w

/-- NOP_DESCRIPTOR (R157): the first unfinished NOP finishes OK once it may start; on a crypto or storage queue it ends an open operation
before it with BAD_OP, which has its own FENCE to wait for. -/
def execNopDescriptor (f : Fin 1024) (q : Fin 256) (s : State) : Host.Outcome State Fault Refusal :=
  match s.wq f.val q.val with
  | none => .next s
  | some w =>
      match firstNop [] w.items with
      | none => .next s
      | some (before, n) =>
          if !s.funcReports f.val then .next s
          else
            let o := if 2 ≤ w.kind then openAt [] [] before else (before, [])
            let w1 := if o.2.isEmpty || !mayStart o.1 o.2 then w else w.cutOpen o.2
            .next (s.setWq f.val q.val (some (if o.2.isEmpty || mayStart o.1 o.2 then w1.endNop n else w1)))

/-! ## Completion entries (R142, R153 to R158) -/

/-- The length of the batch a transmit queue may report (R154): up to the first finished frame that failed or is asked for by
CB, with every descriptor before it finished. `inF` and `cb` say that a frame is open and a CB stands on it. -/
def txBatch (n : Nat) (inF cb : Bool) (l : List Item) : Option Nat :=
  match l with
  | [] => none
  | i :: r =>
      if i.fin.isNone then none
      else if i.kind = 31 then (if inF then txBatch (n + 1) true (cb || i.cb) r else if i.cb then some (n + 1) else txBatch (n + 1) false false r)
      else if i.eop then (if cb || i.cb || decide (i.fin ≠ some 0) then some (n + 1) else txBatch (n + 1) false false r)
      else txBatch (n + 1) true (cb || i.cb) r

/-- The first finished run of descriptors up to an end, as the number before it and its length (R155, R156). -/
def doneRun (anywhere : Bool) (skip n : Nat) (ok : Bool) (l : List Item) : Option (Nat × Nat) :=
  match l with
  | [] => none
  | i :: r =>
      let o := ok && i.fin.isSome
      if i.eop then (if o then some (skip, n + 1) else if anywhere then doneRun anywhere (skip + n + 1) 0 true r else none)
      else doneRun anywhere skip (n + 1) o r

/-- The descriptors the next entry of a work queue covers: how many stand before them, and their number. -/
def WqSt.reportable (w : WqSt) : Option (Nat × Nat) :=
  if w.kind = 0 then (txBatch 0 false false w.items).map (fun n => (0, n)) else doneRun (decide (2 ≤ w.kind)) 0 0 true w.items

/-- Is there room for one more entry (R158)? -/
def CqSt.free (c : CqSt) : Bool := decide ((c.prod + 1) % c.size ≠ c.head)

/-- The 16 bytes of a completion entry (R5, R142). -/
def Cqe.bytes (e : Cqe) : List Byte :=
  leBytes 2 e.wq ++ leBytes 2 e.last ++ leBytes 2 e.count ++ leBytes 2 e.tag ++ leBytes 4 e.result ++
    [BitVec.ofNat 8 e.status, BitVec.ofNat 8 e.rxflags, 0, if e.phase then 0x80 else 0]

/-- Place an entry in a completion queue, at ring base + 16 × index in host memory (R142): the producer moves on, an armed queue sends
its message and is disarmed (R147). -/
def State.placeEntry (s : State) (f k : Nat) (c : CqSt) (e : Cqe) : State :=
  let n := c.prod + 1
  let t := (s.dmaWrite f (c.base + 16 * c.prod) e.bytes).setCq f k
    (some { c with prod := n % c.size, lap := c.lap ^^ decide (n = c.size), armed := false })
  if c.armed then t.sendMsix f c.vector else t

/-- The state after the next entry of a work queue is written, if one is due and its completion queue has room. -/
def State.reportOne (s : State) (f q : Nat) : Option State :=
  match s.wq f q with
  | none => none
  | some w =>
      match s.cq f w.cq, w.reportable with
      | some c, some (skip, n) =>
          if !c.free then none
          else
            match (w.items.drop skip)[n - 1]? with
            | none => none
            | some i =>
                let e : Cqe := { wq := q, last := i.idx, count := n, tag := i.tag, result := i.result, status := i.fin.getD 0,
                                 rxflags := i.rxf, phase := c.lap }
                let w1 := { w with items := w.items.take skip ++ w.items.drop (skip + n) }
                some (((s.placeEntry f w.cq c e).setWq f q (some w1)).progressed f)
      | _, _ => none

/-- COMPLETION_WRITE (R153 to R158): the next entry of a work queue is written once its completion queue has a free one. -/
def execCompletionWrite (f : Fin 1024) (q : Fin 256) (s : State) : Host.Outcome State Fault Refusal :=
  if s.funcReports f.val then .next ((s.reportOne f.val q.val).getD s) else .next s

/-! ## Receive (R155, R160) -/

/-- The buffers a frame may use now: the unfinished RXB descriptors from the first unfinished one on. -/
def rxFree (l : List Item) : List Item := (l.dropWhile (fun i => i.fin.isSome)).takeWhile (fun i => i.kind = 4 && i.fin.isNone)

/-- The fewest leading buffers that hold n bytes. -/
def rxTake (n : Nat) (l : List Item) : Option (List Item) :=
  match l with
  | [] => none
  | i :: r => if n ≤ i.len then some [i] else (rxTake (n - i.len) r).map (fun t => i :: t)

/-- Write a frame's bytes into its buffers. -/
def State.fillBuffers (s : State) (f : Nat) (b : List Byte) (l : List Item) : State :=
  match l with
  | [] => s
  | i :: r => (s.dmaWrite f i.addr (b.take i.len)).fillBuffers f (b.drop i.len) r

/-- The frame at the head of receive queue q of function f. -/
def State.rxHead (s : State) (f q : Nat) : Option Frame := s.frames.find? (fun x => x.loc = .rxq f q)

/-- The buffers that the frame at the head of a receive queue takes, if enough stand ready (R155). -/
def WqSt.rxFit (w : WqSt) (x : Frame) : Option (List Item) :=
  let before := w.items.takeWhile (fun i => i.fin.isSome)
  (rxTake x.nonets.length (rxFree w.items)).bind (fun l => if mayStart before l then some l else none)

/-- RX_DELIVERY (R155): the frame at the head of a receive queue is written into consecutive buffers and finishes them; an
uncorrectable frame is discarded (R164). A damaged one counts in RX_ERR_DELIVERED of its port (R188). -/
def execRxDelivery (f : Fin 1024) (q : Fin 256) (s : State) : Host.Outcome State Fault Refusal :=
  match s.wq f.val q.val, s.rxHead f.val q.val with
  | some w, some x =>
      if !s.funcReports f.val || x.espPending then .next s
      else if x.bad then .next (s.endFrame x (.drop 6))
      else
        match w.rxFit x with
        | none => .next s
        | some l =>
            let last := (lastOf l).map (·.idx)
            let items := w.items.map (fun (i : Item) =>
              if l.any (fun j => j.idx = i.idx) && i.fin.isNone then
                if some i.idx = last then { i.done (if x.flags = 0 then 0 else 1) x.nonets.length with eop := true, rxf := x.flags }
                else i.done 0 0
              else i)
            let t := ((s.fillBuffers f.val (bytesOf x.nonets) l).setWq f.val q.val (some { w with items := items })).endFrame x .sent
            .next (if x.flags = 0 then t else t.count (portPage x.src) 0x138)
  | _, _ => .next s

/-- RX_BUFFER_TIMEOUT (R160): the frame at the head has waited 1 ms without enough buffers; it is dropped and counted. A
frame that a function sent ends with reason 7 (log entry 30). -/
def execRxBufferTimeout (f : Fin 1024) (q : Fin 256) (s : State) : Host.Outcome State Fault Refusal :=
  match s.wq f.val q.val, s.rxHead f.val q.val with
  | some w, some x => if (w.rxFit x).isSome then .next s else .next (s.dropStaged f.val true x)
  | _, _ => .next s

/-! ## Crypto operations (R276) -/

/-- ROLE of a CRYOP. -/
def Item.role (i : Item) : Nat := byteAt i.extra 2 % 8
/-- KSLOT of a CRYOP. -/
def Item.kslot (i : Item) : Nat := leAt i.extra 0 2

/-- Bytes of the descriptors of a role. -/
def roleLen (k : Nat) (run : List Item) : Nat := lenOf (run.filter (fun i => i.role = k))

/-- Is a run a well-formed operation of an opcode? -/
def cryFormed (op : Nat) (run : List Item) : Bool :=
  decide (run.length ≤ 32) && run.all (fun i => i.opcode = op && i.kslot = (run.headD i).kslot && decide (i.role ≤ 4)) &&
    decide ((run.filter (fun i => i.role = 0)).map (·.len) = [12]) && decide ((run.filter (fun i => i.role = 4)).map (·.len) = [16]) &&
    decide (roleLen 2 run = roleLen 3 run) && decide (roleLen 2 run ≤ 16384) && decide (roleLen 1 run ≤ 1024)

/-- Why an operation fails before any host read: its status and RESULT (R138, R276). -/
def State.cryFault (s : State) (f op : Nat) (run : List Item) : Option (Nat × Nat) :=
  if run.any (fun i => i.kind ≠ 8) then some (4, 0)
  else if !cryFormed op run then some (7, 7)
  else
    let k := match run with | i :: _ => i.kslot | [] => 0
    let e := s.entry 3 k
    if !validEntry 3 e || decide (byteAt e 0 ≠ 5) then some (7, 1)
    else if boundTo 3 e ≠ some f then some (7, 5)
    else if !s.keyThere k then some (7, 3) else none

/-- Is a run one that the event of this opcode serves: its own opcode, or one that no opcode serves? -/
def cryServes (op : Nat) (run : List Item) : Bool :=
  match run with
  | [] => false
  | i :: _ => decide (i.opcode = op) || (decide (i.opcode ≠ 1) && decide (i.opcode ≠ 2)) || run.any (fun j => j.kind ≠ 8)

/-- The host buffers an operation reads: all but DST, and the TAG of an OPEN only. -/
def cryReads (op : Nat) (run : List Item) : List (Nat × Nat) := bufsOf (run.filter (fun i => i.role ≠ 3 && (i.role ≠ 4 || op = 2)))

/-- Carry out the next operation that the event of this opcode serves. It is checked before any host read; its reads are split into
bursts of at most 16,384 bytes (R168), each asking for its cells before its reads and returning them once it is read (DESIGN CHOICE, log
entry 102); `finish` gets the state once all are read. -/
def cryOp (op : Nat) (f : Fin 1024) (q : Fin 256) (s : State) (finish : State → List Item → Item → State) :
    Host.Outcome State Fault Refusal :=
  match s.wq f.val q.val with
  | none => .next s
  | some w =>
      if w.kind ≠ 2 || !s.funcReports f.val || !s.runs .cry then .next s
      else
        match w.nextRun (cryServes op) with
        | none => .next s
        | some run =>
            match lastOf run with
            | none => .next s
            | some e =>
                let bs := burstsOf (cryReads op run)
                let starts := s.funcRuns f.val && s.admitsWork .cry
                match (if e.part = 0 then s.cryFault f.val op run else none), s.grantOf f.val q.val e.idx with
                | some x, _ => .next (if starts then s.finishRun f.val q.val e.idx x.1 x.2 else s)
                | none, none => .next (if starts then s.askBurst f.val q.val e.idx (max 1 e.part) w run (bs.getD (e.part - 1) []) else s)
                | none, some b =>
                    if !s.burstRead b then .next s
                    else if e.part < bs.length then .next ((s.endBurst b).askBurst f.val q.val e.idx (e.part + 1) w run (bs.getD e.part []))
                    else .next ((finish s run e).endBurst b)

/-- SEAL (R276): DST and TAG are written; `cipher` and `tag` are what AES-GCM makes of the operation. -/
def execSeal (f : Fin 1024) (q : Fin 256) (cipher tag : List Byte) (s : State) : Host.Outcome State Fault Refusal :=
  cryOp 1 f q s (fun t run e =>
    let n := roleLen 2 run
    let t1 := t.fillBuffers f.val (slice cipher 0 n) (run.filter (fun i => i.role = 3))
    let t2 := t1.fillBuffers f.val (slice tag 0 16) (run.filter (fun i => i.role = 4))
    t2.finishRun f.val q.val e.idx 0 n)

/-- OPEN (R276): DST is written only after the tag verifies; else nothing is written and the code is AUTH_FAIL. -/
def execCryOpen (f : Fin 1024) (q : Fin 256) (plain : List Byte) (tagOk : Bool) (s : State) : Host.Outcome State Fault Refusal :=
  cryOp 2 f q s (fun t run e =>
    if tagOk then
      let n := roleLen 2 run
      (t.fillBuffers f.val (slice plain 0 n) (run.filter (fun i => i.role = 3))).finishRun f.val q.val e.idx 0 n
    else t.finishRun f.val q.val e.idx 7 6)

end Sys2Proof.Machine
end

