-- ==== Sys2Proof/Machine/Sto.lean ====
section
/-!
DEFINITION. Machine/Sto.lean: storage offload (chapter 13): connection contexts (R283 to R288), operations (R290 to R293),
placement and digests (R294, R295), and their abort (R296, R297).
Fatal error statuses and the SGL descriptors are those of the NVMe specifications (PRESUMED, log entry 31).
-/
namespace Sys2Proof.Machine

open Sys2Proof

/-! ## Contexts -/

/-- STATE of a context (R283). -/
def connState (b : List Byte) : Nat := byteAt b 0

/-- Set `k` bytes of a context from byte i. -/
def State.connPut (s : State) (c i k v : Nat) : State := s.setConn c (splice (s.conn c) i (leBytes k v))

/-- Operations open on a connection. -/
def State.openOps (s : State) (c : Nat) : List StoOp := s.sto.ops.filter (fun o => o.conn = c)

/-- Set OPEN_CMDS from the operations that are open. -/
def State.showOps (s : State) (c : Nat) : State := s.connPut c 80 2 (s.openOps c).length

/-- The staged context. -/
def State.stagedConn (s : State) : List Byte :=
  keepDest 56 (keepBits ([(1, 0x0F), (3, 0x83), (71, 0), (82, 0), (83, 0)] ++ (List.range 36).map (fun i => (92 + i, 0)))
    ((List.range 32).flatMap (fun w => leBytes 4 (s.reg .sto (0x80 + 4 * w)).toNat)))

/-- BIND of a context. -/
def connBound (b : List Byte) : Option Nat := if nbit (leAt b 2 2) 15 then some (leAt b 2 2 % 1024) else none

/-- The fields that tell connections apart: LPORT, RPORT, LADDR, RADDR. -/
def fourTuple (b : List Byte) : List Byte := slice b 4 36

/-- Is a staged context acceptable at index i (R284)? -/
def State.connOk (s : State) (i : Nat) (b : List Byte) : Bool :=
  let st := connState (s.conn i)
  decide (st ≠ 2) && decide (st ≠ 3) && decide (st ≠ 4) && (connBound b).isSome && s.bindOk (connBound b) &&
    decide (leAt b 56 4 / 2 ^ 29 = 1) && decide (leAt b 4 2 ≠ 0) && decide (536 ≤ leAt b 60 2) && decide (leAt b 60 2 ≤ 9000) &&
    decide (1 ≤ leAt b 62 2) && decide (leAt b 62 2 ≤ 1024) && decide (leAt b 64 2 ≤ 8192) && decide (1 ≤ leAt b 68 2) &&
    decide (leAt b 68 2 ≤ 1000) && decide (1 ≤ byteAt b 70) && decide (byteAt b 70 ≤ 15) &&
    !s.sto.ctx.any (fun e => decide (e.1 ≠ i) && nbit (byteAt e.2 1) 0 && decide (fourTuple e.2 = fourTuple b))

/-- A written context: the live fields stay, STATE becomes IDLE or FREE (R283, R284). -/
def mergeConn (old b : List Byte) : List Byte :=
  (if nbit (byteAt b 1) 0 then [1] else [0]) ++ slice b 1 71 ++ slice old 72 10 ++ slice b 82 2 ++ slice old 84 8 ++ slice b 92 36

/-- Out-of-order segments of a connection give their cells back. -/
def State.dropSegments (s : State) (c : Nat) : State :=
  let n := ((s.sto.oos.filter (fun x => x.1 = c)).map (fun x => cellsOf x.2.2)).sum
  let t := s.giveBack (.chan 10) n
  { t with sto := { t.sto with oos := t.sto.oos.filter (fun x => x.1 ≠ c), retry := Sparse.del t.sto.retry c } }

/-- Send something on a connection. -/
def State.pdu (s : State) (c kind bytes : Nat) : State := s.emit (.pdu c kind bytes [])

/-- Start the open of a connection (R286). -/
def State.connOpen (s : State) (i : Nat) : State :=
  let st := connState (s.conn i)
  if st ≠ 1 ∧ st ≠ 5 then s
  else
    let b := splice (splice (splice (s.conn i) 0 [2]) 78 [0, 0]) 84 (List.replicate 8 0)
    let t := (s.setConn i b).dropSegments i
    let u := { t with sto := { t.sto with expect := Sparse.del t.sto.expect i, sqhd := Sparse.del t.sto.sqhd i,
                                          finWait := t.sto.finWait.filter (fun x => x ≠ i) } }
    (u.pdu i 0 0).pdu i 1 0

/-- A write of STO_CONN_CMD by an overseer (R284 to R288); of several bits the lowest acts (log entry 32). -/
def State.connCmd (s : State) (m : Master) (v : Word) : State :=
  let i := s.field .sto 0x40 11 0
  if !m.overseer then s
  else if bitOn v 0 then
    let b := s.stagedConn
    if s.connOk i b then (s.setConn i (mergeConn (s.conn i) b)).setReg .sto 0x48 1 else s.setReg .sto 0x48 2
  else if bitOn v 1 then (List.range 32).foldl (fun t w => t.setReg .sto (0x80 + 4 * w) (word (leAt (s.conn i) (4 * w) 4))) s
  else if bitOn v 2 then s.connOpen i
  else if bitOn v 3 && connState (s.conn i) = 3 then s.connPut i 0 1 4 else s

/-! ## The end of operations and connections -/

/-- End an operation with a status and RESULT, and the burst that reads for it; it is counted as completed (R292). -/
def State.endOp (s : State) (o : StoOp) (st res : Nat) : State :=
  let s0 := s.endBurstsAt o.f o.q o.last
  let t := { s0 with sto := { s.sto with ops := s0.sto.ops.filter (fun x => !(x.id = o.id && x.conn = o.conn)) } }
  ((t.finishRun o.f o.q o.last st res).showOps o.conn).count .sto 0x100

/-- End every operation open on a connection: CONN_FAILED, or DATA_DIGEST where its digest was wrong (R287, R295). -/
def State.endOps (s : State) (c : Nat) : State :=
  (s.openOps c).foldl (fun t o => t.endOp o 7 (if o.digest then 0x13 else 0x12)) s

/-- Close with FIN, whose acknowledgement is awaited (R287). -/
def State.finish (s : State) (c : Nat) : State :=
  let t := s.pdu c 5 0
  { t with sto := { t.sto with finWait := c :: t.sto.finWait.filter (fun x => x ≠ c) } }

/-- What a failing connection sends (R287). -/
def State.closing (s : State) (c reason : Nat) : State :=
  if reason = 1 ∨ reason = 8 then s
  else if reason = 2 ∨ reason = 10 ∨ reason = 11 then s.pdu c 6 0
  else if reason = 5 ∨ reason = 6 then (s.emit (.pdu c 4 0 [BitVec.ofNat 8 (byteAt (s.conn c) 79)])).finish c
  else s.finish c

/-- A connection fails (R287); `fes` is the fatal error status of an H2CTermReq it sends. -/
def State.failConn (s : State) (c reason fes : Nat) : State :=
  let t := (s.connPut c 0 1 5).connPut c 78 1 reason
  let t1 := if reason = 5 ∨ reason = 6 then t.connPut c 79 1 fes else t
  ((((t1.closing c reason).endOps c).dropSegments c).count .sto 0x108).raise .sto 1

/-- Is a connection opening, open or closing, and STO running? -/
def State.connLive (s : State) (c : Nat) : Bool :=
  s.runs .sto && decide (2 ≤ connState (s.conn c)) && decide (connState (s.conn c) ≤ 4)

/-- ICRESP_RX (R286, R287): the open succeeds, or fails with DIGEST_REFUSED or ICRESP_BAD; out of sequence it is PROTOCOL
(R281). -/
def execIcrespRx (conn : Fin 4096) (pfv cpda : BitVec 8) (hdgst ddgst : Bool) (maxh2c : Word) (s : State) :
    Host.Outcome State Fault Refusal :=
  let c := conn.val
  let b := s.conn c
  if !s.connLive c then .next s
  else if connState b ≠ 2 then .next (s.failConn c 6 2)
  else if (nbit (byteAt b 1) 2 && !hdgst) || (nbit (byteAt b 1) 3 && !ddgst) then .next (s.failConn c 3 0)
  else if pfv ≠ 0 ∨ 31 < cpda.toNat ∨ maxh2c.toNat < 4096 then .next (s.failConn c 4 0)
  else
    let b1 := splice (splice b 0 [3]) 72 (leBytes 4 maxh2c.toNat ++ [cpda, BitVec.ofNat 8 (hdgst.toNat + ddgst.toNat * 2)])
    .next ((s.setConn c b1).raise .sto 0)

/-- STO_OPEN_TIMEOUT (R286): the open has not succeeded within 10 s. -/
def execStoOpenTimeout (conn : Fin 4096) (s : State) : Host.Outcome State Fault Refusal :=
  if s.connLive conn.val && connState (s.conn conn.val) = 2 then .next (s.failConn conn.val 2 0) else .next s

/-- CLOSE_WAIT_END (R288): a closing connection ends with FIN, or with CONN_FAILED operations and RST; STATE becomes IDLE. -/
def execCloseWaitEnd (conn : Fin 4096) (s : State) : Host.Outcome State Fault Refusal :=
  let c := conn.val
  if !(s.connLive c && connState (s.conn c) = 4) then .next s
  else if (s.openOps c).isEmpty then .next (((s.connPut c 0 1 1).finish c).dropSegments c)
  else .next ((((s.connPut c 0 1 1).endOps c).pdu c 6 0).dropSegments c)

/-- FIN_ACK_TIMEOUT (R287): a FIN not acknowledged within 100 ms is followed by RST. -/
def execFinAckTimeout (conn : Fin 4096) (s : State) : Host.Outcome State Fault Refusal :=
  if s.runs .sto && s.sto.finWait.contains conn.val then
    .next ({ s with sto := { s.sto with finWait := s.sto.finWait.filter (fun x => x ≠ conn.val) } }.pdu conn.val 6 0)
  else .next s

/-- TCP_RETRANSMIT_TIMEOUT (R280, R283, R287): the segment is sent again, or the connection fails with TCP_TIMEOUT. -/
def execTcpRetransmitTimeout (conn : Fin 4096) (s : State) : Host.Outcome State Fault Refusal :=
  let c := conn.val
  let n := Sparse.get 0 s.sto.retry c
  if !s.connLive c then .next s
  else if byteAt (s.conn c) 70 ≤ n then .next (s.failConn c 2 0)
  else
    let t := { s with sto := { s.sto with retry := Sparse.put s.sto.retry c (n + 1) } }
    .next ((t.connPut c 84 4 (leAt (s.conn c) 84 4 + 1)).pdu c 8 0)

/-- Process the held segments that now stand in sequence order (R282). -/
def takeHeld (n : Nat) (c e : Nat) (l : List (Nat × Nat × Nat)) : Nat × List (Nat × Nat × Nat) :=
  match n with
  | 0 => (e, l)
  | n + 1 =>
      match l.find? (fun x => x.1 = c && decide (x.2.1 ≤ e)) with
      | none => (e, l)
      | some x => takeHeld n c (max e (x.2.1 + x.2.2)) (l.filter (fun y => y ≠ x))

/-- TCP_SEGMENT_RX (R282, R281): a segment in order advances its stream; one ahead of it waits in STO cells, or is dropped
where the channel refuses it (R173) or it lies beyond the window of 256 KiB. A wrong header digest or an unaccepted PDU fails the
connection. `seq` counts bytes of the stream since the connection opened. -/
def execTcpSegmentRx (conn : Fin 4096) (seq len : Nat) (pduOk hdrOk : Bool) (s : State) : Host.Outcome State Fault Refusal :=
  let c := conn.val
  if s.runs .sto && s.sto.finWait.contains c && !s.connLive c then
    .next { s with sto := { s.sto with finWait := s.sto.finWait.filter (fun x => x ≠ c) } }
  else if !s.connLive c then .next s
  else
    let e := Sparse.get 0 s.sto.expect c
    if e < seq then
      if e + 262144 < seq + len then .next (s.pdu c 7 0)
      else
        match s.admitPart (.chan 10) (cellsOf len) with
        | none => .next ((s.count .ham 0x78).raise .ham 4)
        | some t => .next ({ t with sto := { t.sto with oos := t.sto.oos ++ [(c, seq, len)] } }.pdu c 7 0)
    else if !hdrOk then .next (s.failConn c 5 3)
    else if !pduOk then .next (s.failConn c 6 2)
    else
      let r := takeHeld s.sto.oos.length c (max e (seq + len)) s.sto.oos
      let freed := ((s.sto.oos.filter (fun x => !r.2.contains x)).map (fun x => cellsOf x.2.2)).sum
      let t := s.giveBack (.chan 10) freed
      .next ({ t with sto := { t.sto with expect := Sparse.set 0 t.sto.expect c r.1, oos := r.2,
                                          retry := Sparse.del t.sto.retry c } }.pdu c 7 0)

/-- RST_RX (R287): TCP_REFUSED during the handshake, else PEER_RESET. -/
def execRstRx (conn : Fin 4096) (s : State) : Host.Outcome State Fault Refusal :=
  if !s.connLive conn.val then .next s
  else .next (s.failConn conn.val (if connState (s.conn conn.val) = 2 then 1 else 8) 0)

/-- FIN_RX (R287): PEER_CLOSED. -/
def execFinRx (conn : Fin 4096) (s : State) : Host.Outcome State Fault Refusal :=
  if s.connLive conn.val then .next (s.failConn conn.val 9 0) else .next s

/-- C2HTERMREQ_RX (R287): TARGET_TERM, its fatal error status recorded. -/
def execC2htermreqRx (conn : Fin 4096) (fes : BitVec 8) (s : State) : Host.Outcome State Fault Refusal :=
  if s.connLive conn.val then .next ((s.connPut conn.val 79 1 fes.toNat).failConn conn.val 7 0) else .next s

/-! ## Operations -/

/-- CONN, DIR and RESP of a STOCMD (R290). -/
def Item.conn (i : Item) : Nat := leAt i.extra 0 2
/-- DIR. -/
def Item.dir (i : Item) : Nat := byteAt i.extra 2 % 4
/-- RESP. -/
def Item.resp (i : Item) : Nat := leAt i.extra 4 8

/-- Is a run a well-formed operation (R290)? -/
def stoFormed (run : List Item) : Bool :=
  match run with
  | [] => false
  | i :: r =>
      decide (i.kind = 12) && decide (i.len = 64) && decide (i.opcode = 0) && decide (i.dir ≠ 3) && decide (i.resp % 16 = 0) &&
        decide (r.length ≤ 31) && r.all (fun j => j.kind = 13 && decide (j.opcode = 0) && decide (1 ≤ j.len) && decide (j.len ≤ 2097152))

/-- Why an operation fails before it starts: its status and RESULT, the first in this order (R138, R276, R293). -/
def State.stoFault (s : State) (f : Nat) (run : List Item) : Option (Nat × Nat) :=
  match run with
  | [] => none
  | i :: r =>
      let b := s.conn i.conn
      if run.any (fun j => j.kind ≠ 12 && decide (j.kind ≠ 13)) then some (4, 0)
      else if !stoFormed run then some (7, 7)
      else if 2097152 < lenOf r ∨ (i.dir = 0 ∧ r ≠ []) then some (7, 0x14)
      else if 4096 ≤ i.conn ∨ !nbit (byteAt b 1) 0 ∨ connState b = 0 then some (7, 0x10)
      else if connBound b ≠ some f then some (7, 5)
      else if connState b ≠ 3 then some (7, 0x11) else none

/-- Operations of a connection whose cells were asked for and whose capsule is not yet sent. -/
def State.stoBegun (s : State) (c : Nat) : Nat :=
  ((s.queues.wq.filter (fun e => e.2.kind = 3)).map (fun e =>
    (e.2.items.filter (fun i => i.kind = 12 && decide (i.part ≠ 0) && !i.busy && i.fin.isNone && decide (i.conn = c))).length)).sum

/-- May an operation start, as far as its connection's MAXCMD goes (R293)? One that fails its checks ends at once. -/
def State.stoReady (s : State) (f : Nat) (run : List Item) : Bool :=
  (s.stoFault f run).isSome ||
    (match run with
     | [] => false
     | i :: _ => decide (i.part ≠ 0) || decide ((s.openOps i.conn).length + s.stoBegun i.conn < leAt (s.conn i.conn) 62 2))

/-- The lowest command identifier that no open operation of a connection uses (R291, log entry 33). -/
def freeCid (n : Nat) (used : List Nat) (k : Nat) : Nat :=
  match n with
  | 0 => k
  | n + 1 => if used.contains k then freeCid n used (k + 1) else k

/-- The SQE as sent (R291): STO's command identifier, an SGL Data Block of the data length, in-capsule where `inCap`. -/
def sentSqe (sqe : List Byte) (cid total : Nat) (inCap : Bool) : List Byte :=
  let psdt := BitVec.ofNat 8 (byteAt sqe 1 % 64 + 64)
  slice sqe 0 1 ++ [psdt] ++ leBytes 2 cid ++ slice sqe 4 20 ++ List.replicate 8 0 ++ leBytes 4 total ++
    [0, 0, 0, if inCap then 0x01 else 0x5A] ++ slice sqe 40 24

/-- The capsule of an operation is sent and the operation is open (R291). -/
def State.sendCapsule (s : State) (f q : Nat) (w : WqSt) (run : List Item) (i e : Item) (sqe : List Byte) (inCap : Bool) : State :=
  let id := freeCid 1025 ((s.openOps i.conn).map (·.id)) 0
  let total := lenOf (run.drop 1)
  let o : StoOp := { id := id, conn := i.conn, f := f, q := q, last := e.idx, dir := i.dir, total := total, resp := i.resp,
                     bufs := (run.drop 1).map (fun j => (j.addr, j.len)), cid := leAt sqe 2 2, bytes := 0, digest := false, work := [] }
  let t := (s.setWq f q (some (w.start run))).emit (.pdu i.conn 2 (if inCap then total else 0) (sentSqe sqe id total inCap))
  { t with sto := { t.sto with ops := t.sto.ops ++ [o] } }.showOps i.conn

/-- Do the write data of an operation go in its capsule (R291)? -/
def State.inCapsule (s : State) (i : Item) (total : Nat) : Bool :=
  i.dir = 2 && decide (0 < total) && decide (total ≤ leAt (s.conn i.conn) 64 2)

/-- The host buffers whose contents the start of an operation reads: its submission queue entry, and in-capsule write data. -/
def State.stoReads (s : State) (i : Item) (r : List Item) : List (Nat × Nat) :=
  (i.addr, 64) :: (if s.inCapsule i (lenOf r) then bufsOf r else [])

/-- STO_OP_START (R290, R291, R293): the next operation whose connection has fewer than MAXCMD commands open starts: the cells of
what it reads are asked for (R175), and once the reads have ended its capsule is sent; `sqe` is the submission queue entry the host
supplied. -/
def execStoOpStart (f : Fin 1024) (q : Fin 256) (sqe : List Byte) (s : State) : Host.Outcome State Fault Refusal :=
  match s.wq f.val q.val with
  | none => .next s
  | some w =>
      if w.kind ≠ 3 || !s.funcReports f.val || !s.runs .sto then .next s
      else
        match w.nextRun (s.stoReady f.val) with
        | some (i :: r) =>
            match lastOf (i :: r) with
            | none => .next s
            | some e =>
                let starts := s.funcRuns f.val && s.admitsWork .sto
                match s.stoFault f.val (i :: r), s.grantOf f.val q.val e.idx with
                | some x, _ =>
                    .next (if starts || decide (e.part ≠ 0) then
                        ((s.endBurstsAt f.val q.val e.idx).finishRun f.val q.val e.idx x.1 x.2).count .sto 0x100
                      else s)
                | none, none => .next (if starts then s.askBurst f.val q.val e.idx 1 w (i :: r) (s.stoReads i r) else s)
                | none, some b =>
                    if !s.burstRead b || sqe.length ≠ 64 then .next s
                    else .next ((s.endBurst b).sendCapsule f.val q.val w (i :: r) i e sqe (s.inCapsule i (lenOf r)))
        | _ => .next s

/-- The open operation of a connection with a command identifier. -/
def State.stoOp (s : State) (c id : Nat) : Option StoOp := (s.openOps c).find? (fun o => o.id = id)

/-- Change an open operation. -/
def State.setOp (s : State) (o : StoOp) : State :=
  { s with sto := { s.sto with ops := s.sto.ops.map (fun x => if x.id = o.id && x.conn = o.conn then o else x) } }

/-- Write bytes at offset `off` of an operation's data stream into its host buffers. -/
def State.place (s : State) (f off : Nat) (b : List Byte) (bufs : List (Nat × Nat)) : State :=
  match bufs with
  | [] => s
  | (a, n) :: r =>
      if n ≤ off then s.place f (off - n) b r
      else
        let k := min (n - off) b.length
        if k = 0 then s else (s.dmaWrite f (a + off) (b.take k)).place f 0 (b.drop k) r

/-- Does STO still place data and read buffers for a function (R296 step 1, R297)? -/
def State.stoServes (s : State) (f : Nat) : Bool := s.funcReports f

/-- Complete an operation with a CQE written to RESP (R292). -/
def State.stoOk (s : State) (o : StoOp) (cqe : List Byte) : State :=
  if o.digest then s.endOp o 7 0x13
  else (s.dmaWrite o.f o.resp (splice (slice cqe 0 16) 12 (leBytes 2 o.cid))).endOp o 0 o.total

/-- The CQE that stands for C2HData with SUCCESS: status 0, the last SQHD (R292). -/
def successCqe (sqhd : Nat) : List Byte := List.replicate 8 0 ++ leBytes 2 sqhd ++ List.replicate 6 0

/-- C2HDATA_RX (R294, R295, R292): data of a command is placed at its offset; a wrong data digest at the end of a PDU spoils
the operation; `lastOk` is the last C2HData with SUCCESS. -/
def execC2hdataRx (conn : Fin 4096) (cid off : Nat) (data : List Byte) (pduEnd digestOk lastOk : Bool) (s : State) :
    Host.Outcome State Fault Refusal :=
  let c := conn.val
  if !s.connLive c then .next s
  else
    match s.stoOp c cid with
    | none => .next (s.failConn c 6 2)
    | some o =>
        if o.dir ≠ 1 then .next (s.failConn c 6 2)
        else if o.total < off + data.length then .next (s.failConn c 6 4)
        else if !s.stoServes o.f then .next (s.add .sto 0x10C 31 0 data.length)
        else
          let s1 := if o.digest then s else (s.place o.f off data o.bufs).setOp { o with bytes := o.bytes + data.length }
          let bad := pduEnd && !digestOk && nbit (byteAt (s.conn c) 77) 1 && !o.digest
          let s2 := if bad then
              (((s1.setOp { o with bytes := o.bytes + data.length, digest := true }).connPut c 88 4 (leAt (s1.conn c) 88 4 + 1)).count
                .sto 0x104).raise .sto 2
            else s1
          if pduEnd && lastOk then
            (match s2.stoOp c cid with
             | some o2 => .next (s2.stoOk o2 (successCqe (Sparse.get 0 s2.sto.sqhd c)))
             | none => .next s2)
          else .next s2

/-- CAPSULERESP_RX (R292): the CQE goes to RESP with the driver's command identifier restored, and the operation ends; one
for no open command is out of sequence (R281). -/
def execCapsulerespRx (conn : Fin 4096) (cid : Nat) (cqe : List Byte) (s : State) : Host.Outcome State Fault Refusal :=
  let c := conn.val
  if !s.connLive c then .next s
  else
    match s.stoOp c cid with
    | none => .next (s.failConn c 6 2)
    | some o =>
        if !s.stoServes o.f then .next s
        else
          let t := { s with sto := { s.sto with sqhd := Sparse.set 0 s.sto.sqhd c (leAt cqe 8 2) } }
          .next (t.stoOk o cqe)

/-- STO_CMD_TIMEOUT (R289): an operation open for TIMEOUT_S seconds fails its connection. -/
def execStoCmdTimeout (conn : Fin 4096) (cid : Nat) (s : State) : Host.Outcome State Fault Refusal :=
  if s.connLive conn.val && (s.stoOp conn.val cid).isSome && decide (leAt (s.conn conn.val) 66 2 ≠ 0) then
    .next (s.failConn conn.val 10 0)
  else .next s

/-- Lengths of the PDUs that carry n bytes in pieces of at most mx. -/
def h2cParts (fuel mx n : Nat) : List Nat :=
  match fuel with
  | 0 => []
  | fuel + 1 => if n = 0 then [] else min n mx :: h2cParts fuel mx (n - min n mx)

/-- The host buffers of n bytes at offset `off` of an operation's data stream. -/
def bufSlice (off n : Nat) (bufs : List (Nat × Nat)) : List (Nat × Nat) :=
  match bufs with
  | [] => []
  | (a, m) :: r =>
      if m ≤ off then bufSlice (off - m) n r
      else
        let k := min (m - off) n
        if k = 0 then [] else (a + off, k) :: bufSlice 0 (n - k) r

/-- Bytes of the next burst of an operation's R2T work (R168). -/
def burstLen (n : Nat) : Nat := min n 16384

/-- Ask for the cells of the next burst that an operation's R2Ts need, one burst at a time (R175, R291). -/
def State.serveR2t (s : State) (o : StoOp) : State :=
  match o.work with
  | [] => s
  | (off, n) :: _ => s.requestBurst o.f o.q o.last 3 (bufSlice off (burstLen n) o.bufs) (some (o.conn, o.id))

/-- The data of a burst that serves an R2T are read: they are sent in H2CData PDUs of at most MAXH2CDATA bytes, its cells return, and
the next burst asks for its own (R172, R291). -/
def State.sendR2t (s : State) (b : Burst) : State :=
  match b.op with
  | none => s
  | some (c, id) =>
      let t := s.endBurst b
      match t.stoOp c id with
      | none => t
      | some o =>
          match o.work with
          | [] => t
          | (off, n) :: r =>
              let k := burstLen n
              let o1 := { o with work := if n ≤ k then r else (off + k, n - k) :: r }
              ((h2cParts k (leAt (t.conn c) 72 4) k).foldl (fun u m => u.pdu c 3 m) (t.setOp o1)).serveR2t o1

/-- PDU_R2T_RX (R291, R287): the data asked for are read in bursts of at most 16,384 bytes, each with its cells first (R168, R175), and
sent in H2CData PDUs; an R2T beyond the data length, or of no write, fails the connection. -/
def execPduR2tRx (conn : Fin 4096) (cid off len : Nat) (s : State) : Host.Outcome State Fault Refusal :=
  let c := conn.val
  if !s.connLive c then .next s
  else
    match s.stoOp c cid with
    | none => .next (s.failConn c 6 2)
    | some o =>
        if o.dir ≠ 2 then .next (s.failConn c 6 2)
        else if o.total < off + len then .next (s.failConn c 6 4)
        else if !s.funcRuns o.f || len = 0 then .next s
        else
          let o1 := { o with work := o.work ++ [(off, len)] }
          .next ((s.setOp o1).serveR2t o1)

/-! ## The burst request of R175 -/

/-- The buffers that the next burst of a run reads, where the run passes its checks: those of a frame, of an operation's burst after
the ones already asked for, of a storage operation's start. -/
def State.runReads (s : State) (f kind : Nat) (run : List Item) : Option (List (Nat × Nat)) :=
  match run, lastOf run with
  | i :: r, some e =>
      if e.part ≠ 0 then none
      else if kind = 0 then (if (txFault run).isSome then none else some (bufsOf run))
      else if kind = 2 then
        (if (i.opcode = 1 || i.opcode = 2) && s.admitsWork .cry && (s.cryFault f i.opcode run).isNone then (burstsOf (cryReads i.opcode run)).head? else none)
      else if kind = 3 && s.admitsWork .sto && (s.stoFault f run).isNone && s.stoReady f run then some (s.stoReads i r)
      else none
  | _, _ => none

/-- HAM_BURST_REQUEST (R175): the burst of the frame or operation whose EOP descriptor is idx asks its channel for all its cells, whose
number is what its reads take; a refused one waits. One that waits already is evaluated again with the others, oldest first (R171). -/
def execHamBurstRequest (f : Fin 1024) (q : Fin 256) (idx cells : Nat) (s : State) : Host.Outcome State Fault Refusal :=
  match s.wq f.val q.val with
  | none => .next s
  | some w =>
      if !s.funcRuns f.val then .next s
      else if (s.burstOf f.val q.val idx).isSome then .next s.pumpBursts
      else
        match w.runAt idx with
        | none => .next s
        | some run =>
            match s.runReads f.val w.kind run with
            | none => .next s
            | some bufs => if cells = bufCells bufs then .next (s.askBurst f.val q.val idx 1 w run bufs) else .next s

/-! ## Abort (R296, R297) -/

/-- End the open operations that satisfy p with ABORTED_POWER; their connections fail with ABORTED (R297). -/
def State.abortOps (s : State) (p : StoOp → Bool) : State :=
  let l := s.sto.ops.filter p
  let t := l.foldl (fun t o => t.endOp o 2 (if o.dir = 1 then o.bytes else 0)) s
  (l.map (·.conn)).eraseDups.foldl (fun t c => if t.connLive c then t.failConn c 11 0 else t) t

/-- Close with RST and delete the connections bound to function f, their operations ending without entries (R296). -/
def State.dropConns (s : State) (f : Nat) : State :=
  let l := (s.sto.ctx.filter (fun e => decide (connBound e.2 = some f) && decide (connState e.2 ≠ 0))).map (·.1)
  let t := { s with sto := { s.sto with ops := s.sto.ops.filter (fun o => decide (o.f ≠ f) && !l.contains o.conn) } }
  l.foldl (fun t c => ((if t.connLive c then t.pdu c 6 0 else t).dropSegments c).setConn c (List.replicate 128 0)) t

end Sys2Proof.Machine
end

