-- ==== Sys2Proof/Machine/Drain.lean ====
section
/-!
DEFINITION. Machine/Drain.lean: the drain-and-abort rule (R363), the release of a function's resources (R124), the check of
its pending assignment (R119), and what a reset of an island clears (R85, R471).
-/
namespace Sys2Proof.Machine

open Sys2Proof

/-! ## Ending work -/

/-- Count items that the drain-and-abort rule ended, and raise DRAIN_ABORT for them (R363, R461). -/
def State.aborted (s : State) (n : Nat) : State := if n = 0 then s else (s.add .isl 0x5C 31 0 n).raise .isl 3

/-- Work items of a queue in flight. -/
def WqSt.inFlight (w : WqSt) : Nat := (w.items.filter (fun i => i.fin.isNone)).length

/-- The last fetched descriptor of a frame or operation whose EOP descriptor is not fetched closes it (R363). -/
def closeRuns (tx : Bool) (l : List Item) : List Item :=
  match l with
  | [] => []
  | i :: r =>
      let ends := if tx then r.all (fun j => j.kind = 31) else (match r with | [] => true | j :: _ => j.kind = 31)
      (if i.kind ≠ 31 && !i.eop && i.fin.isNone && ends then { i with eop := true } else i) :: closeRuns tx r

/-- Does the last frame or operation of a queue lack its EOP descriptor? -/
def openRun (tx : Bool) (l : List Item) : Bool :=
  match (if tx then l.filter (fun i => i.kind ≠ 31) else l).getLast? with
  | some i => i.kind ≠ 31 && !i.eop && i.fin.isNone
  | none => false

/-- End the work of a queue with ABORTED_POWER (R363): the remainder of an open frame is taken later. -/
def WqSt.abort (w : WqSt) : WqSt :=
  let tx := decide (w.kind = 0)
  let l := if w.kind = 1 then w.items.map (fun (i : Item) => if i.fin.isNone then { i with eop := true } else i) else closeRuns tx w.items
  { w with items := l.map (fun i => if i.fin.isNone then i.done 2 0 else i), reading := none,
           aborting := w.aborting || (decide (w.kind ≠ 1) && openRun tx w.items) }

/-- The queues of function f. -/
def State.queuesOf (s : State) (f : Nat) : Sparse WqSt := s.queues.wq.filter (fun e => e.1 / 256 = f)

/-- Discard the host reads of the functions p; a completion that still comes is unexpected (R124). -/
def State.dropReads (s : State) (p : Nat → Bool) : State := s.discardReads (fun r => p r.f && !r.failed)

/-- End the bursts of the functions p, waiting or granted (R177). -/
def State.dropBursts (s : State) (p : Nat → Bool) : State :=
  ((s.ham.granted ++ s.ham.bursts).filter (fun b => p b.f)).foldl State.endBurst s

/-- Frames that functions p sent are no longer reported to their queues (R363): no descriptor has index 65,536. -/
def State.forget (s : State) (p : Nat → Bool) : State :=
  s.mapFrames (fun x => x.func && p x.src) (fun x => { x with last := 65536 })

/-- Drop the frames queued to receive queues of function f; `counted` in FUNC_RX_DISCARD (R19, R107). -/
def State.dropRx (s : State) (f : Nat) (counted : Bool) : State :=
  (s.frames.filter (fun x => match x.loc with | .rxq g _ => decide (g = f) | _ => false)).foldl (fun t x =>
    match t.frame x.id with
    | some y => t.dropStaged f counted y
    | none => t) s

/-- Drop the frames queued to every receive queue, counted: the host link is lost (R19). -/
def State.dropAllRx (s : State) : State :=
  s.frames.foldl (fun t x => match x.loc with | .rxq f _ => t.onFrame x.id (fun u y => u.dropStaged f true y) | _ => t) s

/-- End the work of function f (R107, R124, R363). -/
def State.abortFunc (s : State) (f : Nat) : State :=
  let n := ((s.queuesOf f).map (fun e => e.2.inFlight)).sum
  let s1 := s.abortOps (fun o => o.f = f)
  let s2 := { s1 with queues := { s1.queues with wq := s1.queues.wq.map (fun (e : Nat × WqSt) => if e.1 / 256 = f then (e.1, e.2.abort) else e) } }
  ((((s2.dropBursts (fun g => g = f)).dropReads (fun g => g = f)).forget (fun g => g = f))).aborted n

/-- End a frame that an island leaving its service holds: its work items end with ABORTED_POWER and count, or it counts itself
(R363). -/
def State.abortFrame (s : State) (x : Frame) : State :=
  let n := if x.func then (match s.wq x.src x.wq with | some w => (txRun x.last [] w.items).length | none => 0) else 1
  (s.endFrame x .power).aborted (max 1 n)

/-- End the frames that satisfy p. -/
def State.abortFrames (s : State) (p : Frame → Bool) : State :=
  (s.frames.filter p).foldl (fun t x => match t.frame x.id with | some y => t.abortFrame y | none => t) s

/-! ## Function reset -/

/-- Do two ranges of queues overlap? -/
def ranges (a n b m : Nat) : Bool := decide (0 < n) && decide (0 < m) && decide (a < b + m) && decide (b < a + n)

/-- Is a range free of the ranges in force of every other function? -/
def State.rangeFree (s : State) (f b n : Nat) (base count : Assign → Nat) : Bool :=
  let others := (if (Sparse.find s.funcs 0).isSome then [] else [(0, Func.reset 0)]) ++ s.funcs
  !others.any (fun e => decide (e.1 ≠ f) && ranges b n (base e.2.asg) (count e.2.asg))

/-- Vectors of all VFs but f (R104): an untouched VF has 4. -/
def State.vfVectors (s : State) (f : Nat) : Nat :=
  let l := s.funcs.filter (fun e => decide (4 ≤ e.1) && decide (e.1 ≠ f))
  (l.map (fun e => e.2.asg.vectors)).sum + 4 * (1020 - l.length - (if 4 ≤ f then 1 else 0))

/-- Take the pending assignment of function f into force, each resource by its own check (R118, R119); REJECT shows what was
refused, whose pending registers return to the value in force. The Hamper share is checked with the work-queue range newly accepted, and a
range with which even the share in force would break the sum is refused as well (DESIGN CHOICE, log entry 106). -/
def State.applyAssign (s : State) (f : Nat) : State :=
  let p := funcPage f
  let a := s.pendingAssign f
  let old := (s.func f).asg
  let wqOk := decide (a.wqCount ≤ 256) && decide (a.wqBase + a.wqCount ≤ 32768) && s.rangeFree f a.wqBase a.wqCount (·.wqBase) (·.wqCount)
  let cqOk := decide (a.cqCount ≤ 256) && decide (a.cqBase + a.cqCount ≤ 8192) && s.rangeFree f a.cqBase a.cqCount (·.cqBase) (·.cqCount)
  let vOk := decide (f < 4) || (decide (1 ≤ a.vectors) && decide (a.vectors ≤ 32) && decide (s.vfVectors f + a.vectors ≤ 4608))
  let a1 := { a with wqBase := if wqOk then a.wqBase else old.wqBase, wqCount := if wqOk then a.wqCount else old.wqCount,
                     cqBase := if cqOk then a.cqBase else old.cqBase, cqCount := if cqOk then a.cqCount else old.cqCount,
                     vectors := if vOk then a.vectors else old.vectors }
  let fits (x : Assign) : Bool := (s.setFunc f { s.func f with asg := x }).minsFit
  let hOk := decide (a.hamMin ≤ a.hamCap) && fits a1
  let a2 := if hOk then a1 else { a1 with hamMin := old.hamMin, hamCap := old.hamCap }
  let rOk := wqOk && fits a2
  let a3 := if rOk then a2 else { a2 with wqBase := old.wqBase, wqCount := old.wqCount }
  let s1 := s.setFunc f { s.func f with asg := a3 }
  let s2 := if rOk then s1 else (s1.setField p 0x40 14 0 old.wqBase).setField p 0x40 24 16 old.wqCount
  let s3 := if cqOk then s2 else (s2.setField p 0x44 12 0 old.cqBase).setField p 0x44 24 16 old.cqCount
  let s4 := if vOk then s3 else s3.setField p 0x48 11 0 old.vectors
  let s5 := if hOk then s4 else (s4.setField p 0x4C 15 0 old.hamMin).setField p 0x4C 31 16 old.hamCap
  let rej := (!(rOk && cqOk)).toNat + (!vOk).toNat * 2 + (!hOk).toNat * 4
  (s5.setField p 0x5C 7 4 rej).raiseIf (decide (rej ≠ 0)) p 2

/-- Delete the entries, associations, tunnel contexts and storage connections whose binding satisfies p (R85, R124). -/
def State.clearBound (s : State) (p : Nat → Bool) : State :=
  let hit (b : Option Nat) : Bool := match b with | some f => p f | none => false
  let s1 := [0, 1, 2, 3].foldl (fun t k =>
    ((t.tbl.entries k).filter (fun e => validEntry k e.2 && hit (boundTo k e.2))).foldl (fun u e => u.clearEntry k e.1) t) s
  let s2 := { s1 with tun := { s1.tun with enc := s1.tun.enc.filter (fun r => !(encValid r.2 && hit (encBound r.2))) } }
  let fs := (s2.sto.ctx.filterMap (fun e => connBound e.2)).filter p
  fs.eraseDups.foldl State.dropConns s2

/-- Registers of a FUNC page that a function reset returns to their reset values: the staging of R162 (R125, R129). -/
def stagingWord (w : Nat) : Bool := decide (0x40 ≤ w) && decide (w ≤ 0x46)

/-- Registers of a mailbox page that a function reset clears: flags and buffers (R370). -/
def mailWord (w : Nat) : Bool := decide (w = 0x10) || (decide (0x20 ≤ w) && decide (w < 0x60))

/-- Configuration space after a Function Level Reset: what the base specification keeps is kept (log entry 9). -/
def FCfg.afterFlr (c : FCfg) : FCfg :=
  { FCfg.reset with maxPayload := c.maxPayload, aspmL1 := c.aspmL1, l11 := c.l11, l12 := c.l12, ltrEnable := c.ltrEnable }

/-- Step 3 of R124: everything function f holds is given back; no entry is written. -/
def State.releaseFunc (s : State) (f : Nat) : State :=
  let own (x : Frame) : Bool := match x.part with | .chan c => decide (c / 4 = 64 + f) | _ => false
  let s1 := (s.abortFunc f).dropRx f false
  let s2 := (s1.frames.filter own).foldl (fun t x => match t.frame x.id with | some y => t.endFrame y (.drop 7) | none => t) s1
  let s3 := { s2 with
    queues := { s2.queues with wq := Sparse.keep (fun k => decide (k / 256 ≠ f)) s2.queues.wq, cq := Sparse.keep (fun k => decide (k / 256 ≠ f)) s2.queues.cq },
    host := { s2.host with msix := Sparse.keep (fun k => decide (k / 2048 ≠ f)) s2.host.msix,
                           pba := s2.host.pba.filter (fun k => decide (k / 2048 ≠ f)) },
    regs := Sparse.keep (fun k => !(decide (k / 1024 = 0x1000 + f) && stagingWord (k % 1024)) &&
                                  !(decide (k / 1024 = 0x1400 + f) && mailWord (k % 1024))) s2.regs }
  (s3.unlockBy (fun m => m = Master.ofFunc (Fin.ofNat 1024 f))).clearBound (fun g => g = f)

/-- Steps 2 to 4 of R124 for one function: released, its assignment applied, the reset counted; RESET_DONE unless a host link
reset brought it (R471). -/
def State.endReset (s : State) (f : Nat) : State :=
  let x := s.func f
  let s1 := s.releaseFunc f
  let s2 := s1.setFunc f { s1.func f with inReset := false, by123 := false, dstate := .d0, cfg := x.cfg.afterFlr, timedOut := false,
                                          aerTimeout := false }
  ((s2.applyAssign f).addSat (funcPage f) 0x5C 31 24 1).raiseIf x.by123 (funcPage f) 0

/-! ## What a reset of an island clears -/

/-- The pages of an island back at their reset values. -/
def State.clearIslandPages (s : State) (i : Island) : State :=
  let on (c : Nat) : Bool :=
    if 0x1000 ≤ c then i = .host else match Page.ofIndex c with | some p => decide (p.island = i) | none => false
  s.clearPages on

/-- A port after its island was cleared. -/
def State.clearPort (s : State) (p : Nat) : State :=
  let g := s.gate p
  { s with ports := Sparse.del s.ports p }.setGate p
    { GateSt.reset with safOn := g.safOn, saf := g.saf, safPend := g.safPend, safArmed := g.safArmed, safPeg := g.safPeg }

/-- HOST cleared at once (R471): every page but HLNK_WAKE, functions, queues, vectors, reads; the link is down, where a wake that stands
asserts WAKE# (R113). -/
def State.clearHost (s : State) : State :=
  let wake := s.reg .hlnk 0x4C
  let s1 := (s.clearIslandPages .host).setReg .hlnk 0x4C wake
  let s2 := ((s1.dropBursts (fun _ => true)).dropReads (fun _ => true)).forget (fun _ => true)
  let s3 := (s2.frames.filter (fun x => match x.part with | .chan c => decide (256 ≤ c) | _ => false)).foldl (fun t x =>
    match t.frame x.id with | some y => (match y.loc with | .rxq f _ => t.dropStaged f false y | _ => t.endFrame y (.drop 7)) | none => t) s2
  let s4 := { s3 with funcs := [], queues := { wq := [], cq := [], lastF := 1023, lastQ := [] },
                      host := { s3.host with link := .down, lastGen := 0, lastW := 0, msix := [], pba := [], ltrBusy := none } }
  [0, 1, 2, 3].foldl State.actPme s4

/-- What a cluster holds is cleared. -/
def State.clearCluster (s : State) (c : Nat) : State :=
  let n := s.nyate
  let t := s.closeReads (fun r => decide (r.use = .program c))
  { t with nyate := { threads := Sparse.keep (fun k => decide (k / 128 ≠ c)) n.threads, clusters := Sparse.del n.clusters c,
                      imem := Sparse.keep (fun k => decide (k / 262144 ≠ c)) n.imem,
                      dmem := Sparse.keep (fun k => decide (k / 524288 ≠ c)) n.dmem,
                      treqs := n.treqs.filter (fun r => decide (r.c ≠ c)), loads := n.loads.filter (fun x => decide (x ≠ c)),
                      bodies := n.bodies.filter (fun x => decide (x ≠ c)) } }

/-- FAB cleared: the Hamper but for what serves SAF, and PTP time (R85). -/
def State.clearFab (s : State) : State :=
  let keep := s.frames.filter (fun x => x.part = .safety)
  let t := s.closeReads (fun r => match r.use with | .burst _ => true | _ => false)
  { t with frames := keep, ptp := { time := 0, latch := 0, fifo := [], dropped := 0, frac := 0 },
           ham := { held := [], saf := s.ham.saf, ring := 0, mgt := 0, bursts := [], granted := [] } }

/-- The locks an island cold reset releases on other pages (R40): of an NYC island those of its supervisor, of HOST, as a host link
reset, those of masters 1 to 5. -/
def State.islandLocks (s : State) (i : Island) : State :=
  match i with
  | .nyc c => s.unlockBy (fun m => decide (m = Master.nyate c))
  | .host => s.unlockBy (fun m => decide (1 ≤ m.num) && decide (m.num ≤ 5))
  | _ => s

/-- The ports p and p + 1 lose their links with their island: entries learned on one that was up are flushed (R237). -/
def State.linksGone (s : State) (p : Nat) : State :=
  [p, p + 1].foldl (fun t q => if s.linkUp q then t.flushPort q else t) s

/-- The content of an island is lost: its pages, and what it holds beside them (R85). -/
def State.clearIsland (s : State) (i : Island) : State :=
  let s1 := match i with
    | .host => s.clearHost
    | .prg => (s.linksGone 0).clearIslandPages i
    | .pup => (s.linksGone 2).clearIslandPages i
    | _ => s.clearIslandPages i
  match i with
  | .host => s1
  | .fab => s1.clearFab
  | .prg => { (s1.clearPort 0).clearPort 1 with ring := { s1.ring with dd := [], opened := [], suspended := false } }
  | .pup => { (s1.clearPort 2).clearPort 3 with ring := { s1.ring with ddPrp := [], prpSeq := 0 } }
  | .nyc c => s1.clearCluster c.val
  | .cry => { s1 with cry := { slots := [], live := [], key := List.replicate 8 0, salt := List.replicate 3 0, result := 0, notes := [] } }
  | .tun => { s1 with tun := { enc := [] } }
  | .sto =>
      let t := s1.giveBack (.chan 10) ((s1.sto.oos.map (fun x => cellsOf x.2.2)).sum)
      { t with sto := { ctx := [], ops := [], sqhd := [], expect := [], oos := [], retry := [], finWait := [] } }
  | .tbl =>
      let t := s1.closeReads (fun r => r.use = .table || r.use = .shadow)
      { t with tbl := { mac := [], flow := [], tun := [], sa := [], lock := [none, none, none, none], cmd := none, dma := none,
                         dTab := 0, dIdx := [0, 0, 0], check := none, asked := false, repLap := true, bad := [], turns := [7, 7, 7, 7] } }
  | .mgt | .saf => s1

/-- Has the work of an item begun and not ended? -/
def Item.inHand (i : Item) : Bool := i.started && i.fin.isNone

/-- End the operations in hand of the queues of one kind with ABORTED_POWER (R363), and their bursts; one that has read nothing ends with
RESULT 0 too (R177). -/
def State.abortKind (s : State) (kind : Nat) : State :=
  let mine (e : Nat × WqSt) : Bool := decide (e.2.kind = kind)
  let n := ((s.queues.wq.filter mine).map (fun e => (e.2.items.filter Item.inHand).length)).sum
  let t := ((s.ham.granted ++ s.ham.bursts).filter (fun b => decide (burstClass kind = some b.cls))).foldl State.endBurst s
  let u := { t with queues := { t.queues with wq := t.queues.wq.map (fun (e : Nat × WqSt) =>
      if mine e then (e.1, { e.2 with items := e.2.items.map (fun (j : Item) => if j.inHand then j.done 2 0 else j) }) else e) } }
  u.aborted n

/-- The work an island holds is ended before it leaves its service (R363). STO's operations follow R297. -/
def State.abortIsland (s : State) (i : Island) : State :=
  let s1 := s.abortFrames (fun x => x.inside i)
  match i with
  | .sto =>
      let n := ((s1.queues.wq.filter (fun e => e.2.kind = 3)).map (fun e => (e.2.items.filter (fun j => j.busy && j.fin.isNone)).length)).sum
      ((s1.abortOps (fun _ => true)).aborted n).abortKind 3
  | .host =>
      let fs := (s1.queues.wq.map (fun e => e.1 / 256)).eraseDups
      fs.foldl State.abortFunc s1
  | .cry => s1.abortKind 2
  | _ => s1

end Sys2Proof.Machine
end

