-- ==== Sys2Proof/Machine/HostLink.lean ====
section
/-!
DEFINITION. Machine/HostLink.lean: the host link and its resets (R78, R90, R110, R111, R471), configuration space (R91, R102),
device power states (R107, R108), wake (R112, R113), pending messages (R105), function resets (R123, R124) and the progress
watchdog (R127, R128).
-/
namespace Sys2Proof.Machine

open Sys2Proof

/-! ## Wake (R112, R113) -/

/-- PME_STATUS_SET (R112): the command source; a frame classified to a receive queue of a selected PF in D3hot or with the
link down; a message to a selected PF. `k` names the PF of the latter two. -/
def execPmeStatusSet (src : Nat) (k : Fin 4) (s : State) : Host.Outcome State Fault Refusal :=
  let chosen := bitOn (s.reg .hlnk 0x4C) k.val
  if src = 0 then .next (s.wakeHost 0)
  else if src = 1 then
    (if chosen && (decide ((s.func k.val).dstate = .d3) || s.host.lost) then .next (s.wakeHost 1) else .next s)
  else if src = 2 then
    (if chosen && bitOn (s.reg (mbxPage k.val) 0x40) 3 then .next (s.wakeHost 2) else .next s)
  else .next s

/-- PME_RESEND (R113): PME_Status has stayed 1 for 100 ms after its PM_PME; another is sent. -/
def execPmeResend (k : Fin 4) (s : State) : Host.Outcome State Fault Refusal :=
  let x := s.pme k.val
  if x.enable && x.status && x.sent && s.host.up then .next (s.sendPme k.val) else .next s

/-! ## Starting a function reset -/

/-- Start a function reset, or join the one in progress (R123, R126). -/
def State.startReset (s : State) (f : Nat) (by123 : Bool) : State :=
  let x := s.func f
  s.setFunc f { x with inReset := true, by123 := by123 || (x.inReset && x.by123) }

/-- The VFs that VF Enable brings to life. -/
def State.vfs (s : State) : List Nat :=
  let c := (s.func 0).cfg
  if c.vfEnable then (List.range c.numVFs).map (· + 4) else []

/-- A Function Level Reset (R123); that of PF0 clears VF Enable and takes every VF with it (R125). -/
def State.flr (s : State) (f : Nat) : State :=
  if f ≠ 0 then s.startReset f true
  else
    let t := s.vfs.foldl (fun t v => t.startReset v true) s
    let x := t.func 0
    (t.setFunc 0 { x with cfg := { x.cfg with vfEnable := false } }).startReset 0 true

/-- Can the host write the configuration space of function f? -/
def State.cfgThere (s : State) (f : Nat) : Bool := s.barThere f && s.host.ready

/-- The answer to a configuration request before the endpoint is ready (R77). -/
def State.cfgRetry (s : State) : State := if s.host.up && !s.host.ready && s.runs .host then s.emit .retryStatus else s

/-- FUNCTION_LEVEL_RESET (R123): the host issues an FLR to a function. -/
def execFunctionLevelReset (f : Fin 1024) (s : State) : Host.Outcome State Fault Refusal :=
  if s.cfgThere f.val then .next (s.flr f.val) else .next s.cfgRetry

/-- A write of FUNC_RESET (R123): GO by master 1 on the page of a VF. -/
def State.funcResetWrite (s : State) (f : Nat) (m : Master) (v : Word) : State :=
  if bitOn v 0 && decide (m = .pf0) && decide (4 ≤ f) then s.startReset f true else s

/-- FUNC_RESET_DONE (R124, R119): the resets of these functions end in one cycle, in ARI order. Deletions wait while a table's
direct-access bit is held (R242) and come behind the Nyate requests that wait (R241). -/
def execFuncResetDone (fs : List (Fin 1024)) (s : State) : Host.Outcome State Fault Refusal :=
  if s.tbl.lock.any (·.isSome) || [0, 1, 2, 3].any s.treqWaits then .next s
  else
    let l := (List.range 1024).filter (fun f => fs.any (fun x => x.val = f) && (s.func f).inReset)
    .next (l.foldl State.endReset s)

/-! ## Link resets -/

/-- A host link reset (R471): HLNK but HLNK_WAKE, HWIN and WQ cleared, every function in reset, the link down; frames staged for receive
queues are dropped and counted (R19), and a wake that still stands asserts WAKE# (R113). PF0's routing ID stays until the host numbers the bus anew (DESIGN CHOICE, log entry 110). -/
def State.linkReset (s : State) : State :=
  let wake := s.reg .hlnk 0x4C
  let s1 := (s.clearPages (fun c => decide (2 ≤ c) && decide (c ≤ 4))).setReg .hlnk 0x4C wake
  let s2 := s1.unlockBy (fun m => decide (1 ≤ m.num) && decide (m.num ≤ 5))
  let one (f : Nat) : Func :=
    { s2.func f with inReset := true, by123 := (s2.func f).inReset && (s2.func f).by123, cfg := FCfg.reset }
  let s3 := { s2 with funcs := (List.range 1024).map (fun f => (f, one f)),
                      host := { s2.host with link := .down, lastGen := 0, lastW := 0, ltrBusy := none } }
  let s4 := (s3.dropReads (fun _ => true)).dropAllRx.raise .hlnk 1
  [0, 1, 2, 3].foldl State.actPme s4

/-- HOST_LINK_RESET (R78, R80, R471): PERST# asserted while the link is up, a hot reset, or link down. A training that fails leaves the
link down, where a wake that stands asserts WAKE# (R113). -/
def execHostLinkReset (cause : LinkCause) (s : State) : Host.Outcome State Fault Refusal :=
  let t := if cause = .perst then { s with host := { s.host with perst := true } } else s
  if !s.host.lost then .next t.linkReset
  else if s.host.link = .training then .next ([0, 1, 2, 3].foldl State.actPme { t with host := { t.host with link := .down } })
  else .next t

/-- PERST_DEASSERT (R76, R77): PERST# deasserted before UNIT_READY raises PERST_EARLY. -/
def execPerstDeassert (s : State) : Host.Outcome State Fault Refusal :=
  if !s.host.perst then .next s
  else .next ({ s with host := { s.host with perst := false } }.raiseIf (!s.host.ready) .unit 4)

/-- LINK_TRAINING_START (R77, R90, R113): training begins once HOST has started and PERST# is deasserted, from a link that is down or from
one that is up; WAKE# is released. -/
def execLinkTrainingStart (s : State) : Host.Outcome State Fault Refusal :=
  if s.host.perst || s.host.link = .training || !s.runs .host || !s.pwr.started then .next s
  else
    let t := { s with host := { s.host with link := .training } }.add .hlnk 0x40 31 16 1
    if bitOn (s.reg .hlnk 0x4C) 16 then .next ((t.setBit .hlnk 0x4C 16 false).emit (.wake false)) else .next t

/-- LINK_UP (R90, R113): L0 with the data link layer active; a lower generation or width than before raises SPEED_DOWN, and
every PF with PME_Status and PME_En sends its PM_PME. -/
def execLinkUp (gen width : Nat) (s : State) : Host.Outcome State Fault Refusal :=
  if s.host.link ≠ .training then .next s
  else
    let down := decide (s.host.lastGen ≠ 0) && (decide (gen < s.host.lastGen) || decide (width < s.host.lastW))
    let t := { s with host := { s.host with link := .l0, lastGen := gen, lastW := width } }
    let t1 := ((t.setField .hlnk 0x40 3 0 gen).setField .hlnk 0x40 8 4 width).raise .hlnk 0
    .next ([0, 1, 2, 3].foldl State.actPme (t1.raiseIf down .hlnk 2))

/-! ## Configuration space -/

/-- Start the life of the VFs that VF Enable brings (R118): it counts as a reset of each, which takes its pending assignment at once and
counts in RESETS, without RESET_DONE (DESIGN CHOICE, log entry 111). -/
def State.vfEnable (s : State) : State :=
  let x := s.func 0
  if x.cfg.vfEnable || x.cfg.numVFs = 0 then s
  else
    let t := s.setFunc 0 { x with cfg := { x.cfg with vfEnable := true } }
    t.vfs.foldl (fun u v => (u.applyAssign v).addSat (funcPage v) 0x5C 31 24 1) t

/-- VF_ENABLE (R118): the host sets VF Enable. -/
def execVfEnable (s : State) : Host.Outcome State Fault Refusal := if s.cfgThere 0 then .next s.vfEnable else .next s.cfgRetry

/-- The configuration of a function after a write of one field; an unsupported value keeps the previous one (R91), and so does any NumVFs
while VF Enable is 1 (PRESUMED, log entry 112: the SR-IOV specification). -/
def FCfg.write (c : FCfg) (field : CfgField) (v : Nat) : FCfg :=
  let on := decide (v ≠ 0)
  match field with
  | .numVFs => if v ≤ 1020 ∧ !c.vfEnable then { c with numVFs := v } else c
  | .maxPayload => if v ≤ 2 then { c with maxPayload := 128 * 2 ^ v } else c
  | .maxReadReq => if v ≤ 5 then { c with maxReadReq := 128 * 2 ^ v } else c
  | .extTag => { c with extTag := on }
  | .tag10 => { c with tag10 := on }
  | .idoReq => { c with idoReq := on }
  | .idoCpl => { c with idoCpl := on }
  | .cplTimeout => { c with cplTimeout := v }
  | .msixEnable => { c with msixEnable := on }
  | .msixMask => { c with msixMask := on }
  | .aspmL1 => { c with aspmL1 := on }
  | .l11 => { c with l11 := on }
  | .l12 => { c with l12 := on }
  | .ltrEnable => { c with ltrEnable := on }
  | .vfEnable | .pmeEn | .pmeStatusClear | .busNumber => c

/-- Does function f carry the field, by the capability it stands in (R94)? ASPM and the bus number are PF0's alone, for one link. -/
def cfgHas (f : Nat) : CfgField → Bool
  | .numVFs | .vfEnable => hasCap f .srIov
  | .ltrEnable => hasCap f .ltr
  | .l11 | .l12 => hasCap f .l1pm
  | .aspmL1 | .busNumber => f = 0
  | _ => true

/-- CONFIG_WRITE (R91, R102, R105, R106, R109): `v` is the field's encoding. Clearing VF Enable takes every VF into reset. PF0 takes its
bus number from the writes that reach it. PME_En set anew acts by the state of the link (R113). -/
def execConfigWrite (f : Fin 1024) (field : CfgField) (v : Nat) (s : State) : Host.Outcome State Fault Refusal :=
  let k := f.val
  if !s.cfgThere k then .next s.cfgRetry
  else if !cfgHas k field then .next s
  else
    match field with
    | .vfEnable =>
        if v ≠ 0 then .next s.vfEnable
        else
          let t := s.vfs.foldl (fun t w => t.startReset w false) s
          .next (t.setFunc 0 { t.func 0 with cfg := { (t.func 0).cfg with vfEnable := false } })
    | .busNumber => .next { s with host := { s.host with rid := v % 256 * 256 } }
    | .pmeEn =>
        if 4 ≤ k then .next s
        else
          let t := s.setPme k { s.pme k with enable := decide (v ≠ 0) }
          .next (if (s.pme k).enable then t else t.actPme k)
    | .pmeStatusClear => if k < 4 ∧ v ≠ 0 then .next (s.setPme k { s.pme k with status := false, sent := false }) else .next s
    | _ => .next (s.setFunc k { s.func k with cfg := (s.func k).cfg.write field v })

/-! ## Device power states -/

/-- D3HOT_WRITE (R107): the function stops fetching and its work drains. A second one during the entry takes back a D0 write that waits
(DESIGN CHOICE, log entry 113). -/
def execD3hotWrite (f : Fin 1024) (s : State) : Host.Outcome State Fault Refusal :=
  let x := s.func f.val
  if !s.cfgThere f.val then .next s.cfgRetry
  else if x.dstate = .d0 ∨ x.dstate = .enteringThenD0 then .next (s.setFunc f.val { x with dstate := .entering }) else .next s

/-- Write every entry that is due and finds room. -/
def State.flush (fuel : Nat) (f q : Nat) (s : State) : State :=
  match fuel with
  | 0 => s
  | fuel + 1 => match s.reportOne f q with | some t => t.flush fuel f q | none => s

/-- D3HOT_ENTERED (R107): the drain ends, what is left completes with ABORTED_POWER, its entries are written, frames for its
receive queues are dropped and counted, and the function is in D3hot; a D0 write made meanwhile takes effect at once. -/
def execD3hotEntered (f : Fin 1024) (s : State) : Host.Outcome State Fault Refusal :=
  let x := s.func f.val
  if x.dstate ≠ .entering ∧ x.dstate ≠ .enteringThenD0 then .next s
  else
    let t := (s.abortFunc f.val).dropRx f.val true
    let u := if t.host.up && !x.inReset then
        (t.queuesOf f.val).foldl (fun u e => u.flush e.2.items.length f.val (e.1 % 256)) t
      else t
    .next (u.setFunc f.val { u.func f.val with dstate := if x.dstate = .entering then .d3 else .d0 })

/-- D0_WRITE (R107, R108): the function returns to D0, or will as soon as its entry into D3hot has ended. -/
def execD0Write (f : Fin 1024) (s : State) : Host.Outcome State Fault Refusal :=
  let x := s.func f.val
  if !s.cfgThere f.val then .next s.cfgRetry
  else
    match x.dstate with
    | .d3 => .next (s.setFunc f.val { x with dstate := .d0 })
    | .entering => .next (s.setFunc f.val { x with dstate := .enteringThenD0 })
    | _ => .next s

/-- MSIX_UNMASK (R105): a pending message that can be sent now is sent once. -/
def execMsixUnmask (f : Fin 1024) (v : Nat) (s : State) : Host.Outcome State Fault Refusal :=
  let k := 2048 * f.val + v
  if s.host.pba.contains k && s.canSend f.val && !(s.msix f.val v).masked && decide (v < (s.func f.val).asg.vectors) then
    .next ({ s with host := { s.host with pba := s.host.pba.filter (fun x => x ≠ k) } }.emit (.msix f.val v (s.func f.val).cfg.idoReq))
  else .next s

/-! ## Link power -/

/-- L1_ENTRY (R110): the idle link enters L1, or L1.1 or L1.2 where the L1 PM substates enable them. -/
def execL1Entry (sub : Nat) (s : State) : Host.Outcome State Fault Refusal :=
  let c := (s.func 0).cfg
  let go : Option LinkSt := if sub = 0 then some .l1 else if sub = 1 ∧ c.l11 then some .l11 else if sub = 2 ∧ c.l12 then some .l12 else none
  match go with
  | some l => if s.host.link = .l0 && c.aspmL1 then .next { s with host := { s.host with link := l } } else .next s
  | none => .next s

/-- Is a work item in flight, or a frame staged for a receive queue (R111)? -/
def State.busy (s : State) : Bool :=
  decide (s.itemsInFlight ≠ 0) || s.frames.any (fun x => match x.loc with | .rxq _ _ => true | _ => false)

/-- LTR_SEND (R111): the latency reported follows the busy or idle state when it changes. None is sent while the host's LTR Mechanism
Enable is 0 (PRESUMED, log entry 114: the base specification). -/
def execLtrSend (s : State) : Host.Outcome State Fault Refusal :=
  let b := s.busy
  if !s.host.up || !(s.func 0).cfg.ltrEnable || decide (s.host.ltrBusy = some b) || (!b && s.host.ltrBusy.isNone) then .next s
  else
    let us := if b then s.field .hlnk 0x54 15 0 else s.field .hlnk 0x54 31 16
    .next ({ s with host := { s.host with ltrBusy := some b } }.emit (.ltr us))

/-! ## The progress watchdog -/

/-- Does a function have work (R127)? -/
def State.hasWork (s : State) (f : Nat) : Bool :=
  (s.queuesOf f).any (fun e => decide (e.2.inFlight ≠ 0) || decide (e.2.ahead ≠ 0)) ||
    s.frames.any (fun x => match x.loc with | .rxq g _ => decide (g = f) | _ => false)

/-- Has a completion queue of function f no free entry (R128)? -/
def State.cqFull (s : State) (f : Nat) : Bool := s.queues.cq.any (fun e => decide (e.1 / 256 = f) && !e.2.free)

/-- Does work of function f wait for CRY, TUN or STO (R128): an operation, a frame it sent, or one at its receive queue that ESP inbound
has still to judge? -/
def State.engineWait (s : State) (f : Nat) : Bool :=
  (s.queuesOf f).any (fun e => decide (2 ≤ e.2.kind) && e.2.items.any (fun i => i.fin.isNone && i.kind ≠ 31)) ||
    s.frames.any (fun x => x.func && decide (x.src = f) && (match x.loc with | .engine .. => true | _ => false)) ||
    s.frames.any (fun x => x.espPending && (match x.loc with | .rxq g _ => decide (g = f) | _ => false))

/-- STALL_CAUSE (R128). -/
def State.stallCause (s : State) (f : Nat) : Nat :=
  if s.cqFull f then 1 else if (s.func f).timedOut then 2 else if s.ham.bursts.any (fun b => b.f = f) then 3
  else if s.engineWait f then 4 else 5

/-- FUNC_STALL (R127, R128): a function with work made no progress for its PERIOD_MS. -/
def execFuncStall (f : Fin 1024) (s : State) : Host.Outcome State Fault Refusal :=
  let p := funcPage f.val
  if !s.funcRuns f.val || !s.hasWork f.val || bitOn (s.reg p 0x5C) 3 then .next s
  else
    let t := (s.setBit p 0x5C 3 true).setField p 0x5C 23 20 (s.stallCause f.val)
    let t1 := (t.setReg (funcPage 0) 0x64 (word f.val)).add p 0x60 31 16 1
    let t2 := t1.setFunc f.val { t1.func f.val with timedOut := false }
    .next ((t2.raise p 1).raise (funcPage 0) 3)

end Sys2Proof.Machine
end

