-- ==== Sys2Proof/Machine/Power.lean ====
section
/-!
DEFINITION. Machine/Power.lean: sleep and wake of the islands (R355 to R361), island cold resets (R85, R346, R358), the
regulator protocol (R352 to R354), the clock multiplexers and the clock monitor (R341 to R346).
-/
namespace Sys2Proof.Machine

open Sys2Proof

/-! ## What an island holds -/

/-- Does an island hold work in flight: a frame in it, or an operation it has begun? -/
def State.holdsWork (s : State) (i : Island) : Bool :=
  s.frames.any (fun x => x.inside i) ||
    (match i with
     | .sto => !s.sto.ops.isEmpty || s.queues.wq.any (fun e => e.2.kind = 3 && e.2.items.any Item.inHand)
     | .cry => s.queues.wq.any (fun e => e.2.kind = 2 && e.2.items.any Item.inHand)
     | _ => false)

/-- Is a frame or an operation queued to an island (R360, row 2)? -/
def State.queuedTo (s : State) (i : Island) : Bool :=
  s.frames.any (fun x => match x.loc with
    | .egress p => decide (i = .pup) && decide (2 ≤ p) && decide (p < 4)
    | .macsec _ | .protect _ => i = .cry
    | .engine _ _ ops false => decide (i = .cry) && (nbit ops 0 || ops = 8) || decide (i = .tun) && (nbit ops 1 || nbit ops 2)
    | .stoIn => i = .sto
    | _ => false) ||
  s.queues.wq.any (fun e => !e.2.items.isEmpty && (decide (i = .cry) && decide (e.2.kind = 2) || decide (i = .sto) && decide (e.2.kind = 3)) &&
    e.2.items.any (fun j => j.fin.isNone && j.kind ≠ 31))

/-- Is a level source of R360 active for an island, by its row? -/
def State.levelRow (s : State) (i : Island) (row : Nat) : Bool :=
  match row with
  | 1 => s.held.any (fun h => h.page.island = i)
  | 2 => s.queuedTo i
  | 3 => s.queues.wq.any (fun e => e.2.pend && (decide (i = .cry) && decide (e.2.kind = 2) || decide (i = .sto) && decide (e.2.kind = 3)))
  | 4 => bitOn (s.reg .isl 0x78) 0 && decide (3 ≤ i.num) && bitOn (s.reg .isl 0x68) (i.num - 3) && decide (i.num ≤ 14)
  | 5 => (match i with | .nyc c => bitOn (s.reg (.nyc c) 0x200) 0 | _ => false)
  | 6 => decide (i = .pup) && bitOn (s.reg .isl 0x68) 17 && decide (s.clk.linkU.toNat % 4 ≠ s.field .isl 0x68 19 18)
  | _ => false

/-- ISL_TARGET's field of island number i. -/
def State.target (s : State) (i : Nat) : Nat := s.field .isl 0x48 (2 * (i - 3) + 1) (2 * (i - 3))

/-! ## Cold resets -/

/-- An island is held in a cold reset: its work is ended, its content lost, its multiplexer forced to the reference (R346). -/
def State.holdCold (s : State) (i : Island) : State :=
  let t := (s.abortIsland i).clearIsland i
  let t1 := if i.num < 16 then (t.setBit .clk 0x48 i.num false).setBit .clk 0x44 i.num false else t
  let t2 := t1.setIsland i { IslSt.reset with cold := true }
  let t3 := (if i = .host then t2.clearBound (fun _ => true) else t2).islandLocks i
  (t3.followClock i.num).followLevels

/-- Take an island to S2: its content is lost. -/
def State.takeOff (s : State) (i : Island) : State :=
  let t := (s.abortIsland i).clearIsland i
  t.setIsland i { IslSt.reset with mode := .off, noClock := (t.island i).noClock }

/-- The island restarts after a cold reset: ACTIVE, on its PLL where that runs, at its requested level (R351, R364). -/
def State.restart (s : State) (i : Island) : State :=
  let t := s.setIsland i { IslSt.reset with ready := true }
  let t1 := if i.num < 16 then (t.setBit .clk 0x44 i.num (t.sourceOk i.num true)).followClock i.num else t
  let j := if 4 ≤ i.num ∧ i.num < 12 then i.num - 4 else if i.num = 12 then 8 else if i.num = 13 then 9 else 10
  (if j < 10 then t1.setLevel j (min (t1.levelReq j) t1.railPl) else t1).followLevels

/-- UNIT_READY is released (R75). -/
def State.releaseReady (s : State) : State := { s with host := { s.host with ready := false, startMs := 0 } }

/-- The host link goes down with its island. -/
def State.linkOff (s : State) : State := { s with host := { s.host with link := .down } }

end Sys2Proof.Machine
end

