-- ==== Sys2Proof/Machine/Programs.lean ====
section
/-!
DEFINITION. Machine/Programs.lean: the components of an image set (R382), its validity at a start (R72), and the loading of the
operator Nyate programs of the active set (R70 step 9, R82, R314).
-/
namespace Sys2Proof.Machine

open Sys2Proof

/-- The active set and the other one. -/
def BootSt.active (b : BootSt) : ImgSet := if b.activeB then b.setB else b.setA
def BootSt.other (b : BootSt) : ImgSet := if b.activeB then b.setA else b.setB
/-- Replace the active set's state code, or the other one's. -/
def BootSt.putActive (b : BootSt) (x : ImgSet) : BootSt := if b.activeB then { b with setB := x } else { b with setA := x }
def BootSt.putOther (b : BootSt) (x : ImgSet) : BootSt := if b.activeB then { b with setA := x } else { b with setB := x }

/-! ## Packages (R382) -/

/-- Bytes i to i + n − 1 of an image set; erased flash reads 0xFF. -/
def ImgSet.bytes (x : ImgSet) (i n : Nat) : List Byte := (List.range n).map (fun k => Sparse.get 0xFF x.data (i + k))

/-- A component of TYPE k at offset `at'`: its version and the offset after it, where its layout is right. -/
def ImgSet.component (x : ImgSet) (k at' : Nat) : Option (Nat × Nat) :=
  let h := x.bytes at' 12
  let stop := at' + 64 + leAt h 8 4 + 96
  if slice h 0 4 = [0x4B, 0x42, 0x49, 0x4D] ∧ byteAt h 4 = k ∧ stop ≤ 2 ^ 26 then some (leAt h 6 2, stop) else none

/-- Where the component of TYPE k + 1 begins, the components before it being in order. -/
def ImgSet.start (x : ImgSet) (k : Nat) : Option Nat :=
  match k with
  | 0 => some 0
  | k + 1 => match x.start k with
    | some a => (x.component (k + 1) a).map (·.2)
    | none => none

/-- The bytes of the TYPE 4 component: header, body and signature; empty where the set holds none. -/
def ImgSet.part4 (x : ImgSet) : List Byte :=
  match x.start 3 with
  | some a => match x.component 4 a with | some (_, stop) => x.bytes a (stop - a) | none => []
  | none => []

/-- The body of the TYPE 4 component. -/
def ImgSet.body4 (x : ImgSet) : List Byte := (x.part4.drop 64).take (x.part4.length - 160)

/-! ## Validity (R72) -/

/-- Is an image set valid under the operator signing key now enrolled: every signature verifies and its version is not below the
rollback counter? Under another key than it was verified with, whether TYPE 4 verifies is open. -/
def ImgSet.valid (x : ImgSet) (key : Option (List Byte)) (rollback : Nat) : Bool :=
  x.sigOk && (decide (x.key = key) || Config.programsVerify x.part4 key) && decide (3 ≤ x.st) && decide (rollback ≤ x.ver)

/-! ## Operator programs (R314) -/

/-- Restore a thread's settings, and start it where the set says so. -/
def State.restoreThread (s : State) (c core : Nat) (x : ThreadSetting) : State :=
  let th : Thread := { Thread.reset with code := x.code &&& 0xFFFF7FFF, data := x.data &&& 0x07FFFFC0, bind := x.bind &&& 0x83FFFDFF,
                                         entry := x.entry &&& 0x7FFF }
  (s.strip c (16 * core + x.t.val)).setThread c (16 * core + x.t.val) (if x.start then th.start else th)

/-- Load one program: what lies within the core's memories is written, then its threads are set. -/
def State.loadProgram (s : State) (x : Program) : State :=
  let c := x.cluster.val
  let k := x.core.val
  let im := (List.range (min x.code.length (32768 - x.ibase.toNat))).foldl (fun m i =>
    Sparse.put m (32768 * (8 * c + k) + x.ibase.toNat + i) (x.code.getD i 0).toNat) s.nyate.imem
  let dm := (List.range (min x.data.length (65536 - x.dbase.toNat))).foldl (fun m i =>
    Sparse.set 0 m (65536 * (8 * c + k) + x.dbase.toNat + i) (x.data.getD i 0)) s.nyate.dmem
  x.threads.foldl (fun t y => t.restoreThread c k y) { s with nyate := { s.nyate with imem := im, dmem := dm } }

/-- The management controller loads the operator programs of the active set into the clusters that satisfy p (R314). None is loaded in
recovery mode (R73) or from a body of LENGTH 0. -/
def State.loadPrograms (s : State) (p : Nat → Bool) : State :=
  let b := s.boot.active.body4
  if s.boot.recovery || b.isEmpty then s
  else ((Config.programs b).filter (fun x => p x.cluster.val && (s.island (.nyc x.cluster)).mode ≠ .off)).foldl State.loadProgram s

end Sys2Proof.Machine
end

