-- ==== Sys2Proof/Machine/Ports.lean ====
section
/-!
DEFINITION. Machine/Ports.lean: the data ports (chapter 9): the fate of an arriving frame (R184, R174), its end check (R185 to
R189), configuration and links (R180 to R183), pause (R190 to R195), flaps and steering writes (R200).
-/
namespace Sys2Proof.Machine

open Sys2Proof

/-! ## Admission -/

/-- M of a port. -/
def State.maxFrame (s : State) (p : Nat) : Nat := s.field (portPage p) 0x44 15 0

/-- Where HAM_ING_DROP of port p stands (R178). -/
def ingDrop (p : Nat) : Nat := 0x60 + 4 * p

/-- What was seen of a frame that ends at its 64th byte counts in RX_BYTES (log entry 27). -/
def State.seenBytes (s : State) (p n : Nat) : State := s.add64 (portPage p) 0x108 n

/-- A frame refused by part `r` is dropped and counted (R174); `n` bytes of it were seen. -/
def State.refuseFrame (s₀ : State) (p : Nat) (r : Part) (n : Nat) : State :=
  let s := s₀.seenBytes p n
  match r with
  | .safety => ((s.add .ham 0x44 31 16 1).raise .ham 0).raise .ham 1
  | .mgt => (s.add .ham 0x4C 31 16 1).raise .ham 0
  | _ => (s.count .ham (ingDrop p)).raise .ham 0

/-- A frame that is admitted: its stored bytes so far, its part and cells. While it is at its port, `dest` keeps the M it was
admitted under (R182). -/
def State.newFrame (s : State) (p : Nat) (b : List Byte) (r : Part) (n k : Nat) : State :=
  let x : Frame :=
    { id := s.nextId, part := r, cells := n, nonets := stitched b (boundaries b), func := false, src := p, wq := 0, last := 0,
      dclass := k, tc := outerPcp (s.hsrOn p) b,
      pcp := (match outerTag (s.hsrOn p) b with | some t => t / 8192 | none => s.field (portPage p) 0x58 7 5),
      ns := s.ptp.time % 1000000000, sec := s.ptp.time / 1000000000, tag := 0, txf := 0, tun := 0, sa := 0, room := 0,
      gate := none, dest := s.maxFrame p, flags := 0, seq := none, group := s.nextId, bad := false, esp := false,
      loc := .ingress p }
  { s with frames := s.frames ++ [x], nextId := s.nextId + 1 }

/-- Ask part `r` for the cells of a frame, a transit frame that finds its reserve full asking the ingress channel (R167, R174). -/
def State.takeCells (s : State) (p : Nat) (b : List Byte) (r : Part) (k : Nat) : State :=
  let n := cellsOf (s.maxFrame p)
  match s.admitPart r n with
  | some t => t.newFrame p b r n k
  | none =>
      if r = .ring then
        match s.admitPart (.chan (2 * p)) n with
        | some t => (t.add .ham 0x48 31 16 1).newFrame p b (.chan (2 * p)) n k
        | none => s.refuseFrame p (.chan (2 * p)) b.length
      else s.refuseFrame p r b.length

/-- FRAME_INGRESS_DECIDE (R184): the fate of an arriving frame, from its first 64 bytes. `whole` says that the frame ended
within `head`. -/
def execFrameIngressDecide (p : Fin 4) (head : List Byte) (whole : Bool) (s : State) : Host.Outcome State Fault Refusal :=
  let q := p.val
  let pg := portPage q
  if !s.linkUp q || !s.runs pg.island || !s.runs .fab then .next s
  else if head.length < 64 then (if whole then .next (s.count pg 0x12C) else .next s)
  else if beAt head 12 2 = 0x8808 then .next s
  else
    let s1 := s.add64 pg 0x100 1
    match s1.reserveOf q head with
    | some r => .next (s1.takeCells q head r 0)
    | none =>
        if !s1.mcastOk q head then .next ((s1.count pg 0x140).seenBytes q head.length)
        else
          match s1.steer q head with
          | none => .next ((s1.count pg 0x144).seenBytes q head.length)
          | some k =>
              if !s1.clusterTakes (s1.classCluster q k) then .next ((s1.count pg 0x148).seenBytes q head.length)
              else .next (s1.takeCells q head (.chan (2 * q)) k)

/-! ## The end of a frame -/

/-- The length an HSR tag's size field should have (log entry 10). -/
def hsrLsdu (i len : Nat) : Nat := len - 4 - (if i = 12 then 14 else 18)

/-- The kinds of damage a frame of `len` bytes shows, as the bits of R187. -/
def State.damage (s : State) (p : Nat) (b : List Byte) (len m : Nat) (fcsBad codeBad : Bool) : Nat :=
  let e := etherPos (s.hsrOn p) b
  let t := beAt b e 2
  let lenBad := decide (t < 1536) && decide (len - e - 6 < t)
  let tagBad := s.hsrOn p && (match hsrPos b with | some i => decide (hsrSize b i ≠ hsrLsdu i len) | none => false)
  fcsBad.toNat + codeBad.toNat * 2 + lenBad.toNat * 4 + tagBad.toNat * 8 + (decide (m < len)).toNat * 16

/-- The counter of a kind of damage (R202). -/
def damageReg (k : Nat) : Nat := match k with | 0 => 0x120 | 1 => 0x124 | 2 => 0x128 | 3 => 0x134 | _ => 0x130

/-- A damaged frame counts once in the counter of every kind it shows. -/
def State.countDamage (s : State) (p d : Nat) : State :=
  [0, 1, 2, 3, 4].foldl (fun t k => if nbit d k then t.count (portPage p) (damageReg k) else t) s

/-- A damaged frame: queued flagged to the queue of PORT_ERRDLV, or discarded (R188, R189). -/
def State.damagedFrame (s : State) (x : Frame) (p d : Nat) : State :=
  let e := s.reg (portPage p) 0x50
  let f := fld e 31 22
  let q := fld e 21 14
  if x.part.reserve || decide (d &&& (fld e 4 0) ≠ d) then s.endFrame x (.drop 2)
  else if s.rxOpen f q then
    let y := { x with loc := .rxq f q, flags := d, esp := true }
    (s.toBack y).moveOrDrop y (funcChan f 1)
  else
    let t := (s.endFrame x (.drop 7)).errqDrop p
    if s.rxDiscards f then t.count (funcPage f) 0x120 else t

/-- Where an undamaged frame of port p goes: the pass-through, a reserve's consumer, or CRY and the clusters; none where
MACsec drops it for want of a SecTAG (R185, R263, R264). -/
def State.routeIn (s : State) (x : Frame) (p : Nat) : Option Loc :=
  let b := bytesOf x.nonets
  if s.hsrOn p && (hsrPos b).isSome then some (.ringIn p)
  else if x.part.reserve then
    (if s.prp && decide (2 ≤ p) && (rct x.body).isSome then some (.prpIn p)
     else some (if x.part = .safety then .safIn else .mgtIn))
  else
    match s.msRx p with
    | none => some (s.afterMacsec p x)
    | some v =>
        if hasSecTag b then some (if v = 1 ∨ v = 2 then .macsec p else s.afterMacsec p x)
        else if v = 2 ∧ !macsecFree (etherType false b) then none
        else some (s.afterMacsec p x)

/-- FEC codewords corrected and not corrected on a port that runs FEC (R179, R202). -/
def State.fecSeen (s : State) (p fec lost : Nat) : State :=
  if s.field (portPage p) 0x40 5 4 = 0 then s else (s.add (portPage p) 0x18C 31 0 fec).add (portPage p) 0x190 31 0 lost

/-- FRAME_END_CHECK (R185, R187): the rest of a frame has arrived, `len` bytes in all; its surplus cells return and it is
handed on without its check sequence, discarded, or delivered whole and flagged (DESIGN CHOICE, log
entry 12). The codewords FEC corrected and lost since the last frame's end are counted (R202). -/
def execFrameEndCheck (id : Nat) (rest : List Byte) (len : Nat) (fcsBad : Bool) (code : Codewords) (s : State) :
    Host.Outcome State Fault Refusal :=
  match s.frame id with
  | none => .next s
  | some x =>
      match x.loc with
      | .ingress p =>
          let b := (bytesOf x.nonets ++ rest).take x.dest
          let d := s.damage p b len x.dest fcsBad code.bad
          let n := cellsOf b.length
          let kept := if d = 0 then b.take (b.length - 4) else b
          let y := { x with nonets := stitched kept (boundaries kept), cells := n, dest := 0 }
          let s1 := ((((s.fecSeen p code.corrected code.lost).giveBack x.part (x.cells - n)).setFrame y).seenBytes p len).countDamage p d
          if d ≠ 0 then .next (s1.damagedFrame y p d)
          else
            match s1.routeIn y p with
            | some (.macsec q) => .next ((s1.setFrame { y with loc := .macsec q }).onFrame y.id (fun t z => t.moveOrDrop z 8))
            | some l => .next (s1.setFrame { y with loc := l })
            | none => .next ((s1.endFrame y (.drop 2)).msCount p 4)
      | _ => .next s

/-! ## Links -/

/-- The link of a port changes: events, flushed entries (R237), and at the end of a flap LINK_FLAPS and STORM_IGNORING (R195). -/
def State.setLink (s : State) (p : Nat) (up : Bool) : State :=
  let pg := portPage p
  if s.linkUp p = up then s
  else
    let x := s.port p
    let s1 := s.setBit pg 0x48 2 up
    if up then
      let s2 := if x.wasUp then (s1.count pg 0x188).setBit pg 0x48 7 false else s1
      (s2.setPort p { x with wasUp := false }).raise pg 0
    else ((s1.setPort p { x with wasUp := true }).flushPort p).raise pg 1

/-- Hold a link down until it trains again. -/
def State.holdLink (s : State) (p : Nat) : State :=
  let t := s.setLink p false
  t.setPort p { t.port p with held := true }

/-- Is a module present without a fault (MGT_MOD, R183)? -/
def State.moduleGood (s : State) (p : Nat) : Bool :=
  bitOn (s.reg .mgt (0x100 + 4 * p)) 0 && !bitOn (s.reg .mgt (0x100 + 4 * p)) 1

/-- LINK_CHANGE (R183, R360): the PCS reports lock and faults; the link is up with lock, no fault, a good module and a speed. MGT
watches the uplinks' links for an island PUP that sleeps; a link that goes down meanwhile has its learned entries flushed (R237). -/
def execLinkChange (p : Fin 4) (lock localFault remoteFault : Bool) (s : State) : Host.Outcome State Fault Refusal :=
  let q := p.val
  let pg := portPage q
  let up := lock && !localFault && !remoteFault && s.moduleGood q && decide (s.speed q ≠ 0)
  let t := s.watchLink q up
  if !t.runs pg.island then .next (if t.linkUp q && !up then t.flushPort q else t)
  else
    let t1 := ((t.setPort q { t.port q with held := false }).setBit pg 0x48 4 localFault).setBit pg 0x48 5 remoteFault
    .next (t1.setLink q up)

/-- MODULE_CHANGE (R183, R375): a module is inserted or removed, or reports a fault; MGT_MOD reports it. `ident` is what its management
interface gives: vendor name, part number and serial number, 16 bytes each (PRESUMED: the SFF specifications, log entry 120). -/
def execModuleChange (p : Fin 4) (present fault : Bool) (info : ModuleInfo) (s : State) :
    Host.Outcome State Fault Refusal :=
  let q := p.val
  let pg := portPage q
  let was := bitOn (s.reg pg 0x48) 3
  let s1 := s.setReg .mgt (0x100 + 4 * q)
    (if present then word (info.sff.toNat * 256 + fault.toNat * 2 + 1) else 0)
  let mods := if present then Sparse.put s1.sens.mods q (slice info.ident 0 48) else Sparse.del s1.sens.mods q
  let s2 := { s1 with sens := { s1.sens with mods := mods } }.setBit pg 0x48 3 present
  let s3 := if was = present ∧ !fault then s2 else s2.setLink q false
  if was = present then .next s3 else .next (s3.raise pg 4)

/-! ## Configuration -/

/-- The FEC codes allowed for a speed (R179). -/
def fecAllowed (speed fec : Nat) : Bool :=
  match speed with
  | 0 => true
  | 3 => decide (fec = 1) || decide (fec = 2)
  | 5 => decide (fec = 2)
  | _ => decide (fec = 0)

/-- Does port p offer a speed (R179)? -/
def speedOffered (p speed : Nat) : Bool := decide (speed = 0) || (if p < 2 then decide (speed ≤ 3) else decide (speed = 4) || decide (speed = 5))

/-- Would HSR be suspended now: enabled, at two speeds (R215)? -/
def State.hsrSplit (s : State) : Bool := bitOn (s.reg .ring 0x40) 0 && decide (s.speed 0 ≠ s.speed 1)

/-- The suspension of HSR begins or ends where the settings say so, with its event (R215). -/
def State.followHsr (s : State) : State :=
  if s.hsrSplit && !s.ring.suspended then
    { s with ring := { s.ring with suspended := true } }.raise .ring 4
  else if !s.hsrSplit && s.ring.suspended then
    let t := { s with ring := { s.ring with suspended := false, dd := [] } }
    if s.hsr then t.raise .ring 5 else t
  else s

/-- A write of PORT_CFG (R180, R181): refused with CFG_REFUSED, or applied; a change retrains the link, and a ring port's
setting is saved to FRAM. -/
def State.portCfg (s : State) (p : Nat) (v : Word) : State :=
  let pg := portPage p
  let old := s.reg pg 0x40
  let new := old &&& ~~~(0x7F : Word) ||| (v &&& 0x7F)
  if !speedOffered p (fld new 3 0) || !fecAllowed (fld new 3 0) (fld new 5 4) then s.raise pg 3
  else
    let s1 := s.setReg pg 0x40 new
    let s2 := if new = old then s1 else s1.holdLink p
    if p < 2 then ({ s2 with fram := { s2.fram with portCfg := setAt 0x63 s2.fram.portCfg p new } }).followHsr else s2

/-- A write of PORT_CTRL (R195): FLAP holds the link down for 10 ms. -/
def State.portCtrl (s : State) (p : Nat) (v : Word) : State := if bitOn v 0 then s.holdLink p else s

/-- A write of a steering rule (R200): word B is held; word A applies with the held word B. -/
def State.steerWrite (s : State) (p off : Nat) (m : Master) (v : Word) : State :=
  let pg := portPage p
  let x := s.port p
  let r := (off - 0x800) / 8
  if off % 8 = 4 then s.setPort p { x with wordB := Sparse.put x.wordB r (v &&& 0xFFFF) }
  else
    let s1 := s.setReg pg off (mergeWrite pg off m (s.reg pg off) v)
    match Sparse.find x.wordB r with
    | some b => (s1.setReg pg (off + 4) b).setPort p { x with wordB := Sparse.del x.wordB r }
    | none => s1

/-! ## Pause -/

/-- PORT_FC fields. -/
def State.fcMode (s : State) (p : Nat) : Nat := s.field (portPage p) 0x58 1 0
def State.fcBit (s : State) (p i : Nat) : Bool := bitOn (s.reg (portPage p) 0x58) i

/-- Is the storm ignored now? -/
def State.stormIgnoring (s : State) (p : Nat) : Bool := bitOn (s.reg (portPage p) 0x48) 7

/-- Start, restart or end one pause timer (R191). -/
def pauseTimer (l : List Nat) (k : Nat) (quanta : BitVec 16) : List Nat :=
  if quanta = 0 then l.filter (fun x => x ≠ k) else if l.contains k then l else l ++ [k]

/-- Is a received pause frame obeyed (R190 to R195)? -/
def State.obeys (s : State) (p : Nat) (pfc : Bool) : Bool :=
  !s.hsrOn p && !s.stormIgnoring p && s.fcBit p 2 && decide (s.fcMode p = if pfc then 2 else 1)

/-- PAUSE_RX (R190, R191): a PAUSE frame (its quanta under the first entry) or a PFC frame with the priorities it names. -/
def execPauseRx (p : Fin 4) (pfc : Bool) (times : List (Fin 8 × BitVec 16)) (s : State) : Host.Outcome State Fault Refusal :=
  let q := p.val
  let pg := portPage q
  if !s.linkUp q then .next s
  else
    let s1 := if pfc then times.foldl (fun t x => t.count pg (0x160 + 4 * x.1.val)) s else s.count pg 0x14C
    let s2 := if s.stormIgnoring q then s1.count pg 0x154 else s1
    if !s.obeys q pfc then .next s2
    else
      let x := s2.port q
      let en := s.field pg 0x58 15 8
      let l := if pfc then times.foldl (fun l y => if nbit en y.1.val then pauseTimer l y.1.val y.2 else l) x.timers
        else match times with | [] => x.timers | y :: _ => pauseTimer x.timers 8 y.2
      .next (s2.setPort q { x with timers := l, standing := x.standing ++ l.filter (fun k => !x.standing.contains k) })

/-- PAUSE_TIMER_EXPIRY (R191, R195): a pause timer expires (8 stands for link PAUSE). The event for a timer that does not run is the 1 ms
without it, which ends the continuous pause (DESIGN CHOICE, log entry 116). -/
def execPauseTimerExpiry (p : Fin 4) (pri : Fin 9) (s : State) : Host.Outcome State Fault Refusal :=
  let x := s.port p.val
  if x.timers.contains pri.val then .next (s.setPort p.val { x with timers := x.timers.filter (fun k => k ≠ pri.val) })
  else
    .next (s.setPort p.val { x with standing := x.standing.filter (fun k => k ≠ pri.val), stormed := x.stormed.filter (fun k => k ≠ pri.val) })

/-- Cells that decide on pause frames (R192): the ingress channel's, or those of one priority's frames in it. -/
def State.pauseCells (s : State) (p pri : Nat) : Nat :=
  if pri = 8 then s.heldBy (2 * p)
  else (s.frames.map (fun x => if x.part = .chan (2 * p) ∧ x.pcp = pri then x.cells else 0)).sum

/-- Does a port generate pause frames for this priority (R190, R192, R193)? -/
def State.pauses (s : State) (p pri : Nat) : Bool :=
  !s.hsrOn p && s.linkUp p && s.fcBit p 3 &&
    (if pri = 8 then decide (s.fcMode p = 1) else decide (s.fcMode p = 2) && nbit (s.field (portPage p) 0x58 15 8) pri)

/-- Send a pause frame. -/
def State.sendPause (s : State) (p pri quanta : Nat) : State :=
  let t := s.emit (.pause p quanta (if pri = 8 then 0 else 2 ^ pri))
  if pri = 8 then t.count (portPage p) 0x150 else t

/-- PAUSE_XOFF (R192): XOFF cells or more are held; a pause frame with QUANTA leaves. -/
def execPauseXoff (p : Fin 4) (pri : Fin 9) (s : State) : Host.Outcome State Fault Refusal :=
  let q := p.val
  let x := s.port q
  if s.pauses q pri.val && !x.xoff.contains pri.val && decide (s.field (portPage q) 0x5C 31 16 ≤ s.pauseCells q pri.val) then
    .next ((s.setPort q { x with xoff := x.xoff ++ [pri.val] }).sendPause q pri.val (s.field (portPage q) 0x58 31 16))
  else .next s

/-- PAUSE_REPEAT (R192): half the pause time has passed with XOFF cells or more; the pause frame is sent again. A QUANTA of 0
has no pause time to halve. -/
def execPauseRepeat (p : Fin 4) (pri : Fin 9) (s : State) : Host.Outcome State Fault Refusal :=
  let q := p.val
  let n := s.field (portPage q) 0x58 31 16
  if s.pauses q pri.val && (s.port q).xoff.contains pri.val && decide (n ≠ 0) &&
      decide (s.field (portPage q) 0x5C 31 16 ≤ s.pauseCells q pri.val) then .next (s.sendPause q pri.val n)
  else .next s

/-- PAUSE_XON (R192): XON cells or fewer are held after a pause; one pause frame with quanta 0 leaves. -/
def execPauseXon (p : Fin 4) (pri : Fin 9) (s : State) : Host.Outcome State Fault Refusal :=
  let q := p.val
  let x := s.port q
  if x.xoff.contains pri.val && decide (s.pauseCells q pri.val ≤ s.field (portPage q) 0x5C 15 0) then
    let t := s.setPort q { x with xoff := x.xoff.filter (fun k => k ≠ pri.val) }
    .next (if s.pauses q pri.val then t.sendPause q pri.val 0 else t)
  else .next s

/-- PAUSE_STORM (R195): the oldest continuous pause of the port that is not reported yet exceeds PORT_STORM_LIMIT; with STORM_IGNORE every
pause timer ends and pause frames are ignored until the next flap. -/
def execPauseStorm (p : Fin 4) (s : State) : Host.Outcome State Fault Refusal :=
  let q := p.val
  let pg := portPage q
  let x := s.port q
  match x.standing.find? (fun k => !x.stormed.contains k) with
  | none => .next s
  | some k =>
      let s1 := ((s.setPort q { x with stormed := x.stormed ++ [k] }).count pg 0x158).raise pg 2
      if s.fcBit q 4 then .next ((s1.setBit pg 0x48 7 true).setPort q { s1.port q with timers := [] }) else .next s1

end Sys2Proof.Machine
end

