-- ==== Sys2Proof/Machine/Ring.lean ====
section
/-!
DEFINITION. Machine/Ring.lean: PTP time (R203 to R207), HSR on the ring ports (R214 to R220) and PRP on the uplinks (R221).
-/
namespace Sys2Proof.Machine

open Sys2Proof

/-! ## Time -/

/-- PTP_CFG.CLOCK. -/
def State.ptpClock (s : State) : Nat := s.field .ptp 0x40 1 0

/-- Move PTP time by a signed number of nanoseconds and raise TIME_STEP (R206). -/
def State.stepTime (s : State) (n : Int) : State :=
  { s with ptp := { s.ptp with time := ((s.ptp.time : Int) + n).toNat } }.followTimer.raise .ptp 0


/-- A write of PTP_STEP (R206): applied only while CLOCK = 0. -/
def State.ptpStep (s : State) (v : Word) : State := if s.ptpClock = 0 then s.stepTime v.toInt else s

/-- A write of PTP_FREQ_ADJ (R204): no effect while the servo owns it. -/
def State.ptpFreq (s : State) (v : Word) : State := if s.ptpClock = 0 then s.setReg .ptp 0x58 v else s

/-- 40 ns of the age of the last completed capacitance test (R68), which stops at 65,535 days. -/
def State.age (s : State) : State := { s with pwr := { s.pwr with age := min (65535 * 86400000000000) (s.pwr.age + 40) } }

/-- One 25 MHz reference cycle: 40 ns of the time engine while FAB runs (R203), corrected by PTP_FREQ_ADJ in units of 1/65,536 ppb;
seconds are kept modulo 2^48. -/
def State.timeTick (s : State) : State :=
  if s.runs .fab then
    let unit : Int := 65536000000000
    let f := s.ptp.frac + 40 * (s.reg .ptp 0x58).toInt
    { s with ptp := { s.ptp with time := (s.ptp.time + (40 + f / unit).toNat) % (2 ^ 48 * 1000000000), frac := f % unit } }
  else s

/-- What passes in a reference cycle in which no command is taken. -/
def State.tick (s : State) : State := (if s.pwr.started then s.timeTick.age else s.timeTick).pumpBursts.pumpReads

/-- A write of PTP_TXTS_CTL (R207): POP removes the head entry. -/
def State.txtsPop (s : State) (v : Word) : State :=
  if bitOn v 31 then { s with ptp := { s.ptp with fifo := s.ptp.fifo.drop 1 } } else s

/-- Does port p take part in PTP (R204)? An ordinary clock uses its lowest-numbered enabled port. -/
def State.ptpPort (s : State) (p : Nat) : Bool :=
  let en := s.field .ptp 0x40 7 4
  nbit en p && (decide (s.ptpClock = 2) || (decide (s.ptpClock = 1) && decide (en % 2 ^ p = 0)))

/-- Set PTP_STAT.STATE. -/
def State.ptpState (s : State) (n : Nat) : State := s.setField .ptp 0x44 1 0 n

/-- Set PTP_STAT.ROLE of port p. -/
def State.ptpRole (s : State) (p r : Nat) : State := s.setField .ptp 0x44 (9 + 2 * p) (8 + 2 * p) r

/-- Is port p in the slave role? -/
def State.isSlave (s : State) (p : Nat) : Bool := decide (s.field .ptp 0x44 (9 + 2 * p) (8 + 2 * p) = 2)

/-- A write of PTP_CFG (R204, R225): CLOCK = 3 leaves the whole register unchanged; with CLOCK = 0 STATE and ROLE read 0, and the ROLE of a
port that takes no part reads 0, disabled. -/
def State.ptpCfg (s : State) (m : Master) (v : Word) : State :=
  if fld v 1 0 = 3 then s
  else
    let t := s.setReg .ptp 0x40 (mergeWrite .ptp 0x40 m (s.reg .ptp 0x40) v)
    if fld v 1 0 = 0 then t.setReg .ptp 0x44 0
    else (List.range 4).foldl (fun u p => if t.ptpPort p then u else u.ptpRole p 0) t

/-- The role a port takes (R204): with PRIO1 255 the unit is no grandmaster, so a port is master only while another one is slave, and else
stays passive (DESIGN CHOICE, log entry 119). -/
def State.roleTaken (s : State) (p r : Nat) : Nat :=
  if r = 1 ∧ s.field .ptp 0x40 23 16 = 255 ∧ !(List.range 4).any (fun q => decide (q ≠ p) && s.isSlave q) then 3 else r

/-- PTP_MESSAGE_RX (R204, R206): a message reaches the stack by port p; `role` is the port's role under the best master clock
algorithm and `offset` the offset it yields in the slave role. Offsets of 1 ms or less are slewed, larger ones stepped
(log entry 28). -/
def execPtpMessageRx (p : Fin 4) (role : Fin 4) (offset : Int) (s : State) : Host.Outcome State Fault Refusal :=
  if s.ptpClock = 0 then .next { s with ptp := { s.ptp with dropped := s.ptp.dropped + 1 } }
  else if !s.ptpPort p.val then .next s
  else
    let s1 := s.ptpRole p.val (s.roleTaken p.val role.val)
    if role.val ≠ 2 then .next s1
    else
      let s2 := s1.setReg .ptp 0x54 (BitVec.ofInt 32 offset)
      if offset.natAbs ≤ 1000000 then
        let s3 := s2.setReg .ptp 0x58 (Config.servo offset (s2.reg .ptp 0x58))
        .next (if s3.field .ptp 0x44 1 0 = 2 then s3 else (s3.ptpState 2).raise .ptp 2)
      else .next ((s2.stepTime (-offset)).ptpState 1)

/-- Is a port in the slave role? -/
def State.hasSlave (s : State) : Bool := (List.range 4).any s.isSlave

/-- PTP goes to HOLDOVER, the last correction staying in force: the slave port loses its master, or the NYC islands are shed (R206). -/
def State.holdover (s : State) : State :=
  if s.ptpClock ≠ 0 ∧ s.hasSlave ∧ s.field .ptp 0x44 1 0 ≠ 3 then (s.ptpState 3).raise .ptp 1 else s

/-- ANNOUNCE_RECEIPT_TIMEOUT (R206): the slave port loses its master. -/
def execAnnounceReceiptTimeout (s : State) : Host.Outcome State Fault Refusal := .next s.holdover

/-! ## HSR -/

/-- A write of RING_CFG (R214, R215): refused with CFG_REFUSED where it sets HSR_EN at two speeds, else applied and saved. -/
def State.ringCfg (s : State) (v : Word) : State :=
  if bitOn v 0 && decide (s.speed 0 ≠ s.speed 1) then s.raise .ring 3
  else
    let t := s.setReg .ring 0x40 (v &&& 3)
    ({ t with fram := { t.fram with ringCfg := v &&& 3 } }).followHsr

/-- Is this source and sequence number in a duplicate-discard table? -/
def inDd (l : List DdEntry) (src seq : Nat) : Bool := l.any (fun e => decide (e.src = src) && decide (e.seq = seq))

/-- Make an entry; in a table of 1,024 the oldest one goes. Answers the table and whether one went (R218). -/
def addDd (l : List DdEntry) (src seq : Nat) : List DdEntry × Bool :=
  if l.length < 1024 then (l ++ [{ src := src, seq := seq }], false) else (l.drop 1 ++ [{ src := src, seq := seq }], true)

/-- Count and raise an eviction (R218). -/
def State.evicted (s : State) (b : Bool) : State := if b then (s.count .ring 0x60).raise .ring 2 else s

/-- Where the local copy of a ring frame goes (R217, R229): SAF, the management controller, or a cluster, the class of a frame
that skipped steering being that of the rules of its port (log entry 26). -/
def State.ringLocal (s : State) (x : Frame) (p : Nat) : Loc :=
  match x.part with
  | .safety => .safIn
  | .mgt => .mgtIn
  | .ring =>
      if s.isMgtVlan p (bytesOf x.nonets) then .mgtIn
      else
      let k := (s.steer p (bytesOf x.nonets)).getD (s.field (portPage p) 0x68 2 0)
      .dispatch (s.classCluster p k) k
  | .chan _ => .dispatch (s.classCluster p x.dclass) x.dclass

/-- HSR_RX (R217): a tagged ring frame is removed, discarded as a duplicate, delivered locally with ingress port P0, or
forwarded by the pass-through to the other ring port. -/
def execHsrRx (id : Nat) (s : State) : Host.Outcome State Fault Refusal :=
  match s.frame id with
  | none => .next s
  | some x =>
      match x.loc with
      | .ringIn p =>
          let b := bytesOf x.nonets
          let seq := match hsrPos b with | some i => hsrSeq b i | none => 0
          let y := { x with src := 0 }
          if x.bad then .next (s.endFrame x (.drop 6))
          else if !s.hsr then .next (s.fanOut x [.here (s.ringLocal x p)])
          else if srcAddr b = s.ringMac then .next ((s.endFrame x (.drop 2)).count .ring 0x54)
          else if inDd s.ring.dd (srcAddr b) seq then .next ((s.endFrame x (.drop 2)).count .ring 0x58)
          else
            let a := addDd s.ring.dd (srcAddr b) seq
            let s1 := { s with ring := { s.ring with dd := a.1 } }.evicted a.2
            if dstAddr b = s.ringMac ∨ dstAddr b = ptpPeer then .next (s1.fanOut y [.here (s.ringLocal x p)])
            else if isGroup (dstAddr b) then .next (s1.fanOut y [.port (1 - p) none, .here (s.ringLocal x p)])
            else .next (s1.fanOut y [.port (1 - p) none])
      | _ => .next s

/-- A supervision frame leaves by port p, counted like every frame sent (R202), or is dropped for its link (R186). Its 70 bytes are the least
that a tagged frame has (PRESUMED, log entry 10). -/
def State.sendSupervision (s : State) (p n : Nat) : State :=
  if s.linkUp p then ((s.add64 (portPage p) 0x110 1).add64 (portPage p) 0x118 70).emit (.supervision p n)
  else s.count (portPage p) 0x180

/-- Has the management reserve a cell for a frame that the management controller sends (R167)? It is held only while the frame leaves. -/
def State.mgtCell (s : State) : Bool := (s.admitPart .mgt 1).isSome

/-- HSR_SUPERVISION_TX (R214, R221): the node sends supervision frames on both ring ports while HSR is in effect, and on both
uplinks while PRP is on, each pair with one sequence number, out of the management reserve (R167). -/
def execHsrSupervisionTx (s : State) : Host.Outcome State Fault Refusal :=
  if !s.mgtCell then .next s
  else
    let s1 := if s.hsr && s.runs .prg then
        let n := s.nextHsrSeq
        (n.1.sendSupervision 0 n.2).sendSupervision 1 n.2
      else s
    if s1.prp && s1.runs .pup then
      let n := s1.nextPrpSeq
      .next ((n.1.sendSupervision 2 n.2).sendSupervision 3 n.2)
    else .next s1

/-- DD_ENTRY_EXPIRE (R218): 400 ms after it was made, the oldest entry leaves its table. -/
def execDdEntryExpire (prp : Bool) (s : State) : Host.Outcome State Fault Refusal :=
  .next { s with ring := if prp then { s.ring with ddPrp := s.ring.ddPrp.drop 1 } else { s.ring with dd := s.ring.dd.drop 1 } }

/-- RING_OPEN (R220): a node's supervision frames have arrived on one ring port only for 3 × INTERVAL_MS. -/
def execRingOpen (node : BitVec 48) (s : State) : Host.Outcome State Fault Refusal :=
  if s.hsr && !s.ring.opened.contains node.toNat then
    .next ({ s with ring := { s.ring with opened := s.ring.opened ++ [node.toNat] } }.raise .ring 0)
  else .next s

/-- RING_CLOSED (R220): those frames arrive on both ring ports again. -/
def execRingClosed (node : BitVec 48) (s : State) : Host.Outcome State Fault Refusal :=
  if s.ring.opened.contains node.toNat then
    .next ({ s with ring := { s.ring with opened := s.ring.opened.filter (fun n => n ≠ node.toNat) } }.raise .ring 1)
  else .next s

/-! ## PRP -/

/-- PRP_RX (R221): the first copy of a frame is delivered without its trailer, its duplicate discarded and counted; a trailer
that names the wrong LAN is counted. -/
def execPrpRx (id : Nat) (s : State) : Host.Outcome State Fault Refusal :=
  match s.frame id with
  | none => .next s
  | some x =>
      match x.loc with
      | .prpIn p =>
          if x.bad then .next (s.endFrame x (.drop 6))
          else
            match rct x.body with
            | none => .next (s.fanOut x [.here (s.ringLocal x p)])
            | some (seq, lan) =>
                let src := srcAddr x.body
                if inDd s.ring.ddPrp src seq then .next ((s.endFrame x (.drop 2)).count .ring 0x5C)
                else
                  let a := addDd s.ring.ddPrp src seq
                  let s1 := { s with ring := { s.ring with ddPrp := a.1 } }.evicted a.2
                  let s2 := if lan = (if p = 2 then 10 else 11) then s1 else s1.count .ring 0x64
                  let y := { x with nonets := x.nonets.take (x.body.length - 6) }
                  .next (s2.fanOut y [.here (s.ringLocal x p)])
      | _ => .next s

end Sys2Proof.Machine
end

