-- ==== Sys2Proof/Machine/Boot.lean ====
section
/-!
DEFINITION. Machine/Boot.lean: start-up from mains (R70), image selection (R72, R73), unit resets (R81, R82, R85), the restart
after a shed (R59) and UNIT_READY (R75, R87).
-/
namespace Sys2Proof.Machine

open Sys2Proof

/-! ## Image selection (R72) -/

/-- What the boot record in FRAM names (R72, R384): the active set, trial state, trial starts and the rollback counter. -/
def BootSt.record (b : BootSt) : Bool × Bool × Nat × Nat := (b.activeB, b.trial, b.tries, b.rollback)

/-- Where the boot record has changed since `before`, its mirror in flash is out of date (R71). -/
def State.noteBoot (before s : State) : State :=
  if s.boot.record = before.boot.record then s else { s with boot := { s.boot with mirror := true } }

/-- The boot ROM selects one whole image set at a start of MGT, its signatures checked anew (R72); a start from a set on trial arms the
timer (R385). -/
def State.bootPick (s : State) : State :=
  let b := s.boot
  let a := b.active
  let o := b.other
  let key := s.keys.opKey
  if a.valid key b.rollback && !(b.trial && decide (3 ≤ b.tries)) then
    { s with boot := { b with tries := if b.trial then b.tries + 1 else b.tries, fallback := false, fromTrial := b.trial, timer := b.trial,
                              recovery := false, write := none } }
  else if o.valid key b.rollback then
    let gone : ImgSet := { a with st := if a.valid key b.rollback then 3 else if 3 ≤ a.st then 0 else a.st }
    let b1 := (b.putActive gone).putOther { o with st := 5 }
    { s with boot := { b1 with activeB := !b.activeB, trial := false, tries := 0, fallback := true, fromTrial := false, timer := false,
                               recovery := false, write := none } }.raise .unit 1
  else
    { s with boot := { b with fallback := false, fromTrial := false, timer := false, recovery := true, write := none } }

/-- The selection at a start of MGT, which leaves the mirror of a changed boot record for a later burst (R71, R72). -/
def State.bootSelect (s : State) : State := State.noteBoot s s.bootPick

/-- The state of the lid at a start of MGT is logged (service note of R375), with the fields of a TYPE 6 record (R460). -/
def State.noteLid (s : State) : State := s.note 6 0 (s.reg .mgt 0xEC) 0 0

/-! ## What a start restores -/

/-- Settings restored to PRG from FRAM (R181, R215). -/
def State.restoreRing (s : State) : State :=
  let t := ((s.setReg (.port 0) 0x40 (s.fram.portCfg.getD 0 0x63)).setReg (.port 1) 0x40 (s.fram.portCfg.getD 1 0x63)).setReg .ring 0x40
    (s.fram.ringCfg &&& 3)
  t.followHsr

/-- Settings restored to MGT from FRAM (R86, R367, R392, R410). -/
def State.restoreMgt (s : State) : State :=
  let t := (s.setReg .mgt 0x40 s.fram.mgtNet).setReg .yem 0x40 s.fram.yemCfg
  let t1 := ((t.setReg .mgt 0x44 (s.fram.mgtIp.getD 0 0)).setReg .mgt 0x48 (s.fram.mgtIp.getD 1 0)).setReg .mgt 0x4C (s.fram.mgtIp.getD 2 0)
  (t1.setField .mgt 0xEC 31 16 s.fram.lidCount).setReg .unit 0x50 s.fram.resetStat

/-- Keep COUNT, ISSUER, CAUSE and KEPT_RING in FRAM (R86). -/
def State.saveResetStat (s : State) : State := { s with fram := { s.fram with resetStat := s.reg .unit 0x50 &&& 0xFFF0FF04 } }

/-- The multiplexers at a start of MGT: on the PLL where it runs (R365); a hung one stays hung (R346). -/
def State.startClocks (s : State) : State :=
  (List.range 16).foldl (fun t i => if t.muxBusy i then t else (t.setBit .clk 0x44 i (t.sourceOk i true)).followClock i) s

/-- Islands held back in recovery mode (R73): all but FAB, PRG, MGT and SAF. -/
def State.holdRecovery (s : State) : State :=
  if s.boot.recovery then
    ((Island.shedFirst).foldl (fun t i => t.setIsland i { t.island i with cold := true, ready := false }) s).releaseReady
  else s

/-! ## Sessions -/

/-- End a KRDS session (R389): its locks go, its end is recorded. -/
def State.endKrds (s : State) (x : KrdsSession) : State :=
  let t := { s with krds := s.krds.filter (fun y => y.id ≠ x.id) }
  (t.noteSession 12 false x.operate x.peer x.served).unlockBy (fun m => m = .krds)

/-- End the console's Yemor session (R396). -/
def State.endConsole (s : State) : State :=
  if !s.console.open_ then s
  else
    let t := { s with console := { s.console with open_ := false, served := 0 } }
    ((t.raise .yem 1).noteSession 7 false false 0 (s.console.served)).unlockBy (fun m => m = .yemor)

/-! ## Unit resets -/

/-- The pages in MGT but the meter's. -/
def mgtCode (c : Nat) : Bool := match Page.ofIndex c with | some p => decide (p.island = .mgt) && decide (p ≠ .met) | none => false

/-- MGT is cleared and restarts (R85, R381): its pages, sessions and every lock; what FRAM keeps is restored, and what shows the
rails, the switches and a fault that only a mains cold start clears (R354) stays. -/
def State.resetMgt (s : State) : State :=
  let s1 := (s.krds.foldl State.endKrds s).endConsole.abortFrames (fun x => x.loc = .mgtIn)
  let s2 := s1.unlockBy (fun _ => true)
  let rail := s2.field .isl 0x50 18 16
  let keep : List (Page × Nat × Word) :=
    [(.pwr, 0x54, s2.reg .pwr 0x54), (.pwr, 0x80, s2.reg .pwr 0x80), (.pwr, 0x84, s2.reg .pwr 0x84), (.pwr, 0x88, s2.reg .pwr 0x88 &&& 0xB),
     (.clk, 0x48, s2.reg .clk 0x48), (.unit, 0x40, s2.reg .unit 0x40), (.unit, 0x44, s2.reg .unit 0x44), (.unit, 0x48, s2.reg .unit 0x48),
     (.mgt, 0xEC, s2.reg .mgt 0xEC)]
  let s3 := keep.foldl (fun t e => t.setReg e.1 e.2.1 e.2.2) (s2.clearPages mgtCode)
  let s4 := (s3.setField .isl 0x50 18 16 rail).setReg .hlnk 0x4C (resetWord .hlnk 0x4C)
  let r := State.reset
  let s5 := { s4 with console := r.console, twp := r.twp, sens := r.sens, safBox := r.safBox, keys := { s4.keys with part := [] },
                      host := { s4.host with pme := r.host.pme }, log := { s4.log with burst := none },
                      clk := { s4.clk with change := none } }
  s5.restoreMgt.startClocks.bootSelect.noteLid

/-- The islands of a unit reset (R85). -/
def resetScope (keepRing : Bool) : List Island := Island.shedFirst ++ (if keepRing then [] else [.prg, .fab])

/-- End the frames that wait for dispatch to a cluster of the scope; their cells go back (R82). -/
def State.dropDispatch (s : State) (l : List Island) : State :=
  s.abortFrames (fun x => match x.loc with | .dispatch c _ => l.contains (.nyc (Fin.ofNat 8 c)) | _ => false)

/-- Clear the islands of a scope at once: their work is ended (R363), their content lost, and they restart (log entry 40). An island
that a shed took to S2 restarts with them (DESIGN CHOICE, log entry 98: no rule says what a unit reset in U2 does to it). -/
def State.clearScope (s : State) (l : List Island) : State :=
  let s1 := (l.foldl State.abortIsland s).dropDispatch l
  let s2 := l.foldl (fun t i => (t.clearIsland i).islandLocks i) s1
  let s3 := l.foldl (fun t i => t.setIsland i { IslSt.reset with noClock := (t.island i).noClock }) s2
  if l.contains .prg then s3.restoreRing else s3

/-- A unit reset (R81, R82): master, scope and cause; the operator programs of the active set are loaded after it (R314). -/
def State.unitReset (s : State) (m : Master) (selMgt keepRing : Bool) (cause : Nat) : State :=
  let s1 := ((s.addSat .unit 0x50 31 24 1).setField .unit 0x50 23 20 m.num).setField .unit 0x50 15 8 cause
  let s2 := ((s1.setBit .unit 0x50 2 keepRing).setBit .unit 0x50 0 true).saveResetStat.releaseReady
  let s3 := s2.clearScope (resetScope keepRing)
  let s4 := if selMgt then s3.resetMgt.setBit .unit 0x50 0 true else s3.startClocks
  let s5 := { s4 with boot := { s4.boot with mgtSel := selMgt } }
  (s5.holdRecovery.loadPrograms (fun _ => true)).followLevels

/-- A reset in progress is extended to MGT (R81): CAUSE reads 3, KEEP_RING and ISSUER stay. -/
def State.extendReset (s : State) : State :=
  let s1 := (s.setField .unit 0x50 15 8 3).saveResetStat
  let s2 := s1.resetMgt.setBit .unit 0x50 0 true
  ({ s2 with boot := { s2.boot with mgtSel := true } }.holdRecovery.loadPrograms (fun _ => true)).followLevels

/-- UNIT_RESET_STAT.IN_PROGRESS. -/
def State.inProgress (s : State) : Bool := bitOn (s.reg .unit 0x50) 0

/-- A write of UNIT_RESET (R81). Only masters 1, 6, 7 and 12 issue a unit reset (R80). -/
def State.unitResetWrite (s : State) (m : Master) (v : Word) : State :=
  if !bitOn v 0 || !(m.overseer || decide (m = .yemor)) then s
  else if fld v 31 16 ≠ 0x4B52 then s.raise .unit 2
  else if !s.inProgress then s.unitReset m (bitOn v 1) (bitOn v 2) (if bitOn v 1 then 3 else 2)
  else if bitOn v 1 && !s.boot.mgtSel then s.extendReset
  else s.raise .unit 2

/-! ## Island cold resets -/

/-- An island cold reset begins (R80, R85): the island drains where it can; one in S1 or S2 or without a clock is held at once.
That of FAB acts as a unit reset without KEEP_RING by master 6, that of HOST as a host link reset too; MGT and SAF have none. -/
def State.coldReset (s : State) (i : Island) : State :=
  if 16 ≤ i.num then s
  else if i = .fab then
    ((s.setBit .clk 0x48 1 false).setBit .clk 0x44 1 false).unitReset .mgt false false 2
  else
    let t := if i = .host then s.releaseReady.linkOff else s
    if t.runs i then t.setIsland i { t.island i with entry := .resetting } else t.holdCold i

/-- A write of ISL_COLDRST by master 6 (R364). -/
def State.coldWrite (s : State) (m : Master) (v : Word) : State :=
  match Island.ofNum (fld v 4 0) with
  | some i => if m = .mgt ∧ fld v 31 16 = 0x4943 then s.coldReset i else s
  | none => s

/-- COLDRST_DONE (R314, R364): the reset ends and the island restarts; an NYC island's operator programs are loaded again. In recovery mode only FAB and
PRG are started (R73). -/
def execColdrstDone (i : Island) (s : State) : Host.Outcome State Fault Refusal :=
  let x := s.island i
  let t := if x.entry = .resetting then s.holdCold i else s
  if !(t.island i).cold || (t.boot.recovery && decide (i ≠ .prg) && decide (i ≠ .fab)) then .next s
  else
    let t1 := t.restart i
    let t2 := match i with
      | .prg => t1.restoreRing
      | .nyc c => t1.loadPrograms (fun k => decide (k = c.val))
      | _ => t1
    .next (t2.raise .isl 4)

/-! ## Start and readiness -/

/-- MAINS_COLD_START (R70, R85): MAINS_GOOD first reads 1 after the store was exhausted. FRAM, flash, the image store and the keys
are kept; everything else starts at its reset value, the rails at the level the reset values of ISL_PL ask for. -/
def execMainsColdStart (s : State) : Host.Outcome State Fault Refusal :=
  if s.pwr.started || !(s.pwr.a.good || s.pwr.b.good) then .next s
  else
    let r := State.reset
    let t : State := { r with
      log := { s.log with wins := [], burst := none, busyOp := none, opHeld := false, reErase := s.log.reErase || decide (s.log.busyOp = some BurstKind.erase), sens := [] },
      pwr := { s.pwr with shed := 0, gasp := false, noBurst := false, testing := false, retry := false, started := true },
      boot := { s.boot with mgtSel := false }, keys := { s.keys with part := [] }, fram := { s.fram with resetStat := 0x100 },
      host := { r.host with perst := s.host.perst }, meter := s.meter, out := s.out, pending := s.pending,
      saf := { s.saf with started := false, testing := false, high := false, low := false }, gates := [], nextId := s.nextId,
      clk := { r.clk with levels := List.replicate 10 4, assist := false } }
    let ids : List (Page × Nat) := [(.unit, 0x40), (.unit, 0x44), (.unit, 0x48), (.pwr, 0x54), (.pwr, 0x44), (.pwr, 0x48), (.mgt, 0xEC)]
    let t1 := ids.foldl (fun u e => u.setReg e.1 e.2 (s.reg e.1 e.2)) t
    let t2 := ((t1.setField .isl 0x50 18 16 4).setReg .pwr 0x80 (word (900 * 2 ^ 16 + 900))).setReg .pwr 0x84 (word (900 * 2 ^ 16 + 900))
    let t3 := (t2.setField .pwr 0x88 1 0 3).restoreMgt.restoreRing.startClocks
    .next (t3.bootSelect.noteLid.holdRecovery.loadPrograms (fun _ => true)).followLevels

/-- UNIT_READY_ASSERT (R75, R86, R87): the endpoint can answer; READY_MS, and the end of a unit reset. -/
def execUnitReadyAssert (ms : Nat) (s : State) : Host.Outcome State Fault Refusal :=
  if s.host.ready || !s.pwr.started || s.boot.recovery || !s.runs .host || !s.runs .fab || 3 ≤ s.pwr.shed then .next s
  else
    let t := { s with host := { s.host with ready := true, startMs := ms } }
    let t1 := (Island.switchable ++ [Island.mgt, Island.saf]).foldl (fun u i =>
      if (u.island i).awake then u.setIsland i { u.island i with ready := true } else u) t
    if s.inProgress then .next ((t1.setBit .unit 0x50 0 false).raise .unit 0) else .next t1

/-- READY_LATE (R87): a start exceeds its bound of R70 or R75. -/
def execReadyLate (s : State) : Host.Outcome State Fault Refusal :=
  if s.host.ready || !s.pwr.started then .next s else .next (s.raise .unit 3)

end Sys2Proof.Machine
end

