-- ==== Sys2Proof/Machine/Saf.lean ====
section
/-!
DEFINITION. Machine/Saf.lean: the safety partition (chapter 19): causes and their release (R415, R424), telegrams (R419 to R423),
parameters and commissioning (R425 to R430), start and restart (R431, R432) and what SAF publishes (R414, R435).
-/
namespace Sys2Proof.Machine

open Sys2Proof

/-- Change SAF's own state. -/
def State.setSaf (s : State) (x : SafSt) : State := { s with saf := x }

/-- Is SAFE_OUT energised: both switches closed (R416)? -/
def SafSt.on (x : SafSt) : Bool := x.high && x.low

/-! ## The parameter block (R425) -/

/-- A peer's bits: 0 VALID, 1 ACCEPT_STOP, 2 ACCEPT_RELEASE, 3 SEND_STOP, 4 WATCHED. -/
def SafSt.peerBit (x : SafSt) (k i : Nat) : Bool := nbit (byteAt x.block (32 + 8 * k + 6)) i
/-- A peer's address. -/
def SafSt.peerAddr (x : SafSt) (k : Nat) : Nat := beAt x.block (32 + 8 * k) 4
/-- A peer's watchdog time, where 0 stands for 20 ms. -/
def SafSt.peerWdog (x : SafSt) (k : Nat) : Nat := let w := beAt x.block (32 + 8 * k + 4) 2; if w = 0 then 20 else w
/-- ESTOP_EN.USE and ESTOP_EN.LOCAL. -/
def SafSt.useEstop (x : SafSt) : Bool := nbit (byteAt x.block 26) 0
def SafSt.useLocal (x : SafSt) : Bool := nbit (byteAt x.block 26) 1
/-- A peer's live state. -/
def SafSt.peer (x : SafSt) (k : Nat) : PeerSt := x.peers.getD k PeerSt.reset
/-- The VALID peers. -/
def SafSt.validPeers (x : SafSt) : List Nat := (List.range 8).filter (fun k => !x.block.isEmpty && x.peerBit k 0)

/-- Are bytes i to i + n − 1 all 0? -/
def zeros (b : List Byte) (i n : Nat) : Bool := (slice b i n).all (fun x => x = 0)

/-- Does safety list p of a block keep its limits? -/
def listOk (b : List Byte) (p : Nat) : Bool :=
  let o := 128 + 272 * p
  let n := beAt b (o + 12) 2
  let c := beAt b (o + 8) 4
  decide (n ≤ 64) && (decide (n = 0) || (decide (1000 ≤ c) && decide (c ≤ 1000000000))) && zeros b (o + 14) 2 && zeros b (o + 16 + 4 * n) (256 - 4 * n)

/-- Does peer k of a block keep its limits? -/
def peerOk (b : List Byte) (k : Nat) : Bool :=
  let w := beAt b (32 + 8 * k + 4) 2
  (decide (w = 0) || (decide (5 ≤ w) && decide (w ≤ 1000))) && decide (byteAt b (32 + 8 * k + 6) < 32) && zeros b (32 + 8 * k + 7) 1

/-- Why a block is refused (R427): 3 its CRC, 2 its format or a limit, 0 not at all. -/
def blockFault (b : List Byte) : Nat :=
  let own := beAt b 8 4
  if b.length ≠ 2048 then 2
  else if safCrc (b.take 2044) ≠ beAt b 2044 4 then 3
  else if beAt b 0 4 = 0x4B505450 ∧ beAt b 4 2 = 1 ∧ zeros b 6 2 ∧ own ≠ 0 ∧ own ≠ 0xFFFFFFFF ∧ beAt b 12 2 ≤ 4095 ∧ 0x0600 ≤ beAt b 14 2 ∧
      nbit (byteAt b 16) 0 ∧ byteAt b 22 < 4 ∧ zeros b 23 1 ∧ 1 ≤ beAt b 24 2 ∧ beAt b 24 2 ≤ 100 ∧ byteAt b 26 < 4 ∧ zeros b 27 5 ∧
      (List.range 8).all (peerOk b) ∧ zeros b 96 32 ∧ [0, 1, 2, 3].all (listOk b) ∧ zeros b 1216 828 then 0
  else 2

/-- Safety list p of a block as a list of pegs. -/
def listOf (b : List Byte) (p : Nat) : PegList :=
  let o := 128 + 272 * p
  let n := beAt b (o + 12) 2
  { base := beAt b o 8, cycle := beAt b (o + 8) 4, len := n,
    pegs := (List.range n).foldl (fun m i => Sparse.set (pegReset i) m i (word (beAt b (o + 16 + 4 * i) 4))) [] }

/-- Load the safety lists of the block in use: an enabled one as pending with its swap armed (R429, step 6), a list with LEN 0
disabled. -/
def State.loadLists (s : State) : State :=
  [0, 1, 2, 3].foldl (fun t p =>
    let g := t.gate p
    let l := listOf t.saf.block p
    if t.saf.block.isEmpty || l.len = 0 then t.setGate p { g with safOn := false, saf := PegList.reset, safPend := PegList.reset, safArmed := none, safPeg := 0 }
    else t.setGate p { g with safPend := l, safArmed := some (swapInstant l t.ptp.time).1 }) s

/-! ## Telegrams (R419, R422) -/

/-- The 64 bytes of a telegram. -/
def telegram (dst own seq cmd wdog : Nat) (payload : List Byte) (echo : Nat) : List Byte :=
  let b := beBytes 4 dst ++ beBytes 4 own ++ beBytes 4 seq ++ [1, BitVec.ofNat 8 cmd] ++ beBytes 2 wdog ++ slice payload 0 24 ++ beBytes 4 echo ++
    List.replicate 16 0
  b ++ beBytes 4 (safCrc b)

/-- Send a telegram: a frame of class 7 from the safety reserve on the ring ports, the uplink pair or both (R167, R213, R216, R221,
R419). -/
def State.sendTelegram (s : State) (ring pair : Bool) (dst cmd wdog : Nat) (payload : List Byte) (echo : Nat) : State :=
  let x := s.saf
  if x.block.isEmpty then s
  else
    let n := x.seq + 1
    let t := s.setSaf { x with seq := n, sent := x.sent + 1 }
    let body := slice x.block 16 6 ++ beBytes 6 s.ringMac ++ [0x81, 0x00] ++ beBytes 2 (0xE000 + beAt x.block 12 2) ++ slice x.block 14 2 ++
      telegram dst (beAt x.block 8 4) n.toNat cmd wdog payload echo
    if !s.runs .fab then t
    else
      match t.admitPart .safety 1 with
      | none => t
      | some u =>
          let f : Frame := { id := u.nextId, part := .safety, cells := 1, nonets := stitched body [], func := false, src := 6, wq := 0, last := 0,
                             dclass := 0, tc := 7, pcp := 7, ns := 0, sec := 0, tag := 0, txf := 0, tun := 0, sa := 0, room := 0, gate := none,
                             dest := 0, flags := 0, seq := none, group := u.nextId, bad := false, esp := false, loc := .safIn }
          let v := { u with frames := u.frames ++ [f], nextId := u.nextId + 1 }
          let r := if ring then v.ringTargets else (v, [])
          let q := if pair then r.1.pairTargets else (r.1, [])
          q.1.fanOut f (r.2 ++ q.2)

/-- Send peer k a HEARTBEAT or a STOP with its payload, on the ports of PORTS. -/
def State.sendPeer (s : State) (k : Nat) (stop : Bool) : State :=
  let x := s.saf
  let c := beBytes 2 x.cause.toNat
  s.sendTelegram (nbit (byteAt x.block 22) 0) (nbit (byteAt x.block 22) 1) (x.peerAddr k) (if stop then 2 else 1) (x.peerWdog k)
    (if stop then c else c ++ [BitVec.ofNat 8 x.on.toNat, BitVec.ofNat 8 (x.actA.toNat + 2 * x.actB.toNat)])
    (if (x.peer k).any then (x.peer k).last.toNat else 0)

/-- The telegrams of a cycle (R422): a STOP to a peer with SEND_STOP while a cause other than TELEGRAM_STOP is set, else a
HEARTBEAT; in LOCKOUT only STOPs (R432). -/
def State.sendCycle (s : State) : State :=
  s.saf.validPeers.foldl (fun t k =>
    let stop := t.saf.peerBit k 3 && decide (t.saf.cause &&& ~~~(0x20 : BitVec 12) ≠ 0)
    if t.saf.cause.getLsbD 11 then t.sendPeer k true else t.sendPeer k stop) s

/-! ## Causes (R415) -/

/-- Raise event b of SAF.0: where it newly stands, one applied write of master 9 makes it visible (R44). -/
def State.safRaise (s : State) (b : Nat) : State :=
  (if bitOn (s.reg (.saf 0) 0x10) b then s else s.count (.saf 0) 0x2C).raise (.saf 0) b

/-- Raise it where `c` holds. -/
def State.safRaiseIf (s : State) (c : Bool) (b : Nat) : State := if c then s.safRaise b else s

/-- Set cause n: SAFE_OUT opens, and where it is the first but TELEGRAM_STOP, a STOP leaves at once (R422). -/
def State.setCause (s : State) (n : Nat) : State :=
  let x := s.saf
  let c := x.cause ||| BitVec.ofNat 12 (2 ^ n)
  if c = x.cause then s
  else
    let t := (s.setSaf { x with cause := c, high := false, low := false }).safRaiseIf x.on 0
    if x.started && decide (x.cause &&& ~~~(0x20 : BitVec 12) = 0) && decide (n ≠ 5) then
      (x.validPeers.filter (fun k => x.peerBit k 3)).foldl (fun u k => u.sendPeer k true) t
    else t

/-- Clear causes; with none left SAFE_OUT is energised and RELEASED raised. -/
def State.clearCauses (s : State) (m : BitVec 12) : State :=
  let x := s.saf
  let c := x.cause &&& ~~~m
  if c = x.cause then s
  else if c = 0 && x.started then (s.setSaf { x with cause := c, high := true, low := true }).safRaise 1
  else s.setSaf { x with cause := c }

/-- The causes whose release condition holds now. -/
def SafSt.releasable (x : SafSt) : BitVec 12 :=
  let watched := x.validPeers.all (fun k => !x.peerBit k 4 || decide (3 ≤ (x.peer k).run))
  (if watched then 0x042 else 0) ||| (if x.quiet then 0x01C else 0) ||| (if x.anyStop then 0 else 0x020) ||| 0x180 |||
    (if x.heldLoc ≠ 0 then 0x200 else 0)

/-! ## Receiving (R421 to R424) -/

/-- The reason for which a telegram is discarded, checks 2 to 8 of R421, and the peer it names; 0 passes. -/
def SafSt.judge (x : SafSt) (b : List Byte) : Nat × Option Nat :=
  let k := x.validPeers.find? (fun k => decide (x.peerAddr k = beAt b 4 4))
  if b.length ≠ 64 then (1, none)
  else if safCrc (b.take 60) ≠ beAt b 60 4 then (2, none)
  else if byteAt b 12 ≠ 1 || !zeros b 44 16 then (3, none)
  else if beAt b 0 4 ≠ beAt x.block 8 4 && beAt b 0 4 ≠ 0xFFFFFFFF then (4, none)
  else
    match k with
    | none => (5, none)
    | some k =>
        let p := x.peer k
        let d := (word (beAt b 8 4) - p.last).toNat
        let cmd := byteAt b 13
        if beAt b 14 2 ≠ x.peerWdog k then (6, some k)
        else if p.any && (d = 0 || 2 ^ 31 ≤ d) then (7, some k)
        else if cmd = 0 || 4 < cmd || (cmd = 2 && !x.peerBit k 1) || (cmd = 3 && !x.peerBit k 2) then (8, some k)
        else (0, some k)

/-- Count a discarded telegram with its reason; one of a known peer that is no repeat breaks its run of valid ones. -/
def State.discardTel (s : State) (r : Nat) (k : Option Nat) : State :=
  let x := s.saf
  let ps := match k with | some j => if r = 7 then x.peers else setAt PeerSt.reset x.peers j { x.peer j with run := 0 } | none => x.peers
  s.setSaf { x with rxBad := x.rxBad + 1, rxLast := r, peers := ps }

/-- Act on a telegram from peer k that passed every check: its watchdog restarts, and its command acts (R423, R424). -/
def State.actTel (s : State) (k : Nat) (b : List Byte) : State :=
  let x := s.saf
  let cmd := byteAt b 13
  let p : PeerSt := { x.peer k with last := word (beAt b 8 4), any := true, expired := false, run := (x.peer k).run + 1, ms := 0,
                                    stop := (x.peer k).stop || cmd = 2 }
  let t := s.setSaf { x with rxOk := x.rxOk + 1, peers := setAt PeerSt.reset x.peers k p, anyStop := x.anyStop || cmd = 2,
                             heldRel := if cmd = 3 then x.heldRel + 1 else x.heldRel,
                             gasp := if cmd = 4 then word (beAt b 4 4) else x.gasp }
  if cmd = 2 then t.setCause 5 else if cmd = 4 then t.safRaise 10 else t

/-- Judge a telegram and act on it. -/
def State.takeTel (s : State) (b : List Byte) : State :=
  match s.saf.judge b with
  | (0, some k) => s.actTel k b
  | (r, k) => s.discardTel r k

/-- A telegram of one command arrives at SAF while it runs with a parameter block. -/
def State.telOf (s : State) (cmd : Nat) (b : List Byte) : State :=
  if s.saf.started && !s.saf.block.isEmpty && byteAt b 13 = cmd then s.takeTel b else s

/-- KPT_RX (R421): SAF judges a KPT frame that the parser handed it; its cells return. -/
def execKptRx (id : Nat) (s : State) : Host.Outcome State Fault Refusal :=
  match s.frame id with
  | none => .next s
  | some x =>
      if x.loc ≠ .safIn then .next s
      else
        let b := x.body
        let hsr := (hsrPos b).isSome
        let tel := b.drop (etherPos hsr b + 2)
        if x.bad then .next (s.endFrame x (.drop 6))
        else
          let t := s.endFrame x .sent
          if !t.saf.started || t.saf.block.isEmpty then .next t else .next (t.takeTel tel)

/-- HEARTBEAT (R423). -/
def execHeartbeat (tel : List Byte) (s : State) : Host.Outcome State Fault Refusal := .next (s.telOf 1 tel)

/-- STOP (R424): TELEGRAM_STOP is set and SAFE_OUT opens at once. -/
def execStopTelegram (tel : List Byte) (s : State) : Host.Outcome State Fault Refusal := .next (s.telOf 2 tel)

/-- RELEASE (R424): held to the end of the cycle. -/
def execRelease (tel : List Byte) (s : State) : Host.Outcome State Fault Refusal := .next (s.telOf 3 tel)

/-- DYING_GASP (R423): logged in SAF_LAST_GASP, and GASP_RX raised. -/
def execDyingGasp (tel : List Byte) (s : State) : Host.Outcome State Fault Refusal := .next (s.telOf 4 tel)

/-- TELEGRAM_CYCLE_END (R422, R424): held releases act, or are dropped where a STOP was accepted; then the telegrams of the
next cycle leave. -/
def execTelegramCycleEnd (s : State) : Host.Outcome State Fault Refusal :=
  let x := s.saf
  if !x.started then .next s
  else
    let held := x.heldRel + x.heldLoc
    let t := if held = 0 then s
      else if x.anyStop then s.setSaf { x with dropped := x.dropped + word held }
      else s.clearCauses x.releasable
    let y := t.saf
    let tick (p : PeerSt) : PeerSt := { p with stop := false, ms := min 65535 (p.ms + beAt y.block 24 2) }
    .next ((t.setSaf { y with heldRel := 0, heldLoc := 0, anyStop := false, peers := y.peers.map tick }).sendCycle)

/-- KPT_WATCHDOG_EXPIRY (R423): a WATCHED peer has been silent longer than WDOG_MS. -/
def execKptWatchdogExpiry (k : Fin 8) (s : State) : Host.Outcome State Fault Refusal :=
  let x := s.saf
  if x.started && x.validPeers.contains k.val && x.peerBit k.val 4 then
    let t := s.setSaf { x with peers := setAt PeerSt.reset x.peers k.val { x.peer k.val with expired := true, run := 0 } }
    .next ((t.setCause 6).safRaise 2)
  else .next s

/-! ## Inputs and outputs (R415 to R418) -/

/-- ESTOP_INPUT_CHANGE (R417): a debounced input becomes active or inactive. `quiet` tells that both have been inactive for
500 ms. -/
def execEstopInputChange (inB active quiet : Bool) (s : State) : Host.Outcome State Fault Refusal :=
  let x := s.saf
  let a := if inB then x.actA else active
  let b := if inB then active else x.actB
  let t := s.setSaf { x with actA := a, actB := b, quiet := quiet && !a && !b }
  if active && x.useEstop && x.started then .next (t.setCause 2) else .next t

/-- ESTOP_RAW_CHANGE (R415, R417): a raw reading changes; `recent` counts the changes of this input in the last 100 ms with
this one. -/
def execEstopRawChange (_inB _high : Bool) (recent : Nat) (s : State) : Host.Outcome State Fault Refusal :=
  let x := s.saf
  if decide (4 < recent) && x.useEstop && x.started && !x.cause.getLsbD 4 then .next ((s.setCause 4).safRaise 4) else .next s

/-- DISCREPANCY (R415): A and B have differed for more than 100 ms. -/
def execDiscrepancy (s : State) : Host.Outcome State Fault Refusal :=
  let x := s.saf
  if x.started && x.useEstop && (x.actA != x.actB) && !x.cause.getLsbD 3 then .next ((s.setCause 3).safRaise 3) else .next s

/-- LOCAL_RESET (R418, R424): RESET_IN goes low after 100 ms to 5 s; held to the end of the cycle. -/
def execLocalReset (ms : Nat) (s : State) : Host.Outcome State Fault Refusal :=
  let x := s.saf
  if x.started && x.useLocal && decide (100 ≤ ms) && decide (ms ≤ 5000) then
    .next (s.setSaf { x with rstIn := false, heldLoc := x.heldLoc + 1 })
  else .next (s.setSaf { x with rstIn := false })

/-- SAFE_OUT_TEST (R416): the switches are opened in turn and read back while SAFE_OUT is energised. -/
def execSafeOutTest (ok : Bool) (s : State) : Host.Outcome State Fault Refusal :=
  if s.saf.on && !ok then .next ((s.setCause 9).safRaise 5) else .next s

/-- OUT_SUPPLY_LOW (R415): SAF_24V falls below 19.2 V. -/
def execOutSupplyLow (mv : Nat) (s : State) : Host.Outcome State Fault Refusal :=
  if mv < 19200 then
    let t := s.setSaf { s.saf with supply := false }
    .next (if s.saf.started then t.setCause 10 else t)
  else .next s

/-- OUT_SUPPLY_RESTORED (R415): SAF_24V at or above 20.4 V for 100 ms; the cause clears by itself. -/
def execOutSupplyRestored (mv : Nat) (s : State) : Host.Outcome State Fault Refusal :=
  if 20400 ≤ mv then .next ((s.setSaf { s.saf with supply := true }).clearCauses 0x400) else .next s

/-! ## Start and restart (R431, R432) -/

/-- Begin operation after a self-test: START and further causes; UNCOMMISSIONED without a valid block. -/
def State.beginSaf (s : State) (b : List Byte) (count : Word) (more : BitVec 12) : State :=
  let x := s.saf
  let c : BitVec 12 := 0x002 ||| more ||| (if b.isEmpty then 0x001 else 0) ||| (if x.supply then 0 else 0x400) |||
    (if !b.isEmpty && nbit (byteAt b 26) 0 && (x.actA || x.actB) then 0x004 else 0)
  let y : SafSt := { SafSt.reset with
    cause := c, supply := x.supply, actA := x.actA, actB := x.actB, rstIn := x.rstIn, quiet := x.quiet, block := b, count := count, store := x.store, key1 := x.key1,
    key2 := x.key2, doneSeq := s.field .mbxSaf 0x40 15 0, rest24 := x.rest24, restAll := x.restAll, started := true }
  let t := s.clearPages (fun k => decide (k = 39) || decide (k = 40))
  let u := (t.setSaf y).setIsland .saf { t.island .saf with ready := true }
  u.loadLists

/-- Show the parameter block on SAF.1 (R414, R425) in one applied write. -/
def State.publishBlock (s : State) : State :=
  let b := s.saf.block
  let t := (List.range 512).foldl (fun u i => u.setReg (.saf 1) (0x40 + 4 * i) (word (leAt b (4 * i) 4))) s
  t.add (.saf 1) 0x2C 31 0 1

/-- The copy a start loads (R431): the one that keeps its CRC and limits with the higher count. -/
def bestCopy (l : List (List Byte × Nat)) : List Byte × Nat :=
  (l.filter (fun c => blockFault c.1 = 0)).foldl (fun a c => if a.1.isEmpty || a.2 < c.2 then c else a) ([], 0)

/-- SAF_START (R431): SAF ends its self-test at step 1 of R70 and begins its telegram cycles. `copies` are those of its store that read
back as they were written. -/
def execSafStart (copies : List (List Byte × Nat)) (s : State) : Host.Outcome State Fault Refusal :=
  if s.saf.started || s.saf.testing || !s.pwr.started then .next s
  else
    let c := bestCopy (copies.filter s.saf.store.contains)
    .next (((s.setSaf { s.saf with rest24 := 0, restAll := 0 }).beginSaf c.1 (word c.2) 0).publishBlock.sendCycle)

/-- SAF_INTERNAL_FAULT (R432): SAFE_OUT opens and a safety restart starts. -/
def execSafInternalFault (s : State) : Host.Outcome State Fault Refusal :=
  let x := s.saf
  if !x.started then .next s
  else .next ((s.setSaf { x with started := false, testing := true, high := false, low := false }).safRaiseIf x.on 0)

/-- SAF_RESTART_DONE (R432): the restart ends with RESTART, or with LOCKOUT where it is the third within 24 h (`within` counts
this one). -/
def execSafRestartDone (within : Nat) (s : State) : Host.Outcome State Fault Refusal :=
  let x := s.saf
  if !x.testing then .next s
  else
    let lock := decide (3 ≤ within) || x.cause.getLsbD 11
    let t := s.setSaf { x with rest24 := within, restAll := x.restAll + 1 }
    let u := t.beginSaf x.block x.count (if lock then 0x800 else 0x100)
    .next ((u.safRaise (if lock then 9 else 8)).publishBlock.sendCycle)

/-! ## Commissioning (R426 to R429) -/

/-- A key slot's key. -/
def SafSt.key (x : SafSt) (slot : Nat) : List Byte := if slot = 1 then x.key1 else if slot = 2 then x.key2 else []

/-- Is this a request that SAF has not finished, at a SAF that runs (R430)? -/
def State.asked (s : State) (seq : BitVec 16) : Bool := s.saf.started && decide (s.saf.doneSeq ≠ seq.toNat)

/-- A request ends refused: STATE 4 and its REASON. -/
def State.refuseSaf (s : State) (reason : Nat) (keep : Bool) (seq : Nat) : State :=
  let x := s.saf
  let y := if keep then x else { x with prop := [], propBy := 0, auth1 := false, auth2 := false }
  (s.setSaf { y with comm := 4, reason := reason, doneSeq := seq }).safRaise 7

/-- PROPOSE (R427): the block and its first signature. -/
def execPropose (block : List Byte) (slot : Nat) (sigOk : Bool) (seq : BitVec 16) (s : State) : Host.Outcome State Fault Refusal :=
  let x := s.saf
  let n := seq.toNat
  if !s.asked seq then .next s
  else if (x.key slot).isEmpty then .next (s.refuseSaf 5 false n)
  else if blockFault block ≠ 0 then .next (s.refuseSaf (blockFault block) false n)
  else if !sigOk then .next (s.refuseSaf 1 false n)
  else .next (s.setSaf { x with prop := block, propBy := slot, auth1 := decide (slot = 1), auth2 := decide (slot = 2), comm := slot, reason := 0,
                                doneSeq := n })

/-- Apply the pending block (R429), in its order; an input that is active under the block's ESTOP_EN.USE sets ESTOP (R415, R417). -/
def State.applyBlock (s : State) (seq : Nat) : State :=
  let t := s.setCause 7
  let x := t.saf
  let y : SafSt := { x with block := x.prop, count := x.count + 1, store := List.replicate 2 (x.prop, (x.count + 1).toNat), prop := [], propBy := 0, comm := 3, reason := 0, auth1 := true, auth2 := true,
                            doneSeq := seq, peers := List.replicate 8 PeerSt.reset,
                            cause := (x.cause &&& ~~~(0x001 : BitVec 12)) |||
                              (if nbit (byteAt x.prop 26) 0 && (x.actA || x.actB) then 0x004 else 0) }
  ((t.setSaf y).publishBlock.loadLists).safRaise 6

/-- CONFIRM (R427, R429): the second signature, made with the other slot. -/
def execSafConfirm (slot : Nat) (sigOk : Bool) (seq : BitVec 16) (s : State) : Host.Outcome State Fault Refusal :=
  let x := s.saf
  let n := seq.toNat
  if !s.asked seq then .next s
  else if x.prop.isEmpty then .next (s.refuseSaf 2 true n)
  else if (x.key slot).isEmpty then .next (s.refuseSaf 5 true n)
  else if slot = x.propBy then .next (s.refuseSaf 4 true n)
  else if !sigOk then .next (s.refuseSaf 1 true n)
  else .next (s.applyBlock n)

/-- CANCEL (R427): a pending proposal is discarded. -/
def execCancel (seq : BitVec 16) (s : State) : Host.Outcome State Fault Refusal :=
  if !s.asked seq then .next s
  else .next (s.setSaf { s.saf with prop := [], propBy := 0, auth1 := false, auth2 := false, comm := 0, reason := 0, doneSeq := seq.toNat, enSlot := 0,
                                    enKey := [] })

/-- ENROLL (R426): a key for a slot, which waits for the confirmation of R418. -/
def execEnroll (slot : Nat) (key : List Byte) (seq : BitVec 16) (s : State) : Host.Outcome State Fault Refusal :=
  let x := s.saf
  if !s.asked seq then .next s
  else if (slot ≠ 1 ∧ slot ≠ 2) ∨ key.length ≠ 97 ∨ byteAt key 0 ≠ 4 ∨ key = x.key (3 - slot) then .next (s.refuseSaf 2 false seq.toNat)
  else .next (s.setSaf { x with enSlot := slot, enKey := key, prop := [], propBy := 0, auth1 := false, auth2 := false, comm := 6, reason := 0,
                                doneSeq := seq.toNat })

/-- ENROLL_CONFIRMATION (R418, R426): RESET_IN was high for 10 to 20 s while an ENROLL waited. -/
def execEnrollConfirmation (sec : Nat) (s : State) : Host.Outcome State Fault Refusal :=
  let x := s.saf
  if !x.started || x.enSlot = 0 || sec < 10 || 20 < sec then .next s
  else
    let y := if x.enSlot = 1 then { x with key1 := x.enKey } else { x with key2 := x.enKey }
    .next (s.setSaf { y with enSlot := 0, enKey := [], comm := 7, reason := 0 })

/-- ENROLL_TIMEOUT (R426): no confirmation within 60 s. -/
def execEnrollTimeout (s : State) : Host.Outcome State Fault Refusal :=
  if s.saf.enSlot = 0 then .next s
  else .next ((s.setSaf { s.saf with enSlot := 0, enKey := [] }).refuseSaf 6 true s.saf.doneSeq)

/-- PROPOSAL_EXPIRY (R427): a proposal not confirmed within 1 h. -/
def execProposalExpiry (s : State) : Host.Outcome State Fault Refusal :=
  if s.saf.prop.isEmpty then .next s
  else .next (s.setSaf { s.saf with prop := [], propBy := 0, auth1 := false, auth2 := false, comm := 5 })

/-! ## Publication (R414, R435) -/

/-- SAF_COMM (R428). -/
def SafSt.commWord (x : SafSt) : Word :=
  word (x.comm * 2 ^ 28 + x.reason * 2 ^ 24 + x.auth2.toNat * 2 ^ 17 + x.auth1.toNat * 2 ^ 16 + x.doneSeq)

/-- SAF_KEYS. -/
def SafSt.keysWord (x : SafSt) : Word := word ((!x.key2.isEmpty).toNat * 2 + (!x.key1.isEmpty).toNat)

/-- The CRC field of a block. -/
def blockCrc (b : List Byte) : Word := if b.isEmpty then 0 else word (beAt b 2044 4)

/-- SAF_PEER k. -/
def SafSt.peerWord (x : SafSt) (k : Nat) : Word :=
  let p := x.peer k
  let v := x.validPeers.contains k
  word (min 65535 p.ms * 2 ^ 16 + p.stop.toNat * 4 + (v && p.any && !p.expired).toNat * 2 + v.toNat)

/-- The registers of SAF.0. -/
def SafSt.shown (x : SafSt) : List (Nat × Word) :=
  [ (0x40, word (x.cause.toNat * 2 ^ 16 + x.rstIn.toNat * 8 + x.actB.toNat * 4 + x.actA.toNat * 2 + x.on.toNat)),
    (0x44, word (x.supply.toNat * 4 + x.low.toNat * 2 + x.high.toNat)), (0x48, x.commWord), (0x4C, x.count), (0x50, blockCrc x.block),
    (0x54, blockCrc x.prop), (0x58, word (x.rest24 % 256 * 2 ^ 16 + x.restAll % 65536)), (0x5C, x.keysWord) ] ++
  (List.range 8).map (fun k => (0x60 + 4 * k, x.peerWord k)) ++
  [ (0x80, x.sent), (0x84, x.rxOk), (0x88, x.rxBad), (0x8C, word x.rxLast), (0x90, x.dropped), (0x94, x.blocked), (0x98, x.gasp) ]

/-- SAF_PUBLISH (R44, R414): SAF.0 shows SAF's state as one applied write. -/
def execSafPublish (s : State) : Host.Outcome State Fault Refusal :=
  if !s.saf.started then .next s
  else .next ((s.saf.shown.foldl (fun t e => t.setReg (.saf 0) e.1 e.2) s).add (.saf 0) 0x2C 31 0 1)

/-- STATUS (R428): the session is answered with SAF_COMM, SAF_KEYS and SAF_PEND_CRC; nothing changes. -/
def execSafStatus (session : Nat) (s : State) : Host.Outcome State Fault Refusal :=
  if s.krds.any (fun x => x.id = session) then
    .next (s.emit (.krds session 0 0 [s.view (.saf 0) 0x48, s.view (.saf 0) 0x5C, s.view (.saf 0) 0x54]))
  else .next s

end Sys2Proof.Machine
end

