-- ==== Sys2Proof/Machine/Mains.lean ====
section
/-!
DEFINITION. Machine/Mains.lean: the mains inputs (R49 to R51), the shed sequence (R52, R56 to R59), the gauge (R55), flash bursts and
short records (R60 to R62, R377 to R380) and the capacitance test (R63 to R65).
-/
namespace Sys2Proof

/-! ## Judging an input (R49, R50) -/

/-- Does a measurement meet a condition of loss? A reversed DC input reads below 100 V (R49). -/
def Measure.lost (x : Measure) : Bool :=
  if x.dc then decide (x.volt < 1000) || decide (3900 < x.volt) || !x.polarity
  else decide (x.volt < 700) || decide (2800 < x.volt) || !x.crossing || decide (x.freq < 4500) || decide (6500 < x.freq)

/-- Is it above the upper threshold? -/
def Measure.over (x : Measure) : Bool := decide ((if x.dc then 3900 else 2800) < x.volt)

/-- Is it within the rating of R49, polarity apart? -/
def Measure.rated (x : Measure) : Bool :=
  if x.dc then decide (1200 ≤ x.volt) && decide (x.volt ≤ 3700)
  else decide (850 ≤ x.volt) && decide (x.volt ≤ 2650) && decide (4700 ≤ x.freq) && decide (x.freq ≤ 6300) && x.crossing

/-- An input's bit among the events of R69, from the bit of input A. -/
def Input.bit (i : Input) (a : Nat) : Nat := match i with | .a => a | .b => a + 1

end Sys2Proof

namespace Sys2Proof.Machine

open Sys2Proof

/-- An input's state. -/
def State.input (s : State) (i : Input) : InputSt := match i with | .a => s.pwr.a | .b => s.pwr.b
/-- Change it. -/
def State.setInput (s : State) (i : Input) (x : InputSt) : State :=
  match i with | .a => { s with pwr := { s.pwr with a := x } } | .b => { s with pwr := { s.pwr with b := x } }
/-- PWR_MAINS_A or PWR_MAINS_B shows the measurement (R68). -/
def State.showMains (s : State) (i : Input) (x : Measure) : State :=
  s.setReg .pwr (match i with | .a => 0x44 | .b => 0x48) (word ((if x.dc then 0 else x.freq % 65536) * 2 ^ 16 + x.volt % 65536))

/-! ## Notices (R372) -/

/-- The management controller's writes of a message into the MDOWN direction of PF k (R369): its 16 words, then MDOWN_SEND. -/
def mdownWrites (m : List Word) : List Req :=
  (List.range 16).map (fun i => { master := .mgt, off := BitVec.ofNat 12 (0x140 + 4 * i), width := 4, kind := .write (m.getD i 0) }) ++
    [{ master := .mgt, off := 0x44, width := 4, kind := .write (bit 6) }]

/-- Place a message in the MDOWN direction of PF k unless it is FULL (R369); it is wake source SRC_MBX of a selected PF (R112). Each
write is applied in a page cycle of its own, or refused while another master holds the page's lock (R38). -/
def State.mdown (s : State) (k : Nat) (m : List Word) : State :=
  let p := mbxPage k
  if bitOn (s.reg p 0x40) 3 || !s.runs .host then s
  else if (s.lockOf p).any (fun h => decide (h ≠ .mgt)) then (mdownWrites m).foldl (fun u r => u.noteDiscards p [] [r]) s
  else
    let t := (List.range 16).foldl (fun u i => u.setReg p (0x140 + 4 * i) (m.getD i 0)) s
    let u := (t.setBit p 0x40 3 true).add p 0x2C 31 0 (mdownWrites m).length
    if bitOn (u.reg .hlnk 0x4C) k then u.wakeHost 2 else u

/-- The mains notice to each PF in D0. -/
def State.mainsNotice (s : State) : State :=
  [0, 1, 2, 3].foldl (fun t k => if (t.func k).dstate = .d0 then t.mdown k [2, t.mainsStat] else t) s

/-! ## The capacitance test (R63 to R65) -/

/-- One day in ns. -/
def dayNs : Nat := 86400000000000

/-- Both inputs are good. -/
def State.bothGood (s : State) : Bool := s.pwr.a.good && s.pwr.b.good

/-- Start a test, which runs only while both inputs are good. -/
def State.startTest (s : State) : State :=
  if s.bothGood && !s.pwr.testing then { s with pwr := { s.pwr with testing := true, retry := false } } else s

/-- Abort a test (R64). -/
def State.abortTest (s : State) : State :=
  if s.pwr.testing then
    let t := { s with pwr := { s.pwr with testing := false, retry := true } }
    ((t.setField .pwr 0x60 17 16 2).addSat .pwr 0x60 31 24 1).raise .pwr 6
  else s

/-- CAPTEST_PERIOD_EXPIRY (R63). -/
def execCaptestPeriodExpiry (s : State) : Host.Outcome State Fault Refusal := .next (if s.pwr.started then s.startTest else s)

/-- CAPTEST_RETRY (R64). -/
def execCaptestRetry (s : State) : Host.Outcome State Fault Refusal := .next (if s.pwr.retry then s.startTest else s)

/-- A write of PWR_CAPTEST (R68): PERIOD_H, and START. -/
def State.captestWrite (s : State) (m : Master) (v : Word) : State :=
  let t := s.setReg .pwr 0x60 (mergeWrite .pwr 0x60 m (s.reg .pwr 0x60) v)
  if bitOn v 8 then t.startTest else t

/-- CAPTEST_DONE (R63, R65): the test measured `c` (0.01 mF) with both inputs good throughout; C_low is 3 % less, and worn where it
gives less than 90 J from 54.0 V. -/
def execCaptestDone (c : Nat) (s : State) : Host.Outcome State Fault Refusal :=
  if !s.pwr.testing || !s.bothGood then .next s
  else
    let low := min 65535 (c * 97 / 100)
    let worn := decide (low * 117 < 900000)
    let t := { s with pwr := { s.pwr with testing := false, retry := false, age := 0 } }
    .next (((t.setReg .pwr 0x54 (word low)).setField .pwr 0x60 17 16 (if worn then 3 else 1)).raiseIf worn .pwr 7)

/-- HOLDUP_TEST_STALE (R65): seven days without a completed test have passed; C_low stays. -/
def execHoldupTestStale (s : State) : Host.Outcome State Fault Refusal :=
  .next ({ s with pwr := { s.pwr with age := max (7 * dayNs) s.pwr.age } }.raise .pwr 8)

/-! ## The gauge (R55) -/

/-- E_gauge in mJ from C_low (0.01 mF) and the bank voltage (10 mV). -/
def gauge (c v : Nat) : Nat := c * (v * v - 5760000) / 2000000

/-- E_gauge as shown. -/
def State.energy (s : State) : Nat := s.field .pwr 0x4C 19 0

/-- GAUGE_UPDATE (R55, R68): every 1 ms, from the bank voltage (10 mV) and the bus load (mW). -/
def execGaugeUpdate (volt load : Nat) (s : State) : Host.Outcome State Fault Refusal :=
  let e := gauge (s.field .pwr 0x54 15 0) volt
  .next (((s.setReg .pwr 0x4C (word ((decide (5300 ≤ volt)).toNat * 2 ^ 31 + min 0xFFFFF e))).setReg .pwr 0x50 (word (min 65535 volt))).setReg .pwr 0x58
    (word (min 0x3FFFF load)))

/-! ## Flash bursts (R60 to R62, R377 to R380) -/

/-- Records of the tail that have not reached flash. -/
def LogSt.waiting (l : LogSt) : List LogRec := (l.tail.filter (fun r => !r.inFlash)).map (·.entry)

/-- The energy a burst of P pages needs (R60), in µJ. -/
def State.burstNeed (s : State) (pages : Nat) : Nat := pages * 5 * (s.field .pwr 0x58 17 0 + 1000) + s.field .pwr 0x5C 15 0 * 1000

/-- Does the gauge admit a burst (R60)? -/
def State.admitsBurst (s : State) (pages : Nat) : Bool := decide (s.burstNeed pages ≤ s.energy * 1000)

/-- The 64 bytes of a short record (R62), the CRC-32 of the first 60 last. -/
def ShortRec.bytes (r : ShortRec) : List Byte :=
  let b := leBytes 2 0x53 ++ leBytes 2 r.reason ++ leBytes 4 r.first.toNat ++ leBytes 4 r.last.toNat ++ leBytes 8 r.time ++ leBytes 4 r.gauge ++
    leBytes 4 r.need ++ leBytes 2 r.pages ++ leBytes 2 r.mains ++ List.replicate 28 0
  b ++ leBytes 4 (crc32 b)

/-- Write a short record (R62); FRAM holds the latest 64. With every record in flash both numbers are that of the next one. The
energy required is rounded up to whole mJ (DESIGN CHOICE, log entry 93: R62 gives no rounding). -/
def State.shortRecord (s : State) (reason pages : Nat) : State :=
  let w := s.log.waiting
  let r : ShortRec :=
    { reason := reason, first := (match w.head? with | some x => x.seq | none => s.log.next), last := (match w.getLast? with | some x => x.seq | none => s.log.next),
      time := s.ptp.time, gauge := s.energy, need := (s.burstNeed pages + 999) / 1000, pages := pages, mains := s.mainsStat.toNat % 65536 }
  (({ s with log := { s.log with shorts := (r :: s.log.shorts).take 64 } }).count .pwr 0x68).raise .pwr 5

/-- Is the unit in U2? -/
def State.inU2 (s : State) : Bool := s.pwr.shed ≠ 0

/-- An erase counts as 80 pages; a log burst holds at most 64 (R60). -/
def burstPages (k : BurstKind) (pages : Nat) : Nat :=
  match k with | .erase => 80 | .log | .final => min 64 pages | _ => pages

/-- The reason of the short record for a refused burst (R62). A write of the boot record's mirror (R71), for which R62 names no
reason, carries that of a log burst (DESIGN CHOICE, log entry 94). -/
def State.refuseReason (s : State) (k : BurstKind) : Nat :=
  match k with | .final => 2 | .log | .boot => if s.inU2 then 1 else 3 | .image | .erase | .wear => 4

/-- Begin an admitted burst: a log burst suspends an erase or a move in progress (R380). -/
def State.beginBurst (s : State) (k : BurstKind) (n : Nat) : State :=
  let t := s.count .pwr 0x64
  match k with
  | .erase | .wear => { t with log := { t.log with busyOp := some k, opHeld := false } }
  | _ =>
      let recs := if k = .log ∨ k = .final then min (8 * n) t.log.waiting.length else 0
      { t with log := { t.log with burst := some { kind := k, pages := n, recs := recs, suspended := t.log.busyOp.isSome && !t.log.opHeld },
                                   opHeld := t.log.opHeld || t.log.busyOp.isSome } }

/-- The final commit of R56 is over: step 8. -/
def State.finalOver (s : State) : State := if s.pwr.shed = 7 then { s with pwr := { s.pwr with shed := 8 } } else s

/-- The management controller asks for a burst (R60, R61); one for the boot record's mirror only while the mirror is out of date, so
a refused one may be asked for again (R71). -/
def State.askFlash (s : State) (k : BurstKind) (pages : Nat) : State :=
  let n := burstPages k pages
  let image := k = .image ∨ k = .erase ∨ k = .wear
  if !s.pwr.started || (s.inU2 && decide image) || (decide (k = .boot) && !s.boot.mirror) || (decide (k = .image) && s.reading .image) || s.log.burst.isSome || ((k = .erase ∨ k = .wear) ∧ s.log.busyOp.isSome) || (!s.log.dev0 && !s.log.dev1) then s
  else if s.inU2 && s.pwr.noBurst then
    let t := s.shortRecord (s.refuseReason k) n
    if k = .final then t.finalOver else t
  else if s.admitsBurst n then s.beginBurst k n
  else
    let t := s.shortRecord (s.refuseReason k) n
    let u := if s.inU2 then { t with pwr := { t.pwr with noBurst := true } } else t
    if k = .final then u.finalOver else u

/-- FLASH_BURST_REQUEST (R60). -/
def execFlashBurstRequest (kind : BurstKind) (pages : Nat) (s : State) : Host.Outcome State Fault Refusal := .next (s.askFlash kind pages)

/-- One device after a burst (R379): a failed verify takes a spare, the last spare or a dead device leaves the other alone. -/
def State.deviceAfter (s : State) (one : Bool) (bad dead : Bool) : State :=
  let l := s.log
  let ok := if one then l.dev1 else l.dev0
  let sp := if one then l.spare1 else l.spare0
  if !ok then s
  else if dead || (bad && decide (sp = 0)) then
    ({ s with log := if one then { l with dev1 := false } else { l with dev0 := false } }).raise .log 2
  else if bad then
    ({ s with log := if one then { l with spare1 := sp - 1 } else { l with spare0 := sp - 1 } }).raise .log 1
  else s

/-- Mark the first n waiting records of the tail as in flash. -/
def markFlash (n : Nat) (l : List TailRec) : List TailRec :=
  match l with
  | [] => []
  | r :: t =>
      match n with
      | 0 => r :: t
      | k + 1 => if r.inFlash then r :: markFlash (k + 1) t else { r with inFlash := true } :: markFlash k t

/-- Put records in the flash ring of 768 sectors of 2,048 records; a full ring loses its oldest sector (R379). -/
def LogSt.commit (l : LogSt) (n : Nat) : LogSt :=
  let f := l.flash ++ l.waiting.take n
  { l with tail := markFlash n l.tail, flash := if 1572864 < f.length then f.drop 2048 else f }

/-- The bytes of a WRITE reach the image set (R383). -/
def State.finishWrite (s : State) : State :=
  match s.boot.write with
  | none => s
  | some (off, b) =>
      let o := s.boot.other
      let d := (List.range b.length).foldl (fun m i => Sparse.set 0xFF m (off + i) (b.getD i 0)) o.data
      ({ s with boot := { s.boot.putOther { o with data := d } with write := none } }.setReg .img 0x58 0).raise .img 0

/-- The erase of an image set is done: ERASING becomes WRITING (R394). -/
def ImgSet.erased (x : ImgSet) : ImgSet := if x.st = 2 then { x with st := 1, data := [] } else x

/-- FLASH_BURST_DONE (R379, R380): the burst in progress ends and what it suspended resumes, or else an erase or a move ends. -/
def execFlashBurstDone (bad0 bad1 dead0 dead1 : Bool) (s : State) : Host.Outcome State Fault Refusal :=
  match s.log.burst with
  | some b =>
      let t := (s.deviceAfter false bad0 dead0).deviceAfter true bad1 dead1
      let ok := t.log.dev0 || t.log.dev1
      let l := { t.log with burst := none, opHeld := if b.suspended then s.inU2 else t.log.opHeld }
      let u := { t with log := if ok then l.commit b.recs else l }
      match b.kind with
      | .image => .next (if ok then u.finishWrite else u)
      | .final => .next (if u.log.waiting.isEmpty then u.finalOver else u)
      | .boot => .next (if ok then { u with boot := { u.boot with mirror := false } } else u)
      | .log | .erase | .wear => .next u
  | none =>
      if s.log.busyOp.isNone || s.log.opHeld then .next s
      else
        let t := (s.deviceAfter false bad0 dead0).deviceAfter true bad1 dead1
        let u := { t with log := { t.log with busyOp := none, reErase := t.log.reErase && decide (s.log.busyOp ≠ some .erase) } }
        if s.log.busyOp = some .erase then .next { u with boot := { u.boot with setA := u.boot.setA.erased, setB := u.boot.setB.erased } } else .next u

/-- LOG_BURST_TIMER (R377): the oldest waiting record is 10 s old; a partial page is padded. -/
def execLogBurstTimer (s : State) : Host.Outcome State Fault Refusal :=
  let n := s.log.waiting.length
  if n = 0 then .next s else .next (s.askFlash .log ((n + 7) / 8))

/-- LOG_REPEAT_WINDOW_END (R378): the second ends; one further record carries the repeats. -/
def execLogRepeatWindowEnd (p : Page) (bit : Fin 32) (s : State) : Host.Outcome State Fault Refusal :=
  match Sparse.find s.log.wins (winKey p bit.val) with
  | none => .next s
  | some w =>
      let t := { s with log := { s.log with wins := Sparse.del s.log.wins (winKey p bit.val) } }
      if w.count = 0 then .next t else .next (State.noteLoss t (t.logEvent p bit.val w.count))

/-! ## The shed sequence (R52, R56 to R59) -/

/-- U2 ends: what mains loss held back may go on (R56, R61). The stop on bursts ends with U2, also where an input that has returned is
not good yet (DESIGN CHOICE, log entry 95: R61 ties it to MAINS_GOOD, R56 has the unit resume its former state). -/
def State.leaveU2 (s : State) : State :=
  { s with pwr := { s.pwr with shed := 0, noBurst := false, gasp := false }, log := { s.log with opHeld := s.log.burst.isSome && s.log.busyOp.isSome } }

/-- MAINS_LOSS (R52, R56): both inputs are lost. Step 1 lasts until the record is in the FRAM tail and an erase is suspended, its
sector marked for re-erase; then step 2. A WRITE whose bursts are not finished ends with CODE 6 (R383). -/
def execMainsLoss (s : State) : Host.Outcome State Fault Refusal :=
  if !s.pwr.started || s.pwr.a.present || s.pwr.b.present || s.inU2 then .next s
  else
    let s1 := { s with pwr := { s.pwr with shed := 1, gasp := false } }
    let s2 := { s1 with pwr := { s1.pwr with lossStat := s1.mainsStat, lossTime := s1.ptp.time } }
    let s3 := { s2.raise .pwr 4 with log := { (s2.raise .pwr 4).log with opHeld := s2.log.busyOp.isSome, reErase := s2.log.reErase || decide (s2.log.busyOp = some BurstKind.erase) } }
    let s4 := { s3 with pwr := { s3.pwr with shed := 2 } }
    let s5 := if s4.boot.write.isSome then
        (({ s4 with boot := { s4.boot with write := none } }.closeReads (fun r => decide (r.use = ReadFor.image))).setReg .img 0x58 6).raise .img 0
      else s4
    .next s5.mainsNotice

/-- Does the dying gasp SAF made still wait at a ring port? Byte 31 of a telegram's frame is its command (R419). -/
def State.gaspWaits (s : State) : Bool :=
  s.frames.any (fun x => decide (x.part = .safety) && decide (x.src = 6) && decide (byteAt x.body 31 = 4) &&
    (match x.loc with | .egress p => decide (p < 2) | _ => false))

/-- The dying-gasp telegram of R222, once on both ring ports; RING_GASPS counts it where it is sent. -/
def State.sendGasp (s : State) : State :=
  if s.pwr.gasp || !s.saf.started || s.saf.block.isEmpty then s
  else
    let pay := beBytes 8 (s.reg64 .unit 0x44) ++ beBytes 4 s.pwr.lossStat.toNat ++ beBytes 8 s.pwr.lossTime ++
      beBytes 4 s.energy
    let t := s.sendTelegram true false 0xFFFFFFFF 4 (Config.gaspWdog s.saf.block % 65536) pay 0
    let u := { t with pwr := { t.pwr with gasp := true } }
    if u.gaspWaits then u.count .ring 0x68 else u

/-- Steps 3 and 4 (R56, R58): the islands go to S2, UNIT_READY is released, the dying gasp is sent; then step 5. -/
def State.shedIslands (s : State) : State :=
  let s1 := { s with pwr := { s.pwr with shed := 3 } }.releaseReady.linkOff
  let s2 := (Island.shedFirst.foldl State.takeOff s1).holdover
  let s3 := { s2 with pwr := { s2.pwr with shed := 4 } }.sendGasp
  { s3 with pwr := { s3.pwr with shed := 5 } }.followLevels

/-- Steps 6 and 7 (R56): PRG, then FAB but for what serves SAF; the final log commit begins. -/
def State.shedRing (s : State) : State :=
  let s1 := { s with pwr := { s.pwr with shed := 6 } }
  let s2 := [Island.prg, Island.fab].foldl State.takeOff s1
  let s3 := { s2 with pwr := { s2.pwr with shed := 7 } }
  let n := s3.log.waiting.length
  if n = 0 then s3.finalOver else s3.askFlash .final ((n + 7) / 8)

/-- SHED_ISLANDS (R56): 20 ms after mains loss. -/
def execShedIslands (s : State) : Host.Outcome State Fault Refusal := .next (if s.pwr.shed = 2 then s.shedIslands else s)

/-- SHED_RING_DROP (R56): 5 s after mains loss, or once the dying gasp has left under R57. -/
def execShedRingDrop (s : State) : Host.Outcome State Fault Refusal := .next (if s.pwr.shed = 5 then s.shedRing else s)

/-- GAUGE_LOW_SHED (R57): E_gauge is below PWR_FRAM_RESERVE + 2,500 mJ before step 6: steps 3 and 4 come at once, and step 6 with
them unless the dying gasp still waits at P0 or P1: then SHED_RING_DROP follows its leaving. -/
def execGaugeLowShed (s : State) : Host.Outcome State Fault Refusal :=
  if s.inU2 && decide (s.pwr.shed ≤ 5) && decide (s.energy < s.field .pwr 0x5C 15 0 + 2500) then
    let t := if s.pwr.shed ≤ 2 then s.shedIslands else s
    .next (if t.gaspWaits then t else t.shedRing)
  else .next s

/-- STORE_EXHAUSTED (R56, R416, R433): MGT and SAF lose power, and SAFE_OUT opens by hardware. -/
def execStoreExhausted (s : State) : Host.Outcome State Fault Refusal :=
  if !s.inU2 then .next s
  else
    let r := State.reset
    let off := Island.switchable.foldl (fun t i => t.setIsland i { IslSt.reset with mode := .off }) s
    .next { off.releaseReady.linkOff with
      pwr := { off.pwr with started := false, shed := 0, gasp := false, noBurst := false, testing := false, retry := false },
      krds := [], console := r.console, twp := r.twp, sens := { r.sens with mods := off.sens.mods }, safBox := r.safBox, frames := [], ham := r.ham, held := [], locks := [],
      saf := { off.saf with started := false, testing := false, high := false, low := false } }

/-- R59: an input is good after step 3: every island the shed took to S2 starts by an island cold reset, with the releases of R40; one
that ISL_TARGET holds in S2 stays there. -/
def State.restartShed (s : State) : State :=
  let t := ((s.setField .unit 0x50 15 8 4).saveResetStat).leaveU2
  Island.switchable.foldl (fun u i =>
    if (u.island i).mode = .off && !(decide (4 ≤ i.num) && decide (i.num < 12) && decide (u.target i.num = 3)) then
      (u.setIsland i { IslSt.reset with cold := true, noClock := (u.island i).noClock }).islandLocks i
    else u) t

/-! ## The inputs' events -/

/-- INPUT_LOST (R50, R51): a present input meets a condition of loss. One that was declared lost and has not been good since stays
lost: MAINS_x_LOST is not raised again (R463). -/
def execInputLost (i : Input) (x : Measure) (s : State) : Host.Outcome State Fault Refusal :=
  let y := s.input i
  if !y.present || !x.lost then .next s
  else
    let t := (s.setInput i { y with present := false, good := false, lost := true, cut := x.over }).showMains i x
    if !t.pwr.started then .next t
    else if y.lost then .next (t.raiseIf x.over .pwr 9).abortTest
    else .next (((t.raiseIf x.over .pwr 9).raise .pwr (i.bit 0)).abortTest.mainsNotice)

/-- INPUT_RETURNED (R50, R56): within the rating for 5 ms; a DC input's polarity is accepted. Within 20 ms of mains loss the shed
sequence is cancelled and a suspended erase goes on, its sector's mark gone. Of an input already present the event is one more
measurement (R68). -/
def execInputReturned (i : Input) (x : Measure) (s : State) : Host.Outcome State Fault Refusal :=
  let y := s.input i
  if !x.rated then .next s
  else if y.present then .next (s.showMains i x)
  else
    let t := (s.setInput i { y with present := true, good := false, cut := false, dc := x.dc }).showMains i x
    if t.pwr.shed = 1 ∨ t.pwr.shed = 2 then
      let u := t.leaveU2
      .next { u with log := { u.log with reErase := false } }
    else .next t

/-- INPUT_GOOD (R50, R51, R59): within the rating for 200 ms; of an input already good, one more measurement (R68). -/
def execInputGood (i : Input) (x : Measure) (s : State) : Host.Outcome State Fault Refusal :=
  let y := s.input i
  if !y.present || !x.rated || x.lost then .next s
  else if y.good then .next (s.showMains i x)
  else
    let t := (s.setInput i { y with good := true, lost := false }).showMains i x
    if !t.pwr.started then .next t
    else
      let u := t.raiseIf y.lost .pwr (i.bit 2)
      if 3 ≤ u.pwr.shed then .next u.restartShed else .next u

/-- INPUT_NOT_GOOD (R50): a present input leaves its rating without meeting a condition of loss. A running capacitance test, which
runs only while both inputs are good (R63), ends as R64 says for a loss (DESIGN CHOICE, log entry 96). -/
def execInputNotGood (i : Input) (x : Measure) (s : State) : Host.Outcome State Fault Refusal :=
  let y := s.input i
  if !y.present || x.rated || x.lost then .next s
  else
    let t := (s.setInput i { y with good := false }).showMains i x
    .next (if t.pwr.started then t.abortTest else t)

end Sys2Proof.Machine
end

