-- ==== Sys2Proof/Machine/Sleep.lean ====
section
/-!
DEFINITION. Machine/Sleep.lean: sleep entry and wake (R355 to R361), the end of a drain (R363), level changes in progress (R350,
R352 to R354), and the events of the clocks (R341, R345, R346, R365).
-/
namespace Sys2Proof.Machine

open Sys2Proof

/-! ## Sleep requests (R355, R357, R358) -/

/-- May island number i be asked for S2, and for S1 (R355)? -/
def s2Allowed (i : Nat) : Bool := decide (4 ≤ i) && decide (i ≤ 11)

/-- Is island number i one of the variable islands, whose pending level change goes first? -/
def isVariable (i : Nat) : Bool := decide (4 ≤ i) && decide (i ≤ 13)

/-- An island begins its entry into S1 or S2, or waits for the level change in progress. -/
def State.beginSleep (s : State) (i : Nat) (off : Bool) : State :=
  let x := s.island (islandOf i)
  s.setIsland (islandOf i) { x with entry := if s.clk.change.isSome && isVariable i then .waiting else .draining, toOff := off, latched := 0 }

/-- One field of ISL_TARGET is written; `false` where the request is refused. -/
def State.askIsland (s : State) (i w : Nat) : State × Bool :=
  let isl := islandOf i
  let x := s.island isl
  let t := s.setField .isl 0x48 (2 * (i - 3) + 1) (2 * (i - 3)) w
  match w with
  | 0 =>
      if x.entry ≠ .none || x.cold then (t, true)
      else if x.mode = .retain then (t.wakeIsland isl 0, true)
      else if x.mode = .off && s2Allowed i then (t.coldReset isl, true)
      else (t, true)
  | 2 =>
      if x.cold || x.mode = .off then (s, false)
      else if x.entry = .resetting || (x.mode = .retain && x.entry = .none) then (t, true)
      else if x.entry = .none then (t.beginSleep i false, true)
      else (t.setIsland isl { x with toOff := false }, true)
  | 3 =>
      if !s2Allowed i then (s, false)
      else if x.cold || x.mode = .off || x.entry = .resetting then (t, true)
      else if x.entry ≠ .none then (t.setIsland isl { x with toOff := true }, true)
      else if x.mode = .retain then ((t.takeOff isl).raise .isl 0, true)
      else (t.beginSleep i true, true)
  | _ => (s, false)

/-- A write of ISL_TARGET: every field is a request; a refused one keeps its value and raises TARGET_REFUSED. -/
def State.targetWrite (s : State) (v : Word) : State :=
  let r := (List.range 12).foldl (fun (a : State × Bool) k =>
    let y := a.1.askIsland (k + 3) (fld v (2 * k + 1) (2 * k))
    (y.1, a.2 && y.2)) (s, true)
  if r.2 then r.1 else r.1.raise .isl 2

/-- The first active level source of an island, else its latched edge (R357, R361). -/
def State.wakeRow (s : State) (i : Island) : Option Nat :=
  match [1, 2, 3, 4, 5, 6].find? (fun r => s.levelRow i r) with
  | some r => some r
  | none => if (s.island i).latched ≠ 0 then some (s.island i).latched else none

/-- Steps 4 and 5 of R356: the clock stops and power is withdrawn; a level source or a RUN still asked for acts at once. -/
def State.enterSleep (s : State) (i : Island) : State :=
  let x := s.island i
  if x.toOff then
    let t := (((s.clearIsland i).setIsland i { IslSt.reset with mode := .off, noClock := x.noClock }).raise .isl 0).followLevels
    if t.target i.num = 0 && s2Allowed i.num then t.coldReset i else t
  else
    let t := ((s.setIsland i { x with mode := .retain, entry := .none }).raise .isl 0).followLevels
    match t.wakeRow i with
    | some r => t.wakeIsland i r
    | none => if t.target i.num = 0 then t.wakeIsland i 0 else t

/-- ISL_SLEEP_ENTER (R356): step 3 once the drained island holds no work, then steps 4 and 5. -/
def execIslSleepEnter (i : Island) (s : State) : Host.Outcome State Fault Refusal :=
  let x := s.island i
  if x.entry = .draining && !s.holdsWork i then .next (s.setIsland i { x with entry := .window })
  else if x.entry = .window then .next (s.enterSleep i)
  else .next s

/-- DRAIN_LIMIT_EXPIRY (R363): work still in flight is ended; the island goes on to step 3 of R356, or into its cold reset. -/
def execDrainLimitExpiry (i : Island) (s : State) : Host.Outcome State Fault Refusal :=
  let x := s.island i
  if x.entry = .draining then
    let t := s.abortIsland i
    .next (t.setIsland i { t.island i with entry := .window })
  else if x.entry = .resetting then .next (s.holdCold i)
  else .next s

/-- ISL_WAKE (R357, R360): a level source wakes an island in S1. -/
def execIslWake (i : Island) (row : Fin 7) (s : State) : Host.Outcome State Fault Refusal :=
  if s.levelRow i row.val then .next (s.wakeIsland i row.val) else .next s

/-- WAKE_TIMER_MATCH (R360): PTP time has reached ISL_WAKE_TIME for islands it had not matched: an edge, or the timer latch. -/
def execWakeTimerMatch (s : State) : Host.Outcome State Fault Refusal :=
  let now := s.timerReached
  let new := now &&& ~~~s.followTimer.clk.timerMatched
  let t := { s with clk := { s.clk with timerMatched := now } }
  if new = 0 then .next t
  else if bitOn (s.reg .isl 0x68) 15 then .next (t.setBit .isl 0x78 0 true)
  else .next ((List.range 12).foldl (fun u k => if bitOn new k then u.edgeWake (islandOf (k + 3)) 4 else u) t)

/-! ## Level changes in progress -/

/-- REGULATOR_STEP (R352): the regulator acknowledged and reports POWER_GOOD at `mv`. -/
def execRegulatorStep (mv : Nat) (s : State) : Host.Outcome State Fault Refusal :=
  match s.clk.change with
  | some c =>
      (match c.todo with
       | .sram pl :: _ => .next (s.railDone c false pl mv)
       | .core pl :: _ => .next (s.railDone c true pl mv)
       | _ => .next s)
  | none => .next s

/-- REGULATOR_STEP_FAIL (R353, R354): no acknowledgement or no POWER_GOOD within 1 ms; `revertFails` when a revert step fails too. -/
def execRegulatorStepFail (noAck revertFails : Bool) (s : State) : Host.Outcome State Fault Refusal :=
  match s.clk.change with
  | some c =>
      (match c.todo with
       | .sram _ :: _ => .next (s.stepFailed c false noAck revertFails)
       | .core _ :: _ => .next (s.stepFailed c true noAck revertFails)
       | _ => .next s)
  | none => .next s

/-- REG_FAULT_SHUTDOWN (R354): POWER_GOOD is still absent 10 ms after REG_FAULT; every variable island goes to S2. -/
def execRegFaultShutdown (s : State) : Host.Outcome State Fault Refusal :=
  if !s.regFault || s.field .pwr 0x88 1 0 = 3 then .next s
  else
    .next ((List.range 10).foldl (fun t j =>
      let i := islandOf (varNum j)
      let x := t.island i
      if x.mode = .retain && x.entry = .none then (t.takeOff i).raise .isl 0
      else if x.awake && x.entry ≠ .resetting then t.setIsland i { x with entry := if x.entry = .window then .window else .draining, toOff := true }
      else t) s)

/-- PLL_CHANGE_DONE (R350): the island's PLL has relocked, its bias is set and its multiplexer is back on the PLL. -/
def execPllChangeDone (s : State) : Host.Outcome State Fault Refusal :=
  match s.clk.change with
  | some c =>
      (match c.todo with
       | .island j pl :: _ =>
           let i := varNum j
           if s.muxBusy i || s.clk.refLost then .next s
           else
             let t := (s.setLevel j pl).setBit .clk 0x44 i true
             .next (({ t with clk := { t.clk with pllLost := putBit t.clk.pllLost i false } }.followClock i).nextStep c c.done)
       | _ => .next s)
  | none => .next s

/-! ## Clocks -/

/-- CLK_SWITCH (R345). -/
def execClkSwitch (i : Fin 16) (pll : Bool) (s : State) : Host.Outcome State Fault Refusal := .next (s.muxTo i.val pll)

/-- MUX_STUCK (R346): a switch has not completed in 64 reference cycles. -/
def execMuxStuck (i : Fin 16) (s : State) : Host.Outcome State Fault Refusal :=
  if !s.muxBusy i.val then .next s
  else
    let t := (s.setBit .clk 0x4C i.val true).raise .clk 0
    .next (if bitOn (t.reg .clk 0x50) i.val then t.coldReset (islandOf i.val) else t)

/-- REF_LOST (R341): every PLL loses lock, every switchable island stops, MGT and SAF move to the fallback oscillator, and a
slaved PTP clock holds over (R206). UNIT_READY stays
asserted (DESIGN CHOICE, log entry 97: R75's list of releases does not name a stopped clock, though the endpoint cannot answer). -/
def execRefLost (s : State) : Host.Outcome State Fault Refusal :=
  if s.clk.refLost then .next s
  else
    let t := ({ s with clk := { s.clk with refLost := true } }.add .clk 0x54 31 0 18).followClocks
    .next ((t.holdover.raise .clk 1).raise .clk 2)

/-- PLL_UNLOCK (R365): the PLL of island i loses lock and its clock stops. -/
def execPllUnlock (i : Fin 16) (s : State) : Host.Outcome State Fault Refusal :=
  let t := ({ s with clk := { s.clk with pllLost := putBit s.clk.pllLost i.val true } }.count .clk 0x54).followClock i.val
  .next (t.raise .clk 1)

/-- CLK_MONITOR_WINDOW (R345): a bit of CLK_RUN is 1 where each of the last four windows showed an edge. -/
def execClkMonitorWindow (edges : Word) (s : State) : Host.Outcome State Fault Refusal :=
  let run := s.clk.wins.foldl (fun a w => a &&& w) edges &&& 0x8000FFFF
  let t := s.setReg .clk 0x40 run
  .next ({ t with clk := { t.clk with wins := edges :: t.clk.wins.take 2, pllLost := t.clk.pllLost &&& ~~~edges,
                                      refLost := t.clk.refLost && !bitOn edges 31 } }.followClocks)

end Sys2Proof.Machine
end

