-- ==== Sys2Proof/Machine/Met.lean ====
section
/-!
DEFINITION. Machine/Met.lean: the KMC-3 meter core (chapter 20): calibration slots and energy (R439, R440), signed records and archives
(R441 to R443), the legal log (R444, R445), the ring and the published page (R446 to R448, R458), the three inbound commands
(R449 to R453), supply and clock (R452, R454), display (R455) and replacement (R457).
-/
namespace Sys2Proof.Machine

open Sys2Proof

/-- Change the meter. -/
def State.setMeter (s : State) (x : MeterSt) : State := { s with meter := x }

/-- Does the module run: fitted, with supply or on its hold-up (R454)? -/
def MeterSt.on (x : MeterSt) : Bool := x.fitted && (x.supplied || x.holdup)

/-- Does a running module stand behind the MET page? -/
def State.metOn (s : State) : Bool := s.hasMeter && s.meter.on

/-! ## Records (R441) -/

/-- Bytes 0 to 63 of a record. -/
def MetRec.head (r : MetRec) : List Byte :=
  let b := beBytes 4 r.recno ++ [BitVec.ofNat 8 r.type, BitVec.ofNat 8 r.flags, BitVec.ofNat 8 r.period, BitVec.ofNat 8 (r.fw / 65536)] ++
    beBytes 8 r.time ++ beBytes 4 r.id
  if r.type = 4 then
    b ++ beBytes 2 r.count ++ [BitVec.ofNat 8 r.code, 0] ++ beBytes 8 r.old ++ beBytes 8 r.new ++ List.replicate 24 0
  else b ++ r.regs.flatMap (beBytes 6) ++ beBytes 4 r.count ++ beBytes 2 r.vmin ++ [0, 0]

/-- The 128 bytes of a record. -/
def MetRec.bytes (r : MetRec) : List Byte := r.head ++ slice r.sig 0 64

/-- The registers in whole Wh and varh. -/
def MeterSt.whole (x : MeterSt) : List Nat := x.regs.map (· / 3600)

/-- The FLAGS of the interval in progress: CLOCK_UNSET as the clock stands, PHASE_LOSS and MEAS_FAULT also while they last. -/
def MeterSt.flagsNow (x : MeterSt) : Nat :=
  x.flags ||| ((!x.clockSet).toNat * 4) ||| ((x.phase.any (fun b => b)).toNat * 8) ||| ((!x.faulted.isEmpty).toNat * 32)

/-- A new record of a type, signed; the record number moves on. -/
def MeterSt.make (x : MeterSt) (type flags time count code old new : Nat) : MeterSt × MetRec :=
  let r : MetRec := { recno := x.recno + 1, type := type, flags := flags, period := x.period, fw := x.fw, time := time, id := x.id,
                      regs := if type = 4 then [0, 0, 0, 0, 0, 0] else x.whole, count := count, vmin := if type = 4 then 0 else x.vmin,
                      code := code, old := old, new := new, sig := [] }
  ({ x with recno := x.recno + 1 }, { r with sig := Config.recordSig r.head })

/-! ## Publication (R448, R458) -/

/-- MET_STEP_AGE. -/
def MeterSt.stepAge (x : MeterSt) : Nat := match x.lastStep with | some t => min 0xFFFFFFFF (x.mono - t) | none => 0xFFFFFFFF

/-- A signed number as a 32-bit register, saturating. -/
def satWord (i : Int) : Word := BitVec.ofInt 32 (max (-2147483648) (min 2147483647 i))

/-- The registers of MET.0. -/
def MeterSt.shown (x : MeterSt) : List (Nat × Word) :=
  [ (0x40, word (x.period * 2 ^ 24 + x.flagsNow % 256 * 256 + (x.slew ≠ 0 : Bool).toNat * 8 + x.holdup.toNat * 4 + x.clockSet.toNat * 2 +
      x.measuring.toNat)), (0x44, word x.id), (0x48, word x.fw), (0x4C, word x.time), (0x50, word (x.time / 2 ^ 32)), (0x54, word x.placed),
    (0x58, x.done), (0x5C, x.echo), (0x60, satWord x.offset), (0x64, word x.refused), (0x68, word x.stepAge),
    (0x6C, word (x.unlogged % 65536 * 65536 + x.log.length)) ] ++
  (List.range 3).map (fun i => (0x70 + 4 * i, word (x.volts.getD i 0))) ++ (List.range 3).map (fun i => (0x7C + 4 * i, word (x.amps.getD i 0))) ++
  [ (0x88, satWord x.pNow), (0x8C, satWord x.qNow) ] ++
  (List.range 6).flatMap (fun i => let v := x.whole.getD i 0; [(0x90 + 8 * i, word v), (0x94 + 8 * i, word (v / 2 ^ 32))]) ++
  (List.range 16).map (fun i => (0xC0 + 4 * i, word (leAt x.pubkey (4 * i) 4)))

/-- The meter publishes MET.0 as one applied write (R44, R448); the interface sees it answer, and an answer tagged as the command
sent ends that command (R449). -/
def State.metPublish (s : State) : State :=
  if !s.metOn || !s.pwr.started then s
  else
    let t := (s.meter.shown.foldl (fun u e => u.setReg .met e.1 e.2) s).add .met 0x2C 31 0 1
    let t1 := t.setMeter { t.meter with answered := true }
    let w := t1.reg .mbxMet 0x4C
    let t2 := if bitOn w 1 && fld t1.meter.done 31 24 = fld w 31 24 && fld t1.meter.done 17 16 = t1.meter.op then t1.setBit .mbxMet 0x4C 1 false else t1
    if bitOn w 0 then t2 else (t2.setBit .mbxMet 0x4C 0 true).raise .mbxMet 1

/-- The module no longer answers: MET.0 and the ring read as on a KB-1024-N (R448). -/
def State.metSilent (s : State) : State := (s.setMeter { s.meter with answered := false }).setBit .mbxMet 0x4C 0 false

/-- Raise an event of MET.0 where the page is published. -/
def State.metRaise (s : State) (b : Nat) : State := s.raiseIf (s.metOn && s.pwr.started) .met b

/-- Publish what `t` changed on MET.0 since `before`, unless a publication already did (R44). -/
def State.metSeal (before t : State) : State := if t.reg .met 0x2C = before.reg .met 0x2C then t.metPublish else t

/-- Place a record in the ring (R447). -/
def State.placeRec (s : State) (r : MetRec) : State :=
  (s.setMeter { s.meter with ring := (r :: s.meter.ring).take 128, placed := s.meter.placed + 1 }).metPublish

/-- Create a record and place it. -/
def State.issue (s : State) (type flags time count code old new : Nat) (keep : MeterSt → MetRec → MeterSt) : State :=
  let y := s.meter.make type flags time count code old new
  ((s.setMeter (keep y.1 y.2)).placeRec y.2).metRaise 0

/-- The bytes of slot j of the ring: the latest placement w with w mod 128 = j (R447). -/
def MeterSt.slotBytes (x : MeterSt) (j : Nat) : List Byte :=
  match x.ring[(x.placed + 127 - j) % 128]? with
  | some r => r.bytes
  | none => List.replicate 128 0

/-! ## The legal log (R444, R445) -/

/-- Codes 1, 2 and 6 to 11 are status events. -/
def statusCode (c : Nat) : Bool := c = 1 || c = 2 || (decide (6 ≤ c) && decide (c ≤ 11))

/-- Make a legal-log entry; once 1,000 are used status events are only counted, and at 1,024 nothing is entered. -/
def State.enter (s : State) (code old new : Nat) : State :=
  let x := s.meter
  let n := x.log.length
  if (statusCode code && decide (1000 ≤ n)) || 1024 ≤ n then
    (if statusCode code then s.setMeter { x with unlogged := min 65535 (x.unlogged + 1) } else s)
  else
    let t := s.issue 4 x.flagsNow x.time n code old new (fun y r => { y with log := y.log ++ [r] })
    if n + 1 = 1000 then t.metRaise 3 else t

/-! ## Intervals and days (R443) -/

/-- The number of a period boundary, and the number of a day, at a time. -/
def MeterSt.periodOf (x : MeterSt) (t : Nat) : Nat := t / (x.period * 60000)
def dayOf (t : Nat) : Nat := t / 86400000

/-- Close the interval in progress at time `at'` and begin the next one. -/
def State.closeInterval (s : State) (at' extra : Nat) : State :=
  let x := s.meter
  let irregular := decide ((at' : Int) - x.started ≠ (x.period * 60000 : Nat))
  let f := x.flagsNow ||| extra ||| (irregular.toNat * 16)
  s.issue 1 f at' x.log.length 0 0 0 (fun y r =>
    let p := match y.newPeriod with | some q => if at' % (q * 60000) = 0 ∧ at' % (y.period * 60000) = 0 then q else y.period | none => y.period
    { y with interval := (r :: y.interval).take 8192, flags := 0, vmin := 65535, started := at', mark := at' / (p * 60000), period := p,
             newPeriod := if y.newPeriod = some p then none else y.newPeriod })

/-- INTERVAL_RECORD (R443, R453): meter time has reached a period boundary since the last record or step. -/
def execIntervalRecord (s : State) : Host.Outcome State Fault Refusal :=
  let x := s.meter
  let n := x.periodOf x.time
  if !s.metOn || n = x.mark then .next s else .next (s.closeInterval (n * (x.period * 60000)) 0)

/-- DAILY_RECORD (R443, R445): 00:00:00 UTC has come; a pending count of unlogged status events gets its code 12 entry. -/
def execDailyRecord (s : State) : Host.Outcome State Fault Refusal :=
  let x := s.meter
  let n := dayOf x.time
  if !s.metOn || n = x.dayMark then .next s
  else
    let t := s.issue 2 x.flagsNow (n * 86400000) x.log.length 0 0 0 (fun y r => { y with daily := (r :: y.daily).take 1024, dayMark := n })
    if t.meter.unlogged = 0 || 1024 ≤ t.meter.log.length then .next t
    else
      let u := t.enter 12 0 t.meter.unlogged
      .next (u.setMeter { u.meter with unlogged := 0 }).metPublish

/-! ## Measurement (R439, R440) -/

/-- The quadrant register of the signs of total active and reactive power: 2 to 5 for Q1 to Q4 (log entry 60). -/
def quadrant (p q : Int) : Nat := if 0 ≤ q then (if 0 ≤ p then 2 else 3) else (if 0 ≤ p then 5 else 4)

/-- Add to register i. -/
def addAt (l : List Nat) (i n : Nat) : List Nat := setAt 0 l i (l.getD i 0 + n)

/-- ENERGY_INTEGRATE (R440, R451): a second passes with total power `p` W and `q` var, phase voltages (0.01 V) and currents
(mA); the monotonic counter and meter time advance, a slew by 1 ms. -/
def execEnergyIntegrate (p q : Int) (volts amps : List Nat) (s : State) : Host.Outcome State Fault Refusal :=
  let x := s.meter
  if !s.metOn || !x.measuring then .next s
  else
    let regs := addAt (addAt x.regs (if 0 ≤ p then 0 else 1) p.natAbs) (quadrant p q) q.natAbs
    let low := volts.foldl (fun a v => min a (v / 10)) x.vmin
    let d : Int := if x.slew = 0 then 0 else if 0 < x.slew then 1 else -1
    let time := if x.clockSet then ((x.time : Int) + 1000 + d).toNat else x.time
    .next (s.setMeter { x with regs := regs, vmin := low, mono := x.mono + 1, time := time, slew := if x.clockSet then x.slew - d else x.slew, volts := volts,
                               amps := amps, pNow := p, qNow := q })

/-- CALIBRATION_SLOT (R439): the slot ends. A measuring channel that did not match, or a correction that moved more than 500 ppm,
is a fault: code 10, and channel 0 stands in until that channel's next successful slot, the only one that runs. -/
def execCalibrationSlot (ppmMoved : Nat) (matched : Bool) (s : State) : Host.Outcome State Fault Refusal :=
  let x := s.meter
  let k := x.slot
  if !s.metOn || !x.measuring then .next s
  else if decide (500 < ppmMoved) || (decide (k ≠ 0) && !matched) then
    let t := s.setMeter { x with flags := x.flags ||| 32, faulted := if k = 0 then x.faulted else [k], slot := if k = 0 then 1 else k }
    .next (State.metSeal s ((t.enter 10 k ppmMoved).metRaise 4))
  else .next (s.setMeter { x with faulted := x.faulted.filter (fun c => c ≠ k), slot := (k + 1) % 7 })

/-- PHASE_LOSS (R444): a phase has been below 0.8 × Un for 1 s, or is so no longer. -/
def execPhaseLoss (phase : Fin 3) (began : Bool) (s : State) : Host.Outcome State Fault Refusal :=
  let x := s.meter
  if !s.metOn || x.phase.getD phase.val false = began then .next s
  else
    let t := s.setMeter { x with phase := setAt false x.phase phase.val began, flags := if began then x.flags ||| 8 else x.flags }
    .next (t.enter (if began then 8 else 9) (phase.val + 1) 0)

/-- TERMINAL_COVER_OPENED (R456): opening or closing the sealed cover makes a code 6 or 7 entry. -/
def execTerminalCoverOpened (opened : Bool) (s : State) : Host.Outcome State Fault Refusal :=
  if s.metOn then .next (s.enter (if opened then 6 else 7) 0 0) else .next s

/-- MET_PUBLISH (R448): the publication of every second. -/
def execMetPublish (s : State) : Host.Outcome State Fault Refusal := .next s.metPublish

/-! ## The three inbound commands (R449 to R451) -/

/-- A write of MBX_MET_CMD (R449): sent by an overseer while none is pending; a KB-1024-N has no meter to send it to (R1). -/
def State.metCmd (s : State) (m : Master) (v : Word) : State :=
  if !m.overseer || fld v 1 0 = 0 || !s.hasMeter then s
  else if bitOn (s.reg .mbxMet 0x4C) 1 then s.count .mbxMet 0x50
  else ((s.setField .mbxMet 0x4C 31 24 (fld v 31 24)).setBit .mbxMet 0x4C 1 true).setMeter { s.meter with op := fld v 1 0 }

/-- Is command `op` pending at a module that answers? -/
def State.metAsked (s : State) (op : Nat) : Bool := s.metOn && bitOn (s.reg .mbxMet 0x4C) 1 && decide (s.meter.op = op)

/-- Answer the command with a RESULT: MET_CMD_DONE, and the publication. -/
def State.metAnswer (s : State) (result : Nat) : State :=
  let tag := s.field .mbxMet 0x4C 31 24
  (s.setMeter { s.meter with done := word (tag * 2 ^ 24 + s.meter.op * 2 ^ 16 + result) }).metPublish

/-- The record that READ_RECORD asks for. -/
def MeterSt.held (x : MeterSt) (source arg : Nat) : Option MetRec :=
  match source with
  | 0 => x.interval.find? (fun r => r.recno = arg)
  | 1 => x.daily.find? (fun r => r.recno = arg)
  | _ => x.log[arg]?

/-- READ_RECORD (R450). -/
def execReadRecord (s : State) : Host.Outcome State Fault Refusal :=
  if !s.metAsked 1 then .next s
  else
    let src := s.field .mbxMet 0x48 1 0
    let arg := (s.reg .mbxMet 0x44).toNat
    if src = 3 || (src = 2 && 1023 < arg) then .next (s.metAnswer 2)
    else
      match s.meter.held src arg with
      | some r => .next ((s.placeRec r).metAnswer 0)
      | none => .next (s.metAnswer 1)

/-- PING (R450). -/
def execPing (s : State) : Host.Outcome State Fault Refusal :=
  if !s.metAsked 3 then .next s else .next ((s.setMeter { s.meter with echo := s.reg .mbxMet 0x44 }).metAnswer 0)

/-- Step meter time (R451, R453): a code 3 entry, TIME_SET, and the interval in progress goes on. -/
def State.stepMeter (s : State) (t : Nat) : State :=
  let x := s.meter
  let y := { x with time := t, clockSet := true, slew := 0, flags := x.flags ||| 2, lastStep := some x.mono, started := x.started + ((t : Int) - x.time),
                    mark := x.periodOf t, dayMark := dayOf t }
  ((s.setMeter y).enter 3 x.time t).metRaise 1

/-- A proposal refused: counted, and TIME_REFUSED (R451). -/
def State.refuseTime (s : State) : State := (s.setMeter { s.meter with refused := s.meter.refused + 1 }).metRaise 2

/-- Is this a sample of the unit's PTP time, taken with an uncertainty below 10 µs, and of PTP_STAT.STATE (R203, R451)? -/
def State.ptpSample (s : State) (ns state : Nat) : Bool :=
  decide (state = s.field .ptp 0x44 1 0) && decide (ns < s.ptp.time + 10000) && decide (s.ptp.time < ns + 10000)

/-- TIME_PROPOSAL (R451): `ptpNs` and `state` are the PTP time and PTP_STAT.STATE that the interface samples and adds. -/
def execTimeProposal (ptpNs : Nat) (state : Fin 4) (s : State) : Host.Outcome State Fault Refusal :=
  if !s.metAsked 2 || !s.ptpSample ptpNs state.val then .next s
  else
    let x := s.meter
    let utc : Int := (BitVec.ofNat 16 (s.field .mbxMet 0x48 15 0)).toInt
    let prop : Int := (ptpNs / 1000000 : Nat) - utc * 1000
    let off := prop - x.time
    let t := s.setMeter { x with offset := off }
    let due := match x.lastStep with | some l => decide (l + 86400 ≤ x.mono) | none => true
    if state.val ≠ 2 then .next (t.refuseTime.metAnswer 6)
    else if off.natAbs ≤ 9000 then .next ((t.setMeter { t.meter with slew := off }).metAnswer 3)
    else if 1024 ≤ x.log.length then .next (t.refuseTime.metAnswer 7)
    else if due then .next ((t.stepMeter prop.toNat).metAnswer 4)
    else .next (t.refuseTime.metAnswer 5)

/-- METER_LOST (R449): no answer within 1 s. -/
def execMeterLost (s : State) : Host.Outcome State Fault Refusal :=
  if s.hasMeter && bitOn (s.reg .mbxMet 0x4C) 1 then .next ((s.setBit .mbxMet 0x4C 1 false).metSilent.raise .mbxMet 0) else .next s

/-- METER_SLEW_END (R451): the slew has removed the offset. -/
def execMeterSlewEnd (s : State) : Host.Outcome State Fault Refusal :=
  let x := s.meter
  if !s.metOn || x.slew = 0 then .next s
  else .next (s.setMeter { x with time := if x.clockSet then ((x.time : Int) + x.slew).toNat else x.time, slew := 0 })

/-! ## Supply and clock (R452, R454) -/

/-- METER_SUPPLY_LOST (R454): both inputs are lost to the meter, which goes on from its own hold-up. -/
def execMeterSupplyLost (s : State) : Host.Outcome State Fault Refusal :=
  let x := s.meter
  if s.hasMeter && x.fitted && x.supplied then .next (s.setMeter { x with supplied := false, holdup := true }) else .next s

/-- METER_HOLDUP_END (R454): the interval in progress is closed with POWER_FAIL, a code 1 entry made; only the clock stays. -/
def execMeterHoldupEnd (s : State) : Host.Outcome State Fault Refusal :=
  let x := s.meter
  if !s.hasMeter || !x.fitted || !x.holdup then .next s
  else
    let t := (s.closeInterval x.time 1).enter 1 x.time 0
    .next (t.setMeter { t.meter with holdup := false, measuring := false, downAt := x.time, slew := 0 }).metSilent

/-- METER_CLOCK_BACKUP_EXHAUSTED (R452): unsupplied, the meter loses its clock and its monotonic counter. -/
def execMeterClockBackupExhausted (s : State) : Host.Outcome State Fault Refusal :=
  let x := s.meter
  if !s.hasMeter || !x.fitted || x.supplied || x.holdup then .next s else .next (s.setMeter { x with backupGone := true })

/-- METER_SUPPLY_RESTORED (R452, R454): supply returns `seconds` after the meter lost it; code 2, and code 11 where the clock was
lost. During hold-up nothing was lost. -/
def execMeterSupplyRestored (seconds : Nat) (s : State) : Host.Outcome State Fault Refusal :=
  let x := s.meter
  if !s.hasMeter || !x.fitted || x.supplied then .next s
  else if x.holdup then .next (s.setMeter { x with supplied := true, holdup := false })
  else
    let time := if x.backupGone then x.downAt else if x.clockSet then x.time + seconds * 1000 else x.time
    let y := { x with supplied := true, measuring := true, time := time, mono := if x.backupGone then 0 else x.mono + seconds,
                      clockSet := x.clockSet && !x.backupGone, lastStep := if x.backupGone then none else x.lastStep, flags := 1, vmin := 65535, started := time,
                      mark := x.periodOf time, dayMark := dayOf time, backupGone := false }
    let t := (s.setMeter y).enter 2 time 0
    .next ((if x.backupGone then t.enter 11 0 0 else t).metPublish)

/-! ## The service port, the display and replacement (R444, R455, R457) -/

/-- A period that R443 allows, in minutes. -/
def periodAllowed (n : Nat) : Bool := n = 1 || n = 5 || n = 10 || n = 15 || n = 30 || n = 60

/-- METER_SERVICE_PORT_CHANGE (R443, R444, R445): a sealed setting or the firmware is changed under the seal; a full log refuses it.
Settings are numbered by the model: 0 the period, 1 Un, others without a part in the model (log entry 61). -/
def execMeterServicePortChange (firmware : Bool) (setting old new : Nat) (s : State) : Host.Outcome State Fault Refusal :=
  let x := s.meter
  if !s.metOn || 1024 ≤ x.log.length then .next s
  else if firmware then
    let t := s.enter 5 x.fw new
    .next (t.setMeter { t.meter with fw := new % 2 ^ 32 }).metPublish
  else if setting = 0 && !periodAllowed new then .next s
  else
    let was := if setting = 0 then x.period else if setting = 1 then x.un else old
    let t := s.enter 4 (setting * 2 ^ 32 + was) new
    let y := t.meter
    if setting = 0 then .next (t.setMeter { y with newPeriod := if new = x.period then none else some new })
    else if setting = 1 then .next (t.setMeter { y with un := new }) else .next t

/-- DISPLAY_BUTTON (R455): a short press advances through the twelve items; 3 s shows every segment. -/
def execDisplayButton (held3s : Bool) (s : State) : Host.Outcome State Fault Refusal :=
  let x := s.meter
  if !s.metOn then .next s
  else if held3s then .next (s.setMeter { x with allSeg := true })
  else
    let n := (x.item + 1) % 12
    .next ((s.setMeter { x with item := n, allSeg := false }).emit (.display n))

/-- DISPLAY_TIMEOUT (R455): 60 s without a press returns to the default item, A−. -/
def execDisplayTimeout (s : State) : Host.Outcome State Fault Refusal :=
  if s.metOn then .next ((s.setMeter { s.meter with item := 1, allSeg := false }).emit (.display 1)) else .next s

/-- METER_MODULE_REPLACE (R457): the module leaves its connector and a new one is fitted, unsupplied until its supply is reported;
the old one keeps its registers, archives and log. -/
def execMeterModuleReplace (id fw : Nat) (pubkey : List Byte) (s : State) : Host.Outcome State Fault Refusal :=
  if !s.hasMeter then .next s
  else .next (s.setMeter { MeterSt.reset with id := id, fw := fw, pubkey := pubkey }).metSilent

end Sys2Proof.Machine
end

