-- ==== Sys2Proof/Machine/Mailbox.lean ====
section
/-!
DEFINITION. Machine/Mailbox.lean: writes of the mailbox registers: the function mailboxes (R369, R370), the supervisor mailboxes
(R371), the answer to a sensor request (R372), and the selection of a log record (R376, R393).
-/
namespace Sys2Proof.Machine

open Sys2Proof

/-- The four directions of a function mailbox page, by their FULL bit: 0 UP, 1 DOWN, 2 MUP, 3 MDOWN. -/
def boxSender (f : Fin 1024) (d : Nat) : Master :=
  match d with | 0 | 2 => Master.ofFunc f | 1 => .pf0 | _ => .mgt
/-- Who acknowledges in a direction. -/
def boxReceiver (f : Fin 1024) (d : Nat) : Master :=
  match d with | 1 | 3 => Master.ofFunc f | 0 => .pf0 | _ => .mgt
/-- Is the direction there: UP and DOWN but on PF0's page, MUP and MDOWN on the PFs' pages (R370)? -/
def boxThere (f : Fin 1024) (d : Nat) : Bool := if d < 2 then decide (f.val ≠ 0) else decide (f.val < 4)
/-- The SEND bit of MBX_CMD of a direction, and its ACK bit. -/
def boxSend (d : Nat) : Nat := match d with | 0 => 0 | 1 => 2 | 2 => 4 | _ => 6
def boxAck (d : Nat) : Nat := match d with | 0 => 1 | 1 => 3 | 2 => 5 | _ => 7

/-- Is a direction FULL? -/
def State.boxFull (s : State) (f : Fin 1024) (d : Nat) : Bool := bitOn (s.reg (.mbx f) 0x40) d

/-- One direction's part of a write of MBX_CMD: its SEND sets FULL, or is counted where FULL stands; its ACK clears FULL. -/
def State.boxCmd (s : State) (f : Fin 1024) (m : Master) (v : Word) (d : Nat) : State :=
  if !boxThere f d then s
  else
    let t := if bitOn v (boxSend d) && decide (m = boxSender f d) then
        (if s.boxFull f d then s.count (.mbx f) 0x48
         else
          let u := s.setBit (.mbx f) 0x40 d true
          if d = 3 && bitOn (u.reg .hlnk 0x4C) f.val then u.wakeHost 2 else u)
      else s
    if bitOn v (boxAck d) && decide (m = boxReceiver f d) && s.boxFull f d then t.setBit (.mbx f) 0x40 d false else t

/-- The sensor reply of R372: the first 15 sensor registers from MGT + 0x060. -/
def State.sensorReply (s : State) : List Word := word 4 :: (List.range 15).map (fun i => s.reg .mgt (0x60 + 4 * i))

/-- The management controller takes a message in the MUP direction: a sensor request is answered (R372). -/
def State.tookMup (s : State) (f : Fin 1024) : State :=
  if s.reg (.mbx f) 0x100 = 3 then s.mdown f.val s.sensorReply else s

/-- A write of MBX_CMD (R369, R370). -/
def State.boxCommand (s : State) (f : Fin 1024) (m : Master) (v : Word) : State :=
  let t := [0, 1, 2, 3].foldl (fun u d => u.boxCmd f m v d) s
  if s.boxFull f 2 && !t.boxFull f 2 then t.tookMup f else t

/-- A write of a buffer word: by its sender, while FULL = 0; while FULL = 1 it is counted. -/
def State.boxWord (s : State) (f : Fin 1024) (m : Master) (off : Nat) (v : Word) : State :=
  let d := (off - 0x80) / 0x40
  if !boxThere f d || m ≠ boxSender f d then s
  else if s.boxFull f d then s.count (.mbx f) 0x48
  else s.setReg (.mbx f) off v

/-- A write of a register of a function mailbox page. -/
def State.boxWrite (s : State) (f : Fin 1024) (m : Master) (off : Nat) (v : Word) : State :=
  if off = 0x44 then s.boxCommand f m v
  else if 0x80 ≤ off ∧ off < 0x180 then s.boxWord f m off v
  else s.setReg (.mbx f) off (mergeWrite (.mbx f) off m (s.reg (.mbx f) off) v)

/-- A write of NYC_MBX_CMD (R371). -/
def State.supCommand (s : State) (c : Fin 8) (m : Master) (v : Word) : State :=
  let p : Page := .nyc c
  let w := s.reg p 0x200
  let sup := match m with | .nyate k => decide (k = c) | _ => false
  let to' := if bitOn w 0 then !(bitOn v 1 && sup) else bitOn v 0 && m.overseer
  let from' := if bitOn w 1 then !(bitOn v 3 && m.overseer) else bitOn v 2 && sup
  s.setReg p 0x200 (putBit (putBit w 0 to') 1 from')

/-- A write of a word of a supervisor mailbox's buffers: by its sender, while FULL = 0. -/
def State.supWord (s : State) (c : Fin 8) (m : Master) (off : Nat) (v : Word) : State :=
  let p : Page := .nyc c
  let w := s.reg p 0x200
  let sup := match m with | .nyate k => decide (k = c) | _ => false
  if off < 0x280 then (if m.overseer && !bitOn w 0 then s.setReg p off v else s)
  else if sup && !bitOn w 1 then s.setReg p off v else s

/-! ## Reading the log (R376, R393) -/

/-- The 32 bytes of a record. -/
def LogRec.bytes (r : LogRec) : List Byte :=
  let b := leBytes 4 r.seq.toNat ++ leBytes 8 r.time ++ [BitVec.ofNat 8 r.type, BitVec.ofNat 8 r.code] ++ leBytes 2 r.page ++
    leBytes 4 r.d0.toNat ++ leBytes 4 r.d1.toNat ++ leBytes 4 r.d2.toNat
  b ++ leBytes 4 (crc32 b)

/-- A record that the unit still holds, by its SEQ. -/
def State.logRecord (s : State) (seq : Word) : Option LogRec :=
  match s.log.tail.find? (fun r => r.entry.seq = seq) with
  | some r => some r.entry
  | none => s.log.flash.find? (fun r => r.seq = seq)

/-- Up to n records from a SEQ on. -/
def State.logRecords (s : State) (seq : Word) (n : Nat) : List LogRec :=
  (List.range n).filterMap (fun i => s.logRecord (seq + word i))

/-- A write of LOG_READ_SEQ (R393): the record, where it is still held, stands in LOG_RD. -/
def State.logSelect (s : State) (v : Word) : State :=
  let t := s.setReg .log 0x50 v
  match s.logRecord v with
  | some r => ((List.range 8).foldl (fun u i => u.setReg .log (0x60 + 4 * i) (word (leAt r.bytes (4 * i) 4))) t).setReg .log 0x54 1
  | none => t.setReg .log 0x54 2

end Sys2Proof.Machine
end

