-- ==== Sys2Proof/Machine/Image.lean ====
section
/-!
DEFINITION. Machine/Image.lean: image packages and the image commands (R382 to R385), key packages (R386, R387), the trial timer
and the watchdog of the management controller (R368, R385).
-/
namespace Sys2Proof.Machine

open Sys2Proof

/-- What comes from outside with an image command: the bytes read from host memory or carried by KRDS, whether each component's
signature verifies, whether a key package's signature verifies, and whether the host read failed. -/
structure ImgEnv where
  data : List Byte
  sigs : List Bool
  sigOk : Bool
  hostError : Bool
  deriving DecidableEq, Repr

/-- A command with nothing supplied: its host read fails. -/
def noEnv : ImgEnv := { data := [], sigs := [], sigOk := false, hostError := true }

/-! ## Packages (R382) -/

/-- Judge components k, k + 1, … 4 of a set from an offset: the first failing component and its code, or the set's version. The
versions must be equal and not below the rollback counter. -/
def ImgSet.judge (x : ImgSet) (sigs : List Bool) (rollback : Nat) (fuel k at' : Nat) (ver : Option Nat) : (Nat × Nat) ⊕ Nat :=
  match fuel with
  | 0 => .inr (ver.getD 0)
  | fuel + 1 =>
      match x.component k at' with
      | none => .inl (k, 4)
      | some (v, stop) =>
          if ver.isSome && ver ≠ some v then .inl (k, 4)
          else if !(sigs.getD (k - 1) false) then .inl (k, 2)
          else if v < rollback then .inl (k, 3)
          else x.judge sigs rollback fuel (k + 1) stop (some v)

/-- The verdict on a whole set. -/
def ImgSet.verdict (x : ImgSet) (sigs : List Bool) (rollback : Nat) : (Nat × Nat) ⊕ Nat := x.judge sigs rollback 4 1 0 none

/-- Verify the set that is not active: VALID with its version, or INVALID with the first failing component (R383). -/
def State.verifySet (s : State) (sigs : List Bool) : State :=
  let o := s.boot.other
  match o.verdict sigs s.boot.rollback with
  | .inr v => { s with boot := s.boot.putOther { o with st := 3, ver := v, sigOk := true, key := s.keys.opKey } }.imgEnd 0 0
  | .inl (k, code) => ({ s with boot := s.boot.putOther { o with st := 0, sigOk := false } }.imgEnd code k).raise .img 1

/-! ## Keys (R386, R387) -/

/-- The key a SEL selects. -/
def KeySt.sel (k : KeySt) (anchor : Bool) : Option (List Byte) := if anchor then k.anchor else k.opKey

/-- The key field of a package, where its format is right. -/
def keyField (b : List Byte) : Option (List Byte) :=
  let op := byteAt b 4
  let sel := byteAt b 5
  let n := leAt b 6 2
  let len := 64 + n + (if op = 1 then 0 else 96)
  let good := decide (slice b 0 4 = [0x4B, 0x42, 0x4B, 0x59]) && decide (1 ≤ op) && decide (op ≤ 3) && decide (sel < 2) && decide (b.length = len) &&
    zeros b 12 52 && (if op = 3 then decide (n = 0) else
      (decide (n = 97) && decide (byteAt b 64 = 4)) || (decide (sel = 1) && decide (256 ≤ n) && decide (n ≤ 2048)))
  if good then some (slice b 64 n) else none

/-- Act on a key package: the code of R387 and the keys after it. The package takes effect once both devices hold it; where R60 does not
admit its burst it is refused with CODE 6 (flash) and a short record (DESIGN CHOICE, log entry 100). -/
def State.keyPackage (s : State) (b : List Byte) (sigOk : Bool) : State × Nat :=
  match keyField b with
  | none => (s, 4)
  | some key =>
      let op := byteAt b 4
      let anchor := decide (byteAt b 5 = 1)
      let held := (s.keys.sel anchor).isSome
      if (op = 1) = held ∨ leAt b 8 4 ≠ s.keys.count % 16 then (s, 1)
      else if op ≠ 1 && !sigOk then (s, 2)
      else if !s.log.dev0 || !s.log.dev1 then (s, 6)
      else if !s.admitsBurst ((b.length + 255) / 256) then (s.shortRecord 4 ((b.length + 255) / 256), 6)
      else
        let k := if op = 3 then none else some key
        let n := (s.keys.count + 1) % 16
        ({ s.count .pwr 0x64 with keys := if anchor then { s.keys with anchor := k, count := n } else { s.keys with opKey := k, count := n } }, 0)

/-- The end of a KEYS command whose package is there (R383, R387). -/
def State.keysEnd (s : State) (b : List Byte) (sigOk : Bool) : State :=
  let r := s.keyPackage b sigOk
  r.1.imgEnd r.2 0

/-- The host read of a KEYS command has ended: the package is acted on, unless mains was lost meanwhile (CODE 1, log entry 100). -/
def State.keysRead (s : State) : State :=
  match s.keys.wait with
  | none => s
  | some (b, ok) =>
      let t := { s with keys := { s.keys with wait := none } }
      if t.inU2 then t.imgEnd 1 0 else t.keysEnd b ok

/-! ## The commands (R383) -/

/-- Is the set in WRITING? -/
def State.writing (s : State) : Bool := s.boot.other.st = 1

/-- A command whose condition holds. -/
def State.imgDo (s : State) (m : Master) (op : Nat) (e : ImgEnv) : State :=
  let b := s.boot
  let src := s.reg64 .img 0x48 / 64 * 64
  let o := b.other
  match op with
  | 1 => { s with boot := b.putOther { st := 2, ver := 0, sigOk := false, data := [] } }.imgEnd 0 0
  | 2 =>
      let n := (s.field .img 0x54 20 0)
      let off := s.field .img 0x50 25 0
      if e.hostError then s.imgEnd 5 0
      else if 2 ^ 20 < n || 2 ^ 26 < off + n then s.imgEnd 4 0
      else
        let t := { s with boot := { b with write := some (off, slice e.data 0 n) } }
        if m = .krds then t else t.openRead 0 .image (s.readParts 0 [(src, n)])
  | 3 => s.verifySet e.sigs
  | 4 =>
      let b1 := (b.putActive { b.active with st := 3 }).putOther { o with st := 4 }
      { s with boot := { b1 with activeB := !b.activeB, trial := true, tries := 0 } }.imgEnd 0 0
  | 5 => { s with boot := { b.putActive { b.active with st := 5 } with trial := false, timer := false } }.imgEnd 0 0
  | 6 =>
      let r := max b.rollback b.active.ver
      let o1 := if o.st = 3 && decide (o.ver < r) then { o with st := 0 } else o
      let b1 := (b.putActive { b.active with st := 5 }).putOther o1
      { s with boot := { b1 with trial := false, timer := false, rollback := r } }.imgEnd 0 0
  | 7 => ({ s with boot := { b.putOther { o with st := 0 } with write := none } }.closeReads (fun r => decide (r.use = ReadFor.image))).imgEnd 0 0
  | _ =>
      if e.hostError then s.imgEnd 5 0
      else
        let n := s.field .img 0x54 20 0
        if n = 0 then s.keysEnd [] e.sigOk
        else { s with keys := { s.keys with wait := some (slice e.data 0 n, e.sigOk) } }.openRead 0 .keys (s.readParts 0 [(src, n)])

/-- A command whose condition holds; where it changes the boot record, the mirror in flash follows by a later burst (R71). -/
def State.imgRun (s : State) (m : Master) (op : Nat) (e : ImgEnv) : State := State.noteBoot s (s.imgDo m op e)

/-- Does a command's condition in the table of R383 hold, and does SET name the set it must? -/
def State.imgAccepts (s : State) (op : Nat) (setB : Bool) : Bool :=
  let b := s.boot
  let inactive := setB != b.activeB
  match op with
  | 1 => inactive && !b.trial && !s.inU2 && b.write.isNone
  | 2 => inactive && s.writing && !s.inU2 && b.write.isNone
  | 3 => inactive && s.writing && b.write.isNone
  | 4 => inactive && decide (b.other.st = 3) && !b.trial
  | 5 | 6 => !inactive && b.fromTrial
  | 7 => inactive && s.writing
  | _ => !s.inU2 && s.keys.wait.isNone

/-- A write of IMG_CMD (R383): only masters 1, 6 and 12 with the KEY; a refused command changes nothing but IMG_RESULT. The boot
ROM in recovery mode takes none (R73). -/
def State.imgCmd (s : State) (m : Master) (v : Word) (e : ImgEnv) : State :=
  let op := fld v 3 0
  if !m.overseer || fld v 31 16 ≠ 0x494D || s.boot.recovery then s
  else if op = 0 || 9 ≤ op then s.imgEnd 4 0
  else if s.imgAccepts op (bitOn v 8) then s.imgRun m op e
  else s.imgEnd 1 0

/-! ## The trial timer and the watchdog -/

/-- TRIAL_EXPIRED (R385): the trial timer expires. -/
def execTrialExpired (s : State) : Host.Outcome State Fault Refusal :=
  if s.boot.timer then .next ((s.raise .img 2).unitReset .mgt true true 3) else .next s

/-- MGT_WATCHDOG_EXPIRY (R368): the management firmware has not restarted its watchdog for 10 s. -/
def execMgtWatchdogExpiry (s : State) : Host.Outcome State Fault Refusal :=
  if s.pwr.started then .next ((s.unitReset .mgt true true 3).raise .mgt 7) else .next s

end Sys2Proof.Machine
end

