-- ==== Sys2Proof/Machine/Access.lean ====
section
/-!
DEFINITION. Machine/Access.lean: the page arbiter (R20 to R40): who may write, locks, same-cycle arbitration, the records of
discards, FREEZE snapshots (R42, R43), what a write of each register does, reads and their side effects (R7, R27), and the
island that takes no access (R359).
-/
namespace Sys2Proof.Machine

open Sys2Proof

/-! ## What a write does -/

/-- A register stored by the access codes alone (R9). -/
def State.plain (s : State) (p : Page) (off : Nat) (m : Master) (v : Word) : State := s.setReg p off (mergeWrite p off m (s.reg p off) v)

/-- The words of a FREEZE snapshot (R42): the registers without writable bits below 0x400, where a PORT page has its counters. -/
def State.snapshot (s : State) (p : Page) : Snap :=
  ((List.range 240).map (fun i => i + 16)).filterMap (fun i => if (regSpec p (4 * i)).isSome then none else some (i, s.view p (4 * i)))

/-- A write of PG_CTRL (R42, R43). -/
def State.ctrlWrite (s : State) (p : Page) (m : Master) (v : Word) : State :=
  let was := bitOn (s.reg p 0x08) 1
  let t := s.plain p 0x08 m v
  if !p.freezeOk then t
  else if bitOn v 1 then
    (if was then t else { t.setBit p 0x08 1 true with snaps := Sparse.put t.snaps p.code (s.snapshot p) })
  else { t.setBit p 0x08 1 false with snaps := Sparse.del t.snaps p.code }

/-- Release a lock by a write of its holder's number (R39): an overseer that does not hold it breaks it. -/
def State.lockWrite (s : State) (p : Page) (m : Master) : State :=
  match s.lockOf p with
  | none => s
  | some h =>
      let t := { s with locks := Sparse.del s.locks p.code }
      if h = m then t
      else
        let u := (((t.addSat .prec 0x68 31 24 1).setField .prec 0x68 23 16 p.index).setField .prec 0x68 7 4 m.num).setField .prec 0x68 3 0 h.num
        { u with log := { u.log with sens := Sparse.put u.log.sens 100 (word p.code) } }.raise .prec 0

/-- A write of a header register (R45). -/
def State.headWrite (s : State) (p : Page) (m : Master) (off : Nat) (v : Word) : State :=
  if off = 0x08 then s.ctrlWrite p m v
  else if off = 0x14 then
    let old := s.reg p 0x14
    (s.setReg p 0x14 v).unmasked p old
  else if off = 0x20 then s.setReg p 0x20 (v &&& 0x23FF000F)
  else if off = 0x24 then s.lockWrite p m
  else if off = 0x28 then (if bitOn v 26 then s.setReg p 0x28 0 else s)
  else s.plain p off m v

/-- A write of HAM_CHAN_CFG (R169): refused where the committed minimums would exceed 61,056 cells, and where the free cells would not cover
what of them is not yet held, which R170 keeps at all times (DESIGN CHOICE, log entry 107). -/
def State.chanWrite (s : State) (off : Nat) (m : Master) (v : Word) : State :=
  let t := s.plain .ham off m v
  if t.minsFit then t else s.raise .ham 5

/-- A write of CLK_SEL by the management controller (R345): each multiplexer whose bit changes is switched. -/
def State.selWrite (s : State) (m : Master) (v : Word) : State :=
  if m = .mgt then
    (List.range 16).foldl (fun t i => if bitOn v i = bitOn (s.reg .clk 0x44) i then t else t.muxTo i (bitOn v i)) s
  else s

/-- Keep MGT_NET and MGT_IP in FRAM (R367). -/
def State.saveNet (s : State) : State :=
  { s with fram := { s.fram with mgtNet := s.reg .mgt 0x40, mgtIp := [s.reg .mgt 0x44, s.reg .mgt 0x48, s.reg .mgt 0x4C] } }

/-- Keep YEM_CFG in FRAM (R410). -/
def State.saveYem (s : State) : State := { s with fram := { s.fram with yemCfg := s.reg .yem 0x40 } }

/-- A write of a register of a FUNC page. -/
def State.funcWrite (s : State) (f : Fin 1024) (off : Nat) (m : Master) (v : Word) : State :=
  if off = 0x58 then s.funcResetWrite f.val m v
  else if off = 0x114 then s.queueCmd f.val v
  else s.plain (.func f) off m v

/-- A write of a register of a PORT page. -/
def State.portWrite (s : State) (p : Fin 4) (off : Nat) (m : Master) (v : Word) : State :=
  if off = 0x40 then s.portCfg p.val v
  else if off = 0x4C then s.portCtrl p.val v
  else if 0x800 ≤ off then s.steerWrite p.val off m v
  else s.plain (.port p) off m v

/-- A write of a register of a GATE page. -/
def State.gateWrite (s : State) (p : Fin 4) (off : Nat) (m : Master) (v : Word) : State :=
  if 0x58 ≤ off ∧ off ≤ 0x64 then s.gatePend p.val off v
  else if off = 0x68 then s.gateCmd p.val v
  else if off = 0x70 then s.pegWrite p.val v
  else s.plain (.gate p) off m v

/-- A write of a register of the PTP page. -/
def State.ptpWrite (s : State) (off : Nat) (m : Master) (v : Word) : State :=
  if off = 0x40 then s.ptpCfg m v
  else if off = 0x58 then s.ptpFreq v
  else if off = 0x5C then s.ptpStep v
  else if off = 0x80 then s.txtsPop v
  else s.plain .ptp off m v

/-- A write of a register of the TBL page. -/
def State.tblWrite (s : State) (off : Nat) (m : Master) (v : Word) : State :=
  if off = 0x40 then s.tblGo m v
  else if off = 0xC0 then s.dmaLockWrite m v
  else if off = 0xCC then (s.plain .tbl off m v).dmaGo m v
  else s.plain .tbl off m v

/-- A write of a register of the CRY page. -/
def State.cryWrite (s : State) (off : Nat) (m : Master) (v : Word) : State :=
  if 0x80 ≤ off ∧ off < 0xAC then s.stageKey off v
  else if off = 0xB0 then s.keyLoad m v
  else if off = 0x74 then s.notePop v
  else s.plain .cry off m v

/-- A write of a register of an NYC page. -/
def State.nycWrite (s : State) (c : Fin 8) (off : Nat) (m : Master) (v : Word) : State :=
  if off = 0x44 then s.clusterCmd c.val m v
  else if off = 0x78 then (s.plain (.nyc c) off m v).loadGo c.val m v
  else if 0x94 ≤ off ∧ off ≤ 0xA0 then s.threadCfg c.val off m v
  else if off = 0xA4 then s.threadCmd c.val m v
  else if off = 0x204 then s.supCommand c m v
  else if 0x240 ≤ off ∧ off < 0x2C0 then s.supWord c m off v
  else s.plain (.nyc c) off m v

/-- A write of a register of the ISL page. -/
def State.islWrite (s : State) (off : Nat) (m : Master) (v : Word) : State :=
  if off = 0x48 then s.targetWrite v
  else if off = 0x4C ∨ off = 0x50 then s.plWrite off m v
  else if off = 0x54 then s.coldWrite m v
  else if off = 0x68 ∨ off = 0x70 ∨ off = 0x74 then (s.plain .isl off m v).followTimer
  else s.plain .isl off m v

/-- An applied write of v at `off` of a page by a master: what the block does with it. `e` is what comes from outside with an
image command. -/
def State.applyWrite (s : State) (p : Page) (m : Master) (off : Nat) (v : Word) (e : ImgEnv) : State :=
  if off < 0x40 then s.headWrite p m off v
  else
    match p with
    | .unit => if off = 0x4C then s.unitResetWrite m v else s.plain p off m v
    | .pwr => if off = 0x60 then s.captestWrite m v else s.plain p off m v
    | .func f => s.funcWrite f off m v
    | .mbx f => s.boxWrite f m off v
    | .ham => if 0x100 ≤ off then s.chanWrite off m v else s.plain p off m v
    | .port q => s.portWrite q off m v
    | .gate q => s.gateWrite q off m v
    | .ring => if off = 0x40 then s.ringCfg v else s.plain p off m v
    | .ptp => s.ptpWrite off m v
    | .tbl => s.tblWrite off m v
    | .cry => s.cryWrite off m v
    | .tun => if off = 0x4C then s.encCmd v else s.plain p off m v
    | .sto => if off = 0x44 then s.connCmd m v else s.plain p off m v
    | .nyc c => s.nycWrite c off m v
    | .isl => s.islWrite off m v
    | .clk => if off = 0x44 then s.selWrite m v else s.plain p off m v
    | .mgt => if off < 0x50 then (s.plain p off m v).saveNet else s.plain p off m v
    | .mbxMet => if off = 0x40 then s.metCmd m v else s.plain p off m v
    | .log => if off = 0x50 then s.logSelect v else s.plain p off m v
    | .img => if off = 0x44 then s.imgCmd m v e else s.plain p off m v
    | .yem => if off = 0x40 then (s.plain p off m v).saveYem else s.plain p off m v
    | _ => s.plain p off m v

/-! ## The page cycle (R32, R37) -/

/-- Apply a cycle's winner: PG_SEQ rises by one; a lock read acquires the lock, a write acts (R32, R37). -/
def State.applyReq (s : State) (p : Page) (r : Req) (e : ImgEnv) : State :=
  let t := s.count p 0x2C
  match r.kind with
  | .lockRead => { t with locks := Sparse.put t.locks p.code r.master }
  | .write v => t.applyWrite p r.master r.off.toNat v e

/-- The writes refused in a cycle, and the requests that remain. -/
def State.refusedOf (s : State) (p : Page) (rs : List Req) : List Req := rs.filter (fun r => !r.isRead && !s.accepts p r)
def State.candidates (s : State) (p : Page) (rs : List Req) : List Req :=
  rs.filter (fun r => if r.isRead then s.competes p r.master else s.accepts p r)

/-- The request a page cycle applies. -/
def State.winner (s : State) (p : Page) (rs : List Req) : Option Req := topReq (s.candidates p rs)

/-- The answer of a lock read (R36, R37). -/
def State.lockAnswer (s : State) (p : Page) (rs : List Req) (r : Req) : Word :=
  if !s.mayWrite p r.master then
    (match s.lockOf p with | some h => word h.num | none => word (s.field p 0x20 3 0))
  else if !s.competes p r.master then
    (match s.lockOf p with | some h => word h.num | none => 0)
  else
    match s.winner p rs with
    | some w => if w = r then 0 else word w.master.num
    | none => 0

/-- The words of some bytes read, the first at the lowest offset. -/
def wordsOf (b : List Byte) : List Word := (List.range ((b.length + 3) / 4)).map (fun k => word (leAt b (4 * k) 4))

/-- What a lock read of any width returns (R7, R36): the answer at byte 0x024, the registers' own bytes elsewhere. -/
def State.lockData (s : State) (p : Page) (rs : List Req) (r : Req) : List Word :=
  let o := r.off.toNat
  if o = 0x24 ∧ r.width = 4 then [s.lockAnswer p rs r]
  else wordsOf ((List.range r.width).map (fun i =>
    let w := if o + i = 0x24 then s.lockAnswer p rs r else if (o + i) / 4 = 9 then 0 else s.view p (o + i)
    BitVec.ofNat 8 (byteAt (leBytes 4 w.toNat) ((o + i) % 4))))

/-- The lock reads among a cycle's requests are answered, from the state `s` at its start. -/
def State.answerReads (s : State) (p : Page) (rs : List Req) (t : State) : State :=
  (rs.filter Req.isRead).foldl (fun u r => u.emitAll ((s.lockData p rs r).map (fun w => Out.data r.master w))) t

/-- One page cycle of a page whose island takes it: refusals first, then the highest-ranked request is applied, and the others
are recorded as lost; every lock read is answered from the state at the start of the cycle. A PG_CONFLICT.CLEAR that is applied
zeroes the register before this cycle's own discards are recorded, so they stand after it (DESIGN CHOICE, log entry 92: R35 does
not say which comes first). -/
def State.arbitrate (s : State) (p : Page) (rs : List Req) (e : ImgEnv) : State :=
  let refused := s.refusedOf p rs
  s.answerReads p rs (match s.winner p rs with
    | some w => (s.applyReq p w e).noteDiscards p ((s.candidates p rs).erase w) refused
    | none => s.noteDiscards p [] refused)

/-- While TEMP_CRIT stands the management controller writes 0 to a level register that holds a level (R374). -/
def State.coolDown (s : State) : State :=
  if !s.sens.hot then s
  else
    [0x4C, 0x50].foldl (fun (t : State) (off : Nat) =>
      if t.reg .isl off &&& (if off = 0x4C then 0x77777777 else 0x77) = 0 then t
      else t.arbitrate .isl [{ master := .mgt, off := BitVec.ofNat 12 off, width := 4, kind := .write 0 }] noEnv) s

/-! ## Islands that take no access (R359) -/

/-- The island that takes an access to an offset: HLNK_WAKE is held in MGT (R109). -/
def accessIsland (p : Page) (off : Nat) : Island := if p = .hlnk ∧ off / 4 = 0x13 then .mgt else p.island

/-- Is the island of an access off: in S2 or held in a cold reset? -/
def State.islandOff (s : State) (i : Island) : Bool := (s.island i).cold || decide ((s.island i).mode = .off)

/-- An access reaches an island: one in S1 is woken by it. -/
def State.wakeFor (s : State) (i : Island) : State := if (s.island i).mode = .retain then s.wakeIsland i 1 else s

/-- A lock read by a master that does not reach the page cannot be made (R27): it is none of the cycle's requests. -/
def State.made (s : State) (p : Page) (rs : List Req) : List Req := rs.filter (fun r => !r.isRead || s.reaches p r.master)

/-- Lock reads that no island takes are answered with zeros. -/
def State.zeroAnswers (s : State) (rs : List Req) : State :=
  (rs.filter Req.isRead).foldl (fun u r => u.emitAll (List.replicate ((r.width + 3) / 4) (.data r.master 0))) s

/-- A page cycle's requests: discarded and counted where the island is off, held where it has no clock, settled otherwise. -/
def State.settleMade (s : State) (p : Page) (rs : List Req) (e : ImgEnv) : State :=
  let i := match rs with | r :: _ => accessIsland p r.off.toNat | [] => p.island
  if s.islandOff i then (s.add .isl 0x64 31 0 rs.length).zeroAnswers rs
  else
    let t := s.wakeFor i
    if (t.island i).noClock then { t with held := t.held ++ [{ page := p, reqs := rs }] }
    else (t.arbitrate p rs e).coolDown

/-- The requests of a page cycle that their masters can make. -/
def State.settleWith (s : State) (p : Page) (rs : List Req) (e : ImgEnv) : State :=
  if (s.made p rs).isEmpty then s else s.settleMade p (s.made p rs) e

/-- A page cycle's requests with nothing from outside. -/
def State.settle (s : State) (p : Page) (rs : List Req) : State := s.settleWith p rs noEnv

/-! ## One cycle of several pages (R48) -/

/-- The rank and page index of the refusal that a page's cycle reports, where it makes one. -/
def State.refusalKey (s : State) (p : Page) (rs : List Req) : Option (Nat × Nat) :=
  (topReq (s.refusedOf p (s.made p rs))).map (fun r => (r.master.rank, p.index))

/-- Does refusal a describe the cycle before refusal b: its rank is higher, or equal on a lower page index? -/
def leads (a b : Option (Nat × Nat)) : Bool :=
  match a, b with
  | some x, some y => decide (x.1 < y.1) || (decide (x.1 = y.1) && decide (x.2 < y.2))
  | some _, none => true
  | none, _ => false

/-- The page whose refusal PREC_REFUSED_LAST describes, put first. -/
def State.leadFirst (s : State) (l : List (Page × List Req)) : List (Page × List Req) :=
  match l with
  | [] => []
  | x :: r =>
      match s.leadFirst r with
      | [] => [x]
      | y :: t => if leads (s.refusalKey y.1 y.2) (s.refusalKey x.1 x.2) then y :: x :: t else x :: y :: t

/-- PREC_REFUSED_LAST, and the page a record of WRITE_REFUSED names, as they were in `from'`. -/
def State.keepRefusal (from' s : State) : State :=
  let t := s.setReg .prec 0x6C (from'.reg .prec 0x6C)
  { t with log := { t.log with sens := Sparse.put t.log.sens 101 (Sparse.get 0 from'.log.sens 101) } }

/-- The page cycles of several pages in one cycle of the MGT clock: PREC_REFUSED_LAST describes the highest-ranked refusal, on the lowest
page index among equals (R48). -/
def State.settleAll (s : State) (l : List (Page × List Req)) : State :=
  match s.leadFirst l with
  | [] => s
  | (p, rs) :: t =>
      let u := s.settle p rs
      let v := t.foldl (fun w x => w.settle x.1 x.2) u
      if (s.refusalKey p rs).isSome then State.keepRefusal u v else v

/-- A master's aligned 32-bit write. -/
def wr (m : Master) (off : Nat) (v : Word) : Req := { master := m, off := BitVec.ofNat 12 off, width := 4, kind := .write v }

/-- A write and its rivals in the page cycle. -/
def State.write (s : State) (p : Page) (off : Nat) (m : Master) (v : Word) (rivals : List Req) : State := s.settle p (wr m off v :: rivals)

/-- A lock read and its rivals in the page cycle. -/
def State.readLock (s : State) (p : Page) (m : Master) (rivals : List Req) : State :=
  s.settle p ({ master := m, off := 0x24, width := 4, kind := .lockRead } :: rivals)

/-! ## Reads (R7, R9, R20, R27) -/

/-- What reading bytes lo to lo + n − 1 of a register changes: the latch of PTP seconds, the peg index, and the RC field PEAK. -/
def State.readEffect (s : State) (p : Page) (off lo n : Nat) : State :=
  match p with
  | .ptp => if off = 0x48 then { s with ptp := { s.ptp with latch := s.ptp.time / 1000000000 } } else s
  | .gate q => if off = 0x70 then s.pegNext q.val else s
  | .mgt => if off = 0xE4 && decide (2 < lo + n) && decide (lo < 4) then s.setField .mgt 0xE4 31 16 0 else s
  | _ => s

/-- Read bytes of one register of a page whose island takes it: the bytes and the state after. -/
def State.readReg (s : State) (p : Page) (off lo n : Nat) : State × List Byte :=
  (s.readEffect p off lo n, slice (leBytes 4 (s.view p off).toNat) lo n)

/-- A read that is no lock read: `width` bytes at `off`, in at most the registers they lie in. -/
def State.readBytes (s : State) (p : Page) (off width : Nat) : State × List Byte :=
  let i := accessIsland p off
  if s.islandOff i then (s.count .isl 0x64, List.replicate width 0)
  else
    let t := s.wakeFor i
    if (t.island i).noClock then (t.count .isl 0x64, List.replicate width 0)
    else
      (List.range (width / 4 + 2)).foldl (fun (a : State × List Byte) k =>
        let base := off / 4 * 4 + 4 * k
        let lo := if k = 0 then off % 4 else 0
        let hi := min 4 (off + width - base)
        if off + width ≤ base || 0x1000 ≤ base then a
        else
          let x := a.1.readReg p base lo (hi - lo)
          (x.1, a.2 ++ x.2)) (t, [])

/-- Does a read address byte 0x024, and so PG_LOCK.HOLDER (R36)? -/
def touchesLock (off width : Nat) : Bool := decide (off ≤ 0x24) && decide (0x24 < off + width)

/-- A read by a master that reaches the page (R27), answered with its bytes as words; one that addresses byte 0x024 is a lock
read. -/
def State.readBy (s : State) (p : Page) (m : Master) (off width : Nat) : State :=
  if touchesLock off width then s.settle p [{ master := m, off := BitVec.ofNat 12 off, width := width, kind := .lockRead }]
  else if !s.reaches p m then s
  else
    let x := s.readBytes p off width
    x.1.emitAll ((wordsOf x.2).map (fun w => Out.data m w))

/-- A 32-bit read with no lock read and its value. -/
def State.read32 (s : State) (p : Page) (off : Nat) : State × Word :=
  let x := s.readBytes p off 4
  (x.1, word (leNat x.2))

end Sys2Proof.Machine
end

