-- ==== Sys2Proof/Machine/Writes.lean ====
section
/-!
DEFINITION. Machine/Writes.lean: the commands that are a request at one page's arbiter: header registers, then the command
registers of each block. A command's row fixes the page and the register; its fixed bits (GO, OP, a SEND or ACK bit) are set in
the value written, and every rule of the arbiter (R20 to R40) and of the register applies.
-/
namespace Sys2Proof.Machine

open Sys2Proof

/-- REGISTER_WRITE (R32, R48): the requests that reach a page in one page cycle, and those that reach other pages in the same cycle of
the MGT clock. -/
def execRegisterWrite (p : Page) (reqs : CycleReqs) (s : State) : Host.Outcome State Fault Refusal :=
  .next (if reqs.also.isEmpty then s.settle p reqs.here else s.settleAll ((p, reqs.here) :: reqs.also))

/-- LOCK_READ (R36, R37): a 4-byte read at 0x024. -/
def execLockRead (p : Page) (m : Master) (rivals : List Req) (s : State) : Host.Outcome State Fault Refusal :=
  .next (s.readLock p m rivals)

/-- LOCK_RELEASE (R39). -/
def execLockRelease (p : Page) (m : Master) (v : Word) (rivals : List Req) (s : State) : Host.Outcome State Fault Refusal :=
  .next (s.write p 0x24 m v rivals)

/-- RC_FIELD_READ (R7, R9): a read; one that addresses a byte of an RC field clears the whole field. -/
def execRcFieldRead (p : Page) (m : Master) (off : BitVec 12) (width : Nat) (s : State) : Host.Outcome State Fault Refusal :=
  .next (s.readBy p m off.toNat width)

/-- CONFLICT_CLEAR (R35). -/
def execConflictClear (p : Page) (m : Master) (rivals : List Req) (s : State) : Host.Outcome State Fault Refusal :=
  .next (s.write p 0x28 m (bit 26) rivals)

/-- OWNER_WRITE (R29, R30). -/
def execOwnerWrite (p : Page) (m : Master) (v : Word) (rivals : List Req) (s : State) : Host.Outcome State Fault Refusal :=
  .next (s.write p 0x20 m v rivals)

/-- FREEZE_SNAPSHOT (R42): a write of PG_CTRL. -/
def execFreezeSnapshot (p : Page) (m : Master) (v : Word) (rivals : List Req) (s : State) : Host.Outcome State Fault Refusal :=
  .next (s.write p 0x08 m v rivals)

/-- FREEZE_TIMEOUT (R43): 100 ms after it was set, FREEZE returns to 0. -/
def execFreezeTimeout (p : Page) (s : State) : Host.Outcome State Fault Refusal :=
  if bitOn (s.reg p 0x08) 1 then .next { s.setBit p 0x08 1 false with snaps := Sparse.del s.snaps p.code } else .next s

/-- CAPTEST_START (R63, R68): START is written, PERIOD_H kept. -/
def execCaptestStart (m : Master) (rivals : List Req) (s : State) : Host.Outcome State Fault Refusal :=
  .next (s.write .pwr 0x60 m (s.reg .pwr 0x60 &&& 0xFF ||| bit 8) rivals)

/-- UNIT_RESET_GO (R81): a write of UNIT_RESET with GO. -/
def execUnitResetGo (m : Master) (v : Word) (rivals : List Req) (s : State) : Host.Outcome State Fault Refusal :=
  .next (s.write .unit 0x4C m (v ||| bit 0) rivals)

/-- UNIT_RESET_EXTEND (R81): a write of UNIT_RESET with GO and SEL_MGT, which extends a reset in progress to MGT. -/
def execUnitResetExtend (m : Master) (v : Word) (rivals : List Req) (s : State) : Host.Outcome State Fault Refusal :=
  .next (s.write .unit 0x4C m (v ||| 3) rivals)

/-- FUNC_RESET_GO (R123). -/
def execFuncResetGo (f : Fin 1024) (m : Master) (rivals : List Req) (s : State) : Host.Outcome State Fault Refusal :=
  .next (s.write (.func f) 0x58 m (bit 0) rivals)

/-- ISLAND_COLD_RESET (R80, R364): a write of ISL_COLDRST. -/
def execIslandColdReset (m : Master) (v : Word) (rivals : List Req) (s : State) : Host.Outcome State Fault Refusal :=
  .next (s.write .isl 0x54 m v rivals)

/-- QUEUE_ENABLE (R134). -/
def execQueueEnable (f : Fin 1024) (m : Master) (rivals : List Req) (s : State) : Host.Outcome State Fault Refusal :=
  .next (s.write (.func f) 0x114 m (bit 0) rivals)

/-- HAM_CHAN_CFG_WRITE (R168, R169). -/
def execHamChanCfgWrite (i : Fin 19) (m : Master) (v : Word) (rivals : List Req) (s : State) : Host.Outcome State Fault Refusal :=
  .next (s.write .ham (0x100 + 8 * i.val) m v rivals)

/-- PORT_CFG_WRITE (R180, R181). -/
def execPortCfgWrite (p : Fin 4) (m : Master) (v : Word) (rivals : List Req) (s : State) : Host.Outcome State Fault Refusal :=
  .next (s.write (.port p) 0x40 m v rivals)

/-- FLAP (R195). -/
def execFlap (p : Fin 4) (m : Master) (rivals : List Req) (s : State) : Host.Outcome State Fault Refusal :=
  .next (s.write (.port p) 0x4C m (bit 0) rivals)

/-- STEER_WORD_A_WRITE (R200): word A applies with the held word B. -/
def execSteerWordAWrite (p : Fin 4) (r : Fin 256) (m : Master) (v : Word) (rivals : List Req) (s : State) : Host.Outcome State Fault Refusal :=
  .next (s.write (.port p) (0x800 + 8 * r.val) m v rivals)

/-- STEER_WORD_B_WRITE (R200): word B is held. -/
def execSteerWordBWrite (p : Fin 4) (r : Fin 256) (m : Master) (v : Word) (rivals : List Req) (s : State) : Host.Outcome State Fault Refusal :=
  .next (s.write (.port p) (0x804 + 8 * r.val) m v rivals)

/-- PTP_CFG_WRITE (R204). -/
def execPtpCfgWrite (m : Master) (v : Word) (rivals : List Req) (s : State) : Host.Outcome State Fault Refusal :=
  .next (s.write .ptp 0x40 m v rivals)

/-- PTP_STEP (R206). -/
def execPtpStep (m : Master) (v : Word) (rivals : List Req) (s : State) : Host.Outcome State Fault Refusal :=
  .next (s.write .ptp 0x5C m v rivals)

/-- PTP_TIME_READ (R203): a read of PTP_TIME_NS latches the seconds. -/
def execPtpTimeRead (m : Master) (s : State) : Host.Outcome State Fault Refusal :=
  .next (s.readBy .ptp m 0x48 4)

/-- TXTS_POP (R207). -/
def execTxtsPop (m : Master) (rivals : List Req) (s : State) : Host.Outcome State Fault Refusal :=
  .next (s.write .ptp 0x80 m (bit 31) rivals)

/-- ARM (R209). -/
def execArm (p : Fin 4) (m : Master) (rivals : List Req) (s : State) : Host.Outcome State Fault Refusal :=
  .next (s.write (.gate p) 0x68 m (bit 0) rivals)

/-- DISARM (R209). -/
def execDisarm (p : Fin 4) (m : Master) (rivals : List Req) (s : State) : Host.Outcome State Fault Refusal :=
  .next (s.write (.gate p) 0x68 m (bit 1) rivals)

/-- GATE_PEG_DATA_ACCESS (R210): a write or a read of GATE_PEG_DATA, or of GATE_PEG_ACT. -/
def execGatePegDataAccess (p : Fin 4) (m : Master) (active : Bool) (wr : Option Word) (rivals : List Req) (s : State) :
    Host.Outcome State Fault Refusal :=
  let off := if active then 0x74 else 0x70
  match wr with
  | some v => .next (s.write (.gate p) off m v rivals)
  | none => .next (s.readBy (.gate p) m off 4)

/-- RING_CFG_WRITE (R215). -/
def execRingCfgWrite (m : Master) (v : Word) (rivals : List Req) (s : State) : Host.Outcome State Fault Refusal :=
  .next (s.write .ring 0x40 m v rivals)

/-- TBL_CMD with GO and an OP. -/
def tblWord (v : Word) (op : Nat) : Word := setFld (v ||| bit 31) 2 0 op

/-- SEARCH (R238, R239): TBL_CMD with GO and OP 1; the other bits are as written. -/
def execTblSearch (m : Master) (v : Word) (rivals : List Req) (s : State) : Host.Outcome State Fault Refusal :=
  .next (s.write .tbl 0x40 m (tblWord v 1) rivals)

/-- NEXT (R238, R239): TBL_CMD with GO and OP 2; the other bits are as written. -/
def execTblNext (m : Master) (v : Word) (rivals : List Req) (s : State) : Host.Outcome State Fault Refusal :=
  .next (s.write .tbl 0x40 m (tblWord v 2) rivals)

/-- INSERT (R238, R239): TBL_CMD with GO and OP 3; the other bits are as written. -/
def execTblInsert (m : Master) (v : Word) (rivals : List Req) (s : State) : Host.Outcome State Fault Refusal :=
  .next (s.write .tbl 0x40 m (tblWord v 3) rivals)

/-- DELETE (R238, R239): TBL_CMD with GO and OP 4; the other bits are as written. -/
def execTblDelete (m : Master) (v : Word) (rivals : List Req) (s : State) : Host.Outcome State Fault Refusal :=
  .next (s.write .tbl 0x40 m (tblWord v 4) rivals)

/-- WRING (R238, R239): TBL_CMD with GO and OP 5; the other bits are as written. -/
def execTblWring (m : Master) (v : Word) (rivals : List Req) (s : State) : Host.Outcome State Fault Refusal :=
  .next (s.write .tbl 0x40 m (tblWord v 5) rivals)

/-- TBL_DMA_LOCK_WRITE (R242). -/
def execTblDmaLockWrite (m : Master) (v : Word) (rivals : List Req) (s : State) : Host.Outcome State Fault Refusal :=
  .next (s.write .tbl 0xC0 m v rivals)

/-- TBL_DMA_START (R243): TBL_DMA_CTL with GO. -/
def execTblDmaStart (m : Master) (v : Word) (rivals : List Req) (s : State) : Host.Outcome State Fault Refusal :=
  .next (s.write .tbl 0xCC m (v ||| bit 31) rivals)

/-- TUN_ENC_WRITE (R259). -/
def execTunEncWrite (m : Master) (rivals : List Req) (s : State) : Host.Outcome State Fault Refusal :=
  .next (s.write .tun 0x4C m (bit 0) rivals)

/-- TUN_ENC_READ (R259). -/
def execTunEncRead (m : Master) (rivals : List Req) (s : State) : Host.Outcome State Fault Refusal :=
  .next (s.write .tun 0x4C m (bit 1) rivals)

/-- LOAD (R271, R272): CRY_KEY_CMD with LOAD. -/
def execKeyLoad (m : Master) (v : Word) (rivals : List Req) (s : State) : Host.Outcome State Fault Refusal :=
  .next (s.write .cry 0xB0 m (v ||| bit 0) rivals)

/-- CRY_NOTE_POP (R275). -/
def execCryNotePop (m : Master) (rivals : List Req) (s : State) : Host.Outcome State Fault Refusal :=
  .next (s.write .cry 0x74 m (bit 31) rivals)

/-- STO_CONN_WRITE (R284). -/
def execStoConnWrite (m : Master) (rivals : List Req) (s : State) : Host.Outcome State Fault Refusal :=
  .next (s.write .sto 0x44 m (bit 0) rivals)

/-- STO_CONN_READ (R284). -/
def execStoConnRead (m : Master) (rivals : List Req) (s : State) : Host.Outcome State Fault Refusal :=
  .next (s.write .sto 0x44 m (bit 1) rivals)

/-- STO_CONN_OPEN (R286). -/
def execStoConnOpen (m : Master) (rivals : List Req) (s : State) : Host.Outcome State Fault Refusal :=
  .next (s.write .sto 0x44 m (bit 2) rivals)

/-- STO_CONN_CLOSE (R288). -/
def execStoConnClose (m : Master) (rivals : List Req) (s : State) : Host.Outcome State Fault Refusal :=
  .next (s.write .sto 0x44 m (bit 3) rivals)

/-- NYC_LOAD_START (R311, R313): NYC_LOAD_CTL with GO. -/
def execNycLoadStart (c : Fin 8) (m : Master) (v : Word) (rivals : List Req) (s : State) : Host.Outcome State Fault Refusal :=
  .next (s.write (.nyc c) 0x78 m (v ||| bit 31) rivals)

/-- START (R315): of the thread NYC_TSEL selects. -/
def execThStart (c : Fin 8) (m : Master) (rivals : List Req) (s : State) : Host.Outcome State Fault Refusal :=
  .next (s.write (.nyc c) 0xA4 m (bit 0) rivals)

/-- STOP (R315): of the thread NYC_TSEL selects. -/
def execThStop (c : Fin 8) (m : Master) (rivals : List Req) (s : State) : Host.Outcome State Fault Refusal :=
  .next (s.write (.nyc c) 0xA4 m (bit 1) rivals)

/-- RESTART (R315): of the thread NYC_TSEL selects. -/
def execThRestart (c : Fin 8) (m : Master) (rivals : List Req) (s : State) : Host.Outcome State Fault Refusal :=
  .next (s.write (.nyc c) 0xA4 m (bit 2) rivals)

/-- FLT_POP (R317). -/
def execFltPop (c : Fin 8) (m : Master) (rivals : List Req) (s : State) : Host.Outcome State Fault Refusal :=
  .next (s.write (.nyc c) 0x44 m (bit 0) rivals)

/-- RESUME (R320). -/
def execResume (c : Fin 8) (m : Master) (rivals : List Req) (s : State) : Host.Outcome State Fault Refusal :=
  .next (s.write (.nyc c) 0x44 m (bit 1) rivals)

/-- NYC_HP_WRITE (R301, R311). -/
def execNycHpWrite (c : Fin 8) (core : Fin 8) (m : Master) (v : Word) (rivals : List Req) (s : State) : Host.Outcome State Fault Refusal :=
  .next (s.write (.nyc c) (0x50 + 4 * core.val) m v rivals)

/-- ISL_SLEEP_REQUEST (R355): a write of ISL_TARGET. -/
def execIslSleepRequest (m : Master) (v : Word) (rivals : List Req) (s : State) : Host.Outcome State Fault Refusal :=
  .next (s.write .isl 0x48 m v rivals)

/-- ISL_RUN_REQUEST (R357, R358): a write of ISL_TARGET. -/
def execIslRunRequest (m : Master) (v : Word) (rivals : List Req) (s : State) : Host.Outcome State Fault Refusal :=
  .next (s.write .isl 0x48 m v rivals)

/-- PL_CHANGE_REQUEST (R348, R350): a write of ISL_PL0 or ISL_PL1. -/
def execPlChangeRequest (pl1 : Bool) (m : Master) (v : Word) (rivals : List Req) (s : State) : Host.Outcome State Fault Refusal :=
  .next (s.write .isl (if pl1 then 0x50 else 0x4C) m v rivals)

/-- UP_SEND (R369, R370). -/
def execUpSend (f : Fin 1024) (m : Master) (rivals : List Req) (s : State) : Host.Outcome State Fault Refusal :=
  .next (s.write (.mbx f) 0x44 m (bit 0) rivals)

/-- UP_ACK (R369, R370). -/
def execUpAck (f : Fin 1024) (m : Master) (rivals : List Req) (s : State) : Host.Outcome State Fault Refusal :=
  .next (s.write (.mbx f) 0x44 m (bit 1) rivals)

/-- DOWN_SEND (R369, R370). -/
def execDownSend (f : Fin 1024) (m : Master) (rivals : List Req) (s : State) : Host.Outcome State Fault Refusal :=
  .next (s.write (.mbx f) 0x44 m (bit 2) rivals)

/-- DOWN_ACK (R369, R370). -/
def execDownAck (f : Fin 1024) (m : Master) (rivals : List Req) (s : State) : Host.Outcome State Fault Refusal :=
  .next (s.write (.mbx f) 0x44 m (bit 3) rivals)

/-- MUP_SEND (R369, R370). -/
def execMupSend (f : Fin 1024) (m : Master) (rivals : List Req) (s : State) : Host.Outcome State Fault Refusal :=
  .next (s.write (.mbx f) 0x44 m (bit 4) rivals)

/-- MUP_ACK (R369, R370) and R372. -/
def execMupAck (f : Fin 1024) (m : Master) (rivals : List Req) (s : State) : Host.Outcome State Fault Refusal :=
  .next (s.write (.mbx f) 0x44 m (bit 5) rivals)

/-- MDOWN_SEND (R369, R370). -/
def execMdownSend (f : Fin 1024) (m : Master) (rivals : List Req) (s : State) : Host.Outcome State Fault Refusal :=
  .next (s.write (.mbx f) 0x44 m (bit 6) rivals)

/-- MDOWN_ACK (R369, R370). -/
def execMdownAck (f : Fin 1024) (m : Master) (rivals : List Req) (s : State) : Host.Outcome State Fault Refusal :=
  .next (s.write (.mbx f) 0x44 m (bit 7) rivals)

/-- TO_SUP_SEND (R371). -/
def execToSupSend (c : Fin 8) (m : Master) (rivals : List Req) (s : State) : Host.Outcome State Fault Refusal :=
  .next (s.write (.nyc c) 0x204 m (bit 0) rivals)

/-- TO_SUP_ACK (R371). -/
def execToSupAck (c : Fin 8) (m : Master) (rivals : List Req) (s : State) : Host.Outcome State Fault Refusal :=
  .next (s.write (.nyc c) 0x204 m (bit 1) rivals)

/-- FROM_SUP_SEND (R371). -/
def execFromSupSend (c : Fin 8) (m : Master) (rivals : List Req) (s : State) : Host.Outcome State Fault Refusal :=
  .next (s.write (.nyc c) 0x204 m (bit 2) rivals)

/-- FROM_SUP_ACK (R371). -/
def execFromSupAck (c : Fin 8) (m : Master) (rivals : List Req) (s : State) : Host.Outcome State Fault Refusal :=
  .next (s.write (.nyc c) 0x204 m (bit 3) rivals)

/-- LOG_READ_SELECT (R393). -/
def execLogReadSelect (m : Master) (v : Word) (rivals : List Req) (s : State) : Host.Outcome State Fault Refusal :=
  .next (s.write .log 0x50 m v rivals)

/-- BEGIN (R383): IMG_CMD with OP 1. -/
def execImgBegin (m : Master) (v : Word) (rivals : List Req) (s : State) : Host.Outcome State Fault Refusal :=
  .next (s.write .img 0x44 m (setFld v 3 0 1) rivals)

/-- TRIAL (R383): IMG_CMD with OP 4. -/
def execImgTrial (m : Master) (v : Word) (rivals : List Req) (s : State) : Host.Outcome State Fault Refusal :=
  .next (s.write .img 0x44 m (setFld v 3 0 4) rivals)

/-- CONFIRM (R383): IMG_CMD with OP 5. -/
def execImgConfirm (m : Master) (v : Word) (rivals : List Req) (s : State) : Host.Outcome State Fault Refusal :=
  .next (s.write .img 0x44 m (setFld v 3 0 5) rivals)

/-- CONFIRM_RAISE (R383): IMG_CMD with OP 6. -/
def execImgConfirmRaise (m : Master) (v : Word) (rivals : List Req) (s : State) : Host.Outcome State Fault Refusal :=
  .next (s.write .img 0x44 m (setFld v 3 0 6) rivals)

/-- ABORT (R383): IMG_CMD with OP 7. -/
def execImgAbort (m : Master) (v : Word) (rivals : List Req) (s : State) : Host.Outcome State Fault Refusal :=
  .next (s.write .img 0x44 m (setFld v 3 0 7) rivals)

/-- WRITE (R383): IMG_CMD with OP 2. -/
def execImgWrite (m : Master) (v : Word) (data : List Byte) (hostError : Bool) (rivals : List Req) (s : State) : Host.Outcome State Fault Refusal :=
  .next (s.settleWith .img (wr m 0x44 (setFld v 3 0 2) :: rivals) { noEnv with data := data, hostError := hostError })

/-- VERIFY (R383): IMG_CMD with OP 3. -/
def execImgVerify (m : Master) (v : Word) (sigs : List Bool) (rivals : List Req) (s : State) : Host.Outcome State Fault Refusal :=
  .next (s.settleWith .img (wr m 0x44 (setFld v 3 0 3) :: rivals) { noEnv with sigs := sigs })

/-- KEYS (R383): IMG_CMD with OP 8. -/
def execImgKeys (m : Master) (v : Word) (pkg : List Byte) (sigOk hostError : Bool) (rivals : List Req) (s : State) : Host.Outcome State Fault Refusal :=
  .next (s.settleWith .img (wr m 0x44 (setFld v 3 0 8) :: rivals) { noEnv with data := pkg, sigOk := sigOk, hostError := hostError })

/-- BRIDGE_ACCESS_TIMEOUT (R359): 128 reference cycles have passed for the accesses held at a page's bridge. Where the island still
has no clock they end there, counted; otherwise the bridge delivers them in order, each group in a page cycle of its own (R20,
R32). -/
def execBridgeAccessTimeout (p : Page) (s : State) : Host.Outcome State Fault Refusal :=
  let mine := (s.held.filter (fun h => h.page = p)).map (·.reqs)
  let t := { s with held := s.held.filter (fun h => h.page ≠ p) }
  match mine.flatten with
  | [] => .next s
  | r :: l =>
      if (s.island (accessIsland p r.off.toNat)).noClock then .next ((t.add .isl 0x64 31 0 (l.length + 1)).zeroAnswers (r :: l))
      else .next (mine.foldl (fun u g => u.settle p g) t)

/-! ## The supervisor's accesses (R337) -/

/-- May thread t execute PGR and PGW, and is IMM in form? -/
def State.pageForm (s : State) (c : Fin 8) (t : Fin 128) (imm : BitVec 18) : Bool :=
  decide (s.field (.nyc c) 0x48 6 4 * 16 + s.field (.nyc c) 0x48 3 0 = t.val) && decide (imm.toNat % 4 = 0) && decide (imm.toNat < 0x1000)

/-- PGR (R337): a register of the cluster's own page, as master 8; offset 0x024 is a lock read. -/
def execNPgr (c : Fin 8) (t : Fin 128) (rd ra rb : BitVec 4) (imm : BitVec 18) (rivals : List Req) (s : State) :
    Host.Outcome State Fault Refusal :=
  nIssue 0x3B { rd := true, imm := true, pairD := true } c t rd ra rb imm s (fun th =>
    if !s.pageForm c t imm then s.nFault c.val t.val 1 (nWord 0x3B rd ra rb imm % 2 ^ 18)
    else
      let off := imm.toNat
      let req : Req := { master := .nyate c, off := 0x24, width := 4, kind := .lockRead }
      let x : State × Word := if off = 0x24 then (s.settle (.nyc c) (req :: rivals), s.lockAnswer (.nyc c) (req :: rivals) req)
        else s.read32 (.nyc c) off
      x.1.setThread c.val t.val ((th.setR rd.toNat (x.2.setWidth 16 |>.setWidth 18)).setR (rd.toNat + 1) ((x.2 >>> 16).setWidth 18)).step)

/-- PGW (R337): a posted write of n[rd + 1][15:0] and n[rd][15:0] to a register of the cluster's own page, as master 8. -/
def execNPgw (c : Fin 8) (t : Fin 128) (rd ra rb : BitVec 4) (imm : BitVec 18) (rivals : List Req) (s : State) :
    Host.Outcome State Fault Refusal :=
  nIssue 0x3C { rd := true, imm := true, pairD := true } c t rd ra rb imm s (fun th =>
    if !s.pageForm c t imm then s.nFault c.val t.val 1 (nWord 0x3C rd ra rb imm % 2 ^ 18)
    else
      let v := word ((th.r (rd.toNat + 1)).toNat % 65536 * 65536 + (th.r rd.toNat).toNat % 65536)
      let u := s.settle (.nyc c) (wr (.nyate c) imm.toNat v :: rivals)
      u.setThread c.val t.val (u.thread c.val t.val).step)

end Sys2Proof.Machine
end

