-- ==== Sys2Proof/Machine/Bar.lean ====
section
/-!
DEFINITION. Machine/Bar.lean: host memory requests to the BARs (R95 to R99, R104, R107, R145, R245, R446) and poisoned writes (R103).
-/
namespace Sys2Proof.Machine

open Sys2Proof

/-- What a BAR offset reaches. -/
inductive BarTarget where
  /-- A byte of a register page. -/
  | page (p : Page) (off : Nat)
  /-- A byte of the MSI-X table, or of the PBA. -/
  | msix (off : Nat)
  | pba (off : Nat)
  /-- A byte of the doorbells. -/
  | doorbell (off : Nat)
  /-- A byte of the meter's record ring, or of the table aperture. -/
  | ring (off : Nat)
  | aperture (off : Nat)
  /-- A byte of a BAR that no row of R95 names; reads 0. -/
  | nothing
  /-- A window that misses (R99). -/
  | miss
  deriving DecidableEq, Repr

/-- What stands at an internal address (R446, R465 to R467). -/
def atInternal (a : Nat) (pf0 : Bool) : BarTarget :=
  if 0x1401000 ≤ a ∧ a < 0x1405000 then .ring (a - 0x1401000)
  else if pf0 ∧ 0x3000000 ≤ a ∧ a < 0x4000000 then .aperture (a - 0x3000000)
  else match Page.ofBase (a / 0x1000 * 0x1000) with | some p => .page p (a % 0x1000) | none => .miss

/-- Where an offset of a function's BAR leads (R95, R97, R98). -/
def State.barTarget (s : State) (f : Fin 1024) (bar off : Nat) : BarTarget :=
  let k := f.val
  let own (off : Nat) : BarTarget := if off < 0x1000 then .page (.func f) off else if off < 0x2000 then .page (.mbx f) (off - 0x1000) else .nothing
  if bar = 0 then
    if k = 0 then
      let w := s.reg .hwin (0x40 + 4 * (off / 0x100000))
      if 0x4000000 ≤ off then .nothing
      else if bitOn w 31 then atInternal (fld w 15 0 * 0x100000 + off % 0x100000) true else .miss
    else if k < 4 then
      if 0x100000 ≤ off then .nothing
      else if off < 0x10000 then own off
      else
        let w := s.reg .hwin (0x140 + 0x40 * (k - 1) + 4 * (off / 0x10000))
        if bitOn w 31 then atInternal (fld w 19 0 * 0x10000 + off % 0x10000) false else .miss
    else if off < 0x2000 then own off
    else if off < 0x2200 then .msix (off - 0x2000)
    else if 0x3000 ≤ off ∧ off < 0x4000 then .pba (off - 0x3000)
    else if 0x8000 ≤ off ∧ off < 0x10000 then .doorbell (off - 0x8000)
    else .nothing
  else if bar = 2 ∧ k < 4 then
    let n := if k = 0 then 2048 else 512
    if off < 16 * n then .msix off
    else if 16 * n ≤ off ∧ off < 16 * n + n / 8 then .pba (off - 16 * n) else .nothing
  else if bar = 4 ∧ k < 4 then (if off < 0x8000 then .doorbell off else .nothing)
  else .nothing

/-- A window miss (R99). -/
def State.windowMiss (s : State) (f : Fin 1024) (off : Nat) (write : Bool) : State :=
  ((s.setReg .hwin 0x200 (word (f.val % 4 * 2 ^ 30 + write.toNat * 2 ^ 29 + off % 2 ^ 26))).count .hwin 0x204).raise .hwin 0

/-! ## MSI-X (R104, R105) -/

/-- The four words of an MSI-X entry; one at or beyond the function's allocation reads 0. -/
def State.msixWords (s : State) (f v : Nat) : List Word :=
  if (s.func f).asg.vectors ≤ v then [0, 0, 0, 0]
  else
    let e := s.msix f v
    [e.addrLo, e.addrHi, e.data, word e.masked.toNat]

/-- Write one word of the MSI-X table; an unmasked entry with its pending bit set sends its message. -/
def State.msixWrite (s : State) (f off : Nat) (v : Word) : State :=
  let k := off / 16
  if (s.func f).asg.vectors ≤ k then s
  else
    let e := s.msix f k
    let n := match off / 4 % 4 with
      | 0 => { e with addrLo := v &&& 0xFFFFFFFC } | 1 => { e with addrHi := v } | 2 => { e with data := v } | _ => { e with masked := bitOn v 0 }
    let t := { s with host := { s.host with msix := Sparse.set Msix.reset s.host.msix (2048 * f + k) n } }
    if t.host.pba.contains (2048 * f + k) && t.canSend f && !n.masked then
      { t with host := { t.host with pba := t.host.pba.filter (fun x => x ≠ 2048 * f + k) } }.emit (.msix f k (s.func f).cfg.idoReq)
    else t

/-- Bytes of the MSI-X table of a function. -/
def State.msixBytes (s : State) (f off n : Nat) : List Byte :=
  (List.range n).map (fun i => BitVec.ofNat 8 (byteAt (leBytes 4 ((s.msixWords f ((off + i) / 16)).getD ((off + i) / 4 % 4) 0).toNat) ((off + i) % 4)))

/-- The pending bit of vector v of function f; beyond its allocation it reads 0 (R104). -/
def State.pending_ (s : State) (f v : Nat) : Bool := decide (v < (s.func f).asg.vectors) && s.host.pba.contains (2048 * f + v)

/-- Bytes of the PBA of a function. -/
def State.pbaBytes (s : State) (f off n : Nat) : List Byte :=
  (List.range n).map (fun i => BitVec.ofNat 8 ((List.range 8).foldl (fun a b =>
    a + (s.pending_ f (8 * (off + i) + b)).toNat * 2 ^ b) 0))

/-! ## Buffers that are no pages -/

/-- Bytes of the record ring; it reads 0 where no meter answers (R446 to R448). -/
def State.ringBytes (s : State) (off n : Nat) : List Byte :=
  if s.noMeter then List.replicate n 0
  else (List.range n).map (fun i => BitVec.ofNat 8 (byteAt (s.meter.slotBytes ((off + i) / 128)) ((off + i) % 128)))

/-- Bytes of the table aperture (R245): the image of the table TBL_APER names, from its BASE on. -/
def State.apertureBytes (s : State) (off n : Nat) : List Byte :=
  let k := s.field .tbl 0xE0 25 24
  let e := entrySize k
  (List.range n).map (fun i =>
    let j := s.field .tbl 0xE0 19 0 + (off + i) / e
    if j < tableSize k then BitVec.ofNat 8 (byteAt (s.entry k j) ((off + i) % e)) else 0)

/-! ## Requests -/

/-- A doorbell write at an offset of the doorbell range (R144, R145). -/
def State.ringDoorbell (s : State) (f : Fin 1024) (off width : Nat) (v : Word) : Host.Outcome State Fault Refusal :=
  let q := Fin.ofNat 256 (off / 128)
  if off % 128 = 0 then execWqDoorbell f q width v s
  else if off % 128 = 8 then execCqDoorbell f q width v s
  else .next s.dbDiscard

/-- A host write of a BAR. -/
def State.barWrite (s : State) (f : Fin 1024) (bar off width : Nat) (v : BitVec 64) : Host.Outcome State Fault Refusal :=
  let lo : Word := v.setWidth 32
  match s.barTarget f bar off with
  | .page p o => .next (s.settle p [{ master := Master.ofFunc f, off := BitVec.ofNat 12 o, width := width, kind := .write lo }])
  | .msix o =>
      if width = 4 ∧ o % 4 = 0 then .next (s.msixWrite f.val o lo)
      else if width = 8 ∧ o % 8 = 0 then .next ((s.msixWrite f.val o lo).msixWrite f.val (o + 4) ((v >>> 32).setWidth 32))
      else .next s
  | .doorbell o => s.ringDoorbell f o width lo
  | .ring o =>
      .next (s.noteDiscards .met [] [{ master := Master.ofFunc f, off := BitVec.ofNat 12 ((0x1000 + o) % 0x1000), width := 4, kind := .write lo }])
  | .miss => .next (s.windowMiss f off true)
  | .pba _ | .aperture _ | .nothing => .next s

/-- A host read of a BAR, answered with its bytes; one of a function in reset reads 0 (R124). -/
def State.barRead (s : State) (f : Fin 1024) (bar off width : Nat) : State :=
  let m := Master.ofFunc f
  let give (t : State) (b : List Byte) : State := t.emitAll ((wordsOf b).map (fun w => Out.data m w))
  if (s.func f.val).inReset then give s (List.replicate width 0)
  else match s.barTarget f bar off with
  | .page p o => s.readBy p m o width
  | .msix o => give s (s.msixBytes f.val o width)
  | .pba o => give s (s.pbaBytes f.val o width)
  | .ring o => give s (s.ringBytes o width)
  | .aperture o =>
      if s.islandOff .tbl || (s.island .tbl).noClock then give (s.count .isl 0x64) (List.replicate width 0)
      else
        let t := s.wakeFor .tbl
        give t (t.apertureBytes o width)
  | .miss => give (s.windowMiss f off false) (List.replicate width 0)
  | .doorbell _ | .nothing => give s (List.replicate width 0)

/-- BAR_ACCESS (R97 to R99, R103, R107, R124): a host memory request to a BAR. A function that is not in D0 answers Unsupported Request; a
poisoned write is discarded, and so is a write to a function in reset, a doorbell among them counted (R145). A read's completion
carries the function's IDO setting (R100). -/
def execBarAccess (f : Fin 1024) (bar off width : Nat) (wr : Option (BitVec 64)) (poison : Bool) (s : State) :
    Host.Outcome State Fault Refusal :=
  if !s.barThere f.val then .next s
  else if s.barAsleep f.val then .next (s.emit (.unsupported f.val))
  else
    match wr with
    | some v =>
        if poison then .next ((s.add .hlnk 0x48 31 16 1).raise .hlnk 4)
        else if (s.func f.val).inReset then (match s.barTarget f bar off with | .doorbell _ => .next s.dbDiscard | _ => .next s)
        else s.barWrite f bar off width v
    | none => .next ((s.barRead f bar off width).emit (.completion f.val (s.func f.val).cfg.idoCpl))

end Sys2Proof.Machine
end

