-- ==== Sys2Proof/Machine/Forward.lean ====
section
/-!
DEFINITION. Machine/Forward.lean: the forwarding decision of the Nyate base image (R229, R233, R255), and the command that
brings a frame to a thread or to the base image (R306).
The spec gives the base image's decision and not its code, so the decision is one function here and not a program in
instruction memory (DESIGN CHOICE, log entry 87).
-/
namespace Sys2Proof.Machine

open Sys2Proof

/-! ## Who serves a class -/

/-- Is the base image loaded and started in cluster c (R70, R314)? The boot ROM starts none in recovery mode (R73). -/
def State.baseRuns (s : State) (c : Nat) : Bool := s.pwr.started && !s.boot.recovery && s.runs (nycIsland c)

/-- Does the base image serve dispatch class k of cluster c: it runs, and no started thread takes the class (log entry 87)? -/
def State.baseServes (s : State) (c k : Nat) : Bool :=
  s.baseRuns c && !(List.range 128).any (fun t => decide ((s.thread c t).st ≠ .idle) && nbit (s.thread c t).classes k)

/-! ## Reading the frame -/

/-- A frame's VID (R229): that of its outermost tag, else the PVID of its ingress port, or 0 from a function. -/
def State.frameVid (s : State) (x : Frame) : Nat :=
  match outerTag false x.body with
  | some t => t % 4096
  | none => if x.func then 0 else s.field .swt (0x60 + 4 * x.src) 27 16

/-- What the tunnel table is searched by for a VXLAN or Geneve frame to a local address (R229 step 1, R234); a fragment is none. -/
def State.tunnelKey (s : State) (b : List Byte) : Option (List Byte) :=
  match ipAt b with
  | none => none
  | some (v6, l3) =>
      let l4 := l3 + ipLen v6 b l3
      let port := beAt b (l4 + 2) 2
      if ipProto v6 b l3 ≠ 17 ∨ ipFrag v6 b l3 then none
      else
        some ([BitVec.ofNat 8 (s.tunKind v6 port (ipDst v6 b l3)), if v6 then 6 else 4] ++ leBytes 2 port ++
          leBytes 4 (beAt b (l4 + 12) 3) ++ ipDst v6 b l3)

/-- The tunnel entry such a frame hits. -/
def State.tunnelHit (s : State) (b : List Byte) : Option Nat := (s.tunnelKey b).bind (fun e => s.search 2 e 0)

/-- What the flow table is searched by (R229 step 2, R233). -/
def State.flowKey (s : State) (x : Frame) : Option (List Byte) :=
  if !(x.func || bitOn (s.reg .swt (0x60 + 4 * x.src)) 4) then none
  else
    match ipAt x.body with
    | none => none
    | some (v6, l3) =>
        let ingress := if x.func then 2 ^ 15 + x.src % 1024 else x.src % 8
        some (splice (innerKey v6 x.body l3) 2 (leBytes 2 (s.frameVid x) ++ leBytes 2 ingress))

/-- The flow entry a frame hits. -/
def State.flowHit (s : State) (x : Frame) : Option Nat := (s.flowKey x).bind (fun e => s.search 1 e 0)

/-- What the MAC table is searched by: the frame's destination and VID (R229 step 3). -/
def State.macDstKey (s : State) (x : Frame) : List Byte := learnedEntry (dstAddr x.body) (s.frameVid x) 0 0

/-- The MAC entry of a frame's destination. -/
def State.macHit (s : State) (x : Frame) : Option Nat := s.search 0 (s.macDstKey x) 0

/-- What a lookup reads is checked first: an uncorrectable entry is a miss (R251). -/
def State.checkKey (s : State) (k : Nat) (e : Option (List Byte)) : State := match e with | some b => s.checkRead k b 0 | none => s

/-! ## Acting on it -/

/-- A frame's bytes without its outermost VLAN tag. -/
def noTag (b : List Byte) : List Byte := if (outerTag false b).isSome then b.take 12 ++ b.drop 16 else b

/-- VLAN_SET (R233): the outermost tag takes this VID; an untagged frame gets a tag whose PCP and DEI the spec leaves open
(log entry 88). -/
def setVid (b : List Byte) (vid : Nat) : List Byte :=
  match outerTag false b with
  | some t => splice b 14 (beBytes 2 (t / 4096 * 4096 + vid))
  | none => b.take 12 ++ [0x81, 0x00] ++ beBytes 2 (Config.newTag b % 16 * 4096 + vid) ++ b.drop 12

/-- VLAN_STRIP, then VLAN_SET, as an entry's ACTIONS select them (R233, R255). -/
def vlanAct (acts vid : Nat) (b : List Byte) : List Byte :=
  let b1 := if nbit acts 3 then noTag b else b
  if nbit acts 2 then setVid b1 vid else b1

/-- The outbound operations of a frame (R255, R267): those its TXD names, and those of a flow entry's ACTIONS, with the
index that applies; a TXD's own index stands before the entry's. -/
def Frame.outbound (x : Frame) (acts tun sa : Nat) : Frame × Nat :=
  let enc := x.func && nbit x.txf 3
  let esp := x.func && nbit x.txf 4
  ({ x with tun := if enc then x.tun else if nbit acts 0 then tun else x.tun,
            sa := if esp then x.sa else if nbit acts 1 then sa else x.sa },
   (esp || nbit acts 1).toNat + (enc || nbit acts 0).toNat * 2)

/-- Hand a frame on toward a destination: through CRY and TUN where an operation is asked for, else to its order gate. An
encapsulated frame gets its destination from its record in TUN (R257, R259). -/
def State.handOn (s : State) (x : Frame) (c dest ops : Nat) : State :=
  if ops = 0 then s.setFrame { x with loc := .gated c, dest := dest }
  else s.setFrame { x with loc := .engine c 128 ops false, dest := dest }

/-- The fate of a frame that no entry of the tables decides (R229 steps 4 and 5). -/
def State.unknownFate (s : State) (x : Frame) (c : Nat) : State :=
  let y := x.outbound 0 0 0
  if isGroup (dstAddr x.body) || (!x.func && !bitOn (s.reg .swt (0x60 + 4 * x.src)) 2) then s.handOn y.1 c (3 * 2 ^ 29) y.2
  else if x.func then s.handOn y.1 c (s.reg .swt 0x48).toNat y.2
  else (s.endFrame x (.drop 2)).count .swt 0x94

/-- A flow entry decides (R229 step 2): its ACTIONS act and the frame goes to its DEST. -/
def State.flowFate (s : State) (x : Frame) (c i : Nat) : State :=
  let e := s.entry 1 i
  let acts := leAt e 48 2
  let y := if acts / 4 % 4 = 0 then x else x.rebuilt (vlanAct acts (leAt e 58 2 % 4096) x.body)
  let z := y.outbound acts (leAt e 50 2) (leAt e 52 2)
  ((s.touch 1 i).flowMatched i).handOn z.1 c (leAt e 44 4) z.2

/-- Is a frame a PTP message of a port enabled in PTP_CFG.PORT_EN (R204)? -/
def State.ptpFrame (s : State) (x : Frame) : Bool :=
  !x.func && decide (etherType false x.body = 0x88F7) && bitOn (s.reg .ptp 0x40) (4 + x.src)

/-- The base image decides the fate of a frame (R229). A PTP message of an enabled port goes to the management controller's
stack (log entry 87). -/
def State.baseForward (s : State) (x : Frame) (c : Nat) : State :=
  if s.ptpFrame x then s.handOn x c (4 * 2 ^ 29) 0
  else
    let s1 := s.checkKey 2 (s.tunnelKey x.body)
    match s1.tunnelHit x.body with
    | some i => s1.handOn x c (leAt (s1.entry 2 i) 24 4) 4
    | none =>
        let s2 := s1.checkKey 1 (s1.flowKey x)
        match s2.flowHit x with
        | some i => s2.flowFate x c i
        | none =>
            let s3 := s2.checkKey 0 (some (s2.macDstKey x))
            match s3.macHit x with
            | some i => let y := x.outbound 0 0 0; (s3.touch 0 i).handOn y.1 c (leAt (s3.entry 0 i) 8 4) y.2
            | none => s3.unknownFate x c

/-- A frame with its place in an order gate: the base image decides where it serves the class, else the thread that has
waited longest takes it, if any waits (R306, R307). -/
def State.give (s : State) (x : Frame) (c k : Nat) : State :=
  if s.baseServes c k then s.baseForward x.untagHsr c
  else
    match s.takerFor c k with
    | none => s
    | some t => let th := s.thread c t; s.receive c t th.slot th.rd x

/-- Does an earlier frame of the same queue and traffic class still wait to be dispatched (R16)? -/
def State.dispatchWaits (s : State) (x : Frame) : Bool :=
  (s.frames.takeWhile (fun y => decide (y.id ≠ x.id))).any (fun y =>
    decide (y.gateKey = x.gateKey) && y.gate.isNone && (match y.loc with | .dispatch _ _ => true | _ => false))

/-- FRAME_DISPATCH (R306): a frame enters a dispatch class of its cluster with a place in its order gate, in the order of its queue and
traffic class (R16), and is given to the thread that has waited longest or to the base image; a full queue, a refused transfer or a spoofed
source drops it. -/
def execFrameDispatch (id : Nat) (s : State) : Host.Outcome State Fault Refusal :=
  match s.frame id with
  | none => .next s
  | some x =>
      match x.loc with
      | .dispatch c k =>
          if x.gate.isNone && s.dispatchWaits x then .next s
          else if x.gate.isSome then (if s.baseServes c k && s.admitsWork (nycIsland c) && !x.bad then .next (s.give x c k) else .next s)
          else if !s.clusterTakes c then .next (s.clusterDrop x)
          else if !s.admitsWork (nycIsland c) then .next s
          else if x.bad then .next (s.endFrame x (.drop 6))
          else
            let s0 := s.sourceChecked x
            if s0.spoofed x then .next ((s0.endFrame x (.drop 1)).count .swt 0x9C)
            else if classRoom k ≤ s0.queued c k then
              .next (((s0.endFrame x (.drop 2)).count (nycPage c) 0xC4).raise (nycPage c) 3)
            else
              let s1 := s0.moveOrDrop x (11 + c)
              match s1.frame id with
              | none => .next s1
              | some y =>
                  let y1 := { y with gate := some y.gateKey, dclass := k }
                  .next ((s1.toBack y1).give y1 c k)
      | _ => .next s

end Sys2Proof.Machine
end

