-- ==== Sys2Proof/Machine/HostReads.lean ====
section
/-!
DEFINITION. Machine/HostReads.lean: the end of host reads, good and bad (R102, R103): completions, poison, timeouts.
-/
namespace Sys2Proof.Machine

open Sys2Proof

/-- The outstanding read that a completion with tag `id` belongs to. -/
def State.readOf (s : State) (id : Nat) : Option HostRead := s.host.reads.find? (fun r => r.id = id && decide (0 < r.out))

/-- A poll's read has ended with an error (R103): it is read again later, and took no descriptor (R150). -/
def WqSt.pollFailed (w : WqSt) : WqSt :=
  let n := if w.spec then w.empty + 1 else w.empty
  { w with reading := none, empty := n, idle := w.idle || (w.spec && decide (64 ≤ n)) }

/-- The work of a burst whose read has ended with an error completes with HOST_READ_ERROR (R103, R143). -/
def State.burstFailed (s : State) (b : Burst) : State :=
  match b.op with
  | some (c, id) => (match (s.endBurst b).stoOp c id with | some o => (s.endBurst b).endOp o 3 0 | none => s.endBurst b)
  | none =>
      let t := (s.endBurst b).finishRun b.f b.q b.idx 3 0
      if b.cls = 2 then t.count .sto 0x100 else t

/-- End an outstanding host read with an error (R103). Its completions that still come are unexpected. -/
def State.failRead (s : State) (r : HostRead) : State :=
  let t := s.discardReads (fun x => decide (x.id = r.id))
  let u : State := match r.use with
    | .poll q _ => (match t.wq r.f q with | some w => t.setWq r.f q (some w.pollFailed) | none => t)
    | .burst b => (match t.ham.granted.find? (fun (a : Burst) => a.id = b) with | some a => t.burstFailed a | none => t)
    | .table | .shadow | .program _ | .image | .keys => t
  u.pumpReads

/-- A host read has ended well: what it served goes on, where no event of its own does so. -/
def State.readEnded (s : State) (r : HostRead) : State :=
  let t := { s with host := { s.host with reads := s.host.reads.filter (fun (x : HostRead) => decide (x.id ≠ r.id)) } }
  let u : State := match r.use with
    | .burst b => (match t.ham.granted.find? (fun (a : Burst) => a.id = b) with | some a => t.sendR2t a | none => t)
    | .keys => t.keysRead
    | .poll _ _ | .table | .shadow | .program _ | .image => t
  u.pumpReads

/-- A completion of a read is accepted; the last one of a poll is left to DESCRIPTOR_READ_RETURN, which brings its descriptors. -/
def State.acceptCompletion (s : State) (r : HostRead) : State :=
  if r.want.isEmpty && decide (r.out = 1) then (match r.use with | .poll _ _ => s | _ => s.readEnded r)
  else
    { s with host := { s.host with reads := s.host.reads.map (fun (x : HostRead) => if x.id = r.id then { x with out := x.out - 1 } else x) } }.pumpReads

/-- READ_COMPLETION (R102, R103): a completion is accepted, ends its work with an error where it is poisoned, or is
discarded as unexpected; one that arrives while HOST is isolated counts in ISL_LATE_DISCARD (R363). -/
def execReadCompletion (id : Nat) (poison : Bool) (s : State) : Host.Outcome State Fault Refusal :=
  let s0 := { s with host := { s.host with ended := s.host.ended.erase id } }
  if !s.runs .host then .next (s0.count .isl 0x60)
  else
    match s.readOf id with
    | none => .next (s0.add .hlnk 0x44 31 16 1)
    | some r =>
        if poison then
          let t := { s with host := { s.host with reads := s.host.reads.map (fun (x : HostRead) => if x.id = id then { x with out := x.out - 1 } else x) } }
          .next (((t.failRead r).add .hlnk 0x48 15 0 1).raise .hlnk 4)
        else .next (s.acceptCompletion r)

/-- COMPLETION_TIMEOUT (R103): a host read exceeds the Completion Timeout Value; AER records it on a function that has it (R94), and a
completion that still comes is unexpected. -/
def execCompletionTimeout (id : Nat) (s : State) : Host.Outcome State Fault Refusal :=
  match s.readOf id with
  | none => .next s
  | some r =>
      let t := s.failRead r
      let x := t.func r.f
      let t1 := t.setFunc r.f { x with timedOut := true, aerTimeout := x.aerTimeout || hasCap r.f .aer }
      .next ((t1.add .hlnk 0x44 15 0 1).raise .hlnk 3)

end Sys2Proof.Machine
end

