-- ==== Sys2Proof/Machine/Sensors.lean ====
section
/-!
DEFINITION. Machine/Sensors.lean: the sensors, the lid and the meter-bay cover (R373, R374, R392).
-/
namespace Sys2Proof.Machine

open Sys2Proof

/-- Is a crossing still outstanding? -/
def SensSt.has (x : SensSt) (k : Nat) : Bool := x.crossed.contains k

/-- Note a value against a limit (R374): `beyond` raises its event once, which is raised again only after `inside` (2 % or 2 °C
within the limit) has held. -/
def State.judge (s : State) (key b : Nat) (beyond inside : Bool) (sensor value limit : Word) : State :=
  let x := s.sens
  if x.has key then (if inside then { s with sens := { x with crossed := x.crossed.erase key } } else s)
  else if beyond then { s with sens := { x with crossed := key :: x.crossed } }.raiseSensor b sensor value limit
  else s

/-- A 16-bit field read as a signed number. -/
def signed16 (n : Nat) : Int := (BitVec.ofNat 16 n).toInt

/-- The signed temperature of sensor t, in 0.1 °C. -/
def State.temp (s : State) (t : Nat) : Int := signed16 (s.field .mgt (0x60 + 4 * t) 15 0)

/-- TEMP_CRIT stands until every temperature is below WARN; while it stands the level fields are kept at 0 (R374). -/
def State.heat (s : State) (crit : Bool) : State :=
  let warn := signed16 (s.field .mgt 0x90 15 0)
  let hot := crit || (s.sens.hot && (List.range 12).any (fun t => decide (warn ≤ s.temp t)))
  ({ s with sens := { s.sens with hot := hot } }).coolDown

/-- A temperature sample. -/
def State.sampleTemp (s : State) (t v : Nat) : State :=
  let x := signed16 v
  let warn := s.field .mgt 0x90 15 0
  let crit := s.field .mgt 0x90 31 16
  let s1 := s.setField .mgt (0x60 + 4 * t) 15 0 v
  let s2 := s1.judge t 0 (decide (signed16 warn ≤ x)) (decide (x ≤ signed16 warn - 20)) (word t) (word (v % 65536)) (word warn)
  let s3 := s2.judge (16 + t) 1 (decide (signed16 crit ≤ x)) (decide (x ≤ signed16 crit - 20)) (word t) (word (v % 65536)) (word crit)
  s3.heat (decide (signed16 crit ≤ x))

/-- A rail sample, with the rail's nominal value: more than 5 % away is out; CORE and SRAM are not judged while a change runs. -/
def State.sampleRail (s : State) (r v w : Nat) : State :=
  let s1 := s.setField .mgt (0xA0 + 4 * r) 15 0 v
  let away := if v < w then w - v else v - w
  let limit := if v < w then w * 95 / 100 else w * 105 / 100
  if (r = 7 ∨ r = 8) ∧ s.clk.change.isSome then s1
  else s1.judge (32 + r) 2 (decide (5 * w < 100 * away)) (decide (100 * away ≤ 3 * w)) (word (0x100 + r)) (word (v % 65536)) (word limit)

/-- SENSOR_SAMPLE (R373, R374): sensor k is 0 to 11 a temperature, 12 to 27 rail k − 12 (`w` its nominal mV), 28 humidity `v` and
condensation `w`, 29 the accelerometer's largest axis (`v` peak, `w` RMS), 30 the lid switch (`v` = 0 closed). -/
def execSensorSample (k : Fin 32) (v w : Nat) (s : State) : Host.Outcome State Fault Refusal :=
  let n := k.val
  if !s.pwr.started then .next s
  else if n < 12 then .next (s.sampleTemp n v)
  else if n < 28 then .next (s.sampleRail (n - 12) v w)
  else if n = 28 then
    let t := (s.setField .mgt 0xE0 9 0 v).setField .mgt 0xE0 25 24 w
    let t1 := t.judge 48 3 (decide (900 ≤ v)) (decide (v ≤ 882)) 0x200 (word v) 900
    .next (t1.judge 49 3 (decide (1 ≤ w)) (decide (w = 0)) 0x200 (word w) 1)
  else if n = 29 then
    let lim := s.field .mgt 0xE8 15 0
    let t := (s.setField .mgt 0xE4 31 16 (max (s.field .mgt 0xE4 31 16) v)).setField .mgt 0xE4 15 0 w
    .next (t.judge 50 4 (decide (lim < v)) (decide (100 * v ≤ 98 * lim)) 0x300 (word v) (word lim))
  else if n = 30 ∧ v = 0 then .next (s.setBit .mgt 0xEC 0 false)
  else .next s

/-- LID_OPEN (R374, R392): the lid switch opens; LID_OPENINGS is kept in FRAM. -/
def execLidOpen (s : State) : Host.Outcome State Fault Refusal :=
  if !s.pwr.started || bitOn (s.reg .mgt 0xEC) 0 then .next s
  else
    let t := (s.add .mgt 0xEC 31 16 1).setBit .mgt 0xEC 0 true
    .next ({ t with fram := { t.fram with lidCount := t.field .mgt 0xEC 31 16 } }.raise .mgt 5)

/-- METER_COVER (R374): the meter-bay cover switch changes; nothing acts on it. -/
def execMeterCover (opened : Bool) (s : State) : Host.Outcome State Fault Refusal :=
  if !s.pwr.started || bitOn (s.reg .mgt 0xEC) 1 = opened then .next s
  else .next ((s.setBit .mgt 0xEC 1 opened).raise .mgt 6)

end Sys2Proof.Machine
end

