-- ==== Sys2Proof/Machine/Yemor.lean ====
section
/-!
DEFINITION. Machine/Yemor.lean: the console (R395, R396), the Yemor commands and how a write is judged (R397 to R402), and the boot ROM's
recovery commands (R403).
Statuses of R397 by number: 0 OK, 1 DENIED, 2 REFUSED, 3 LOST, 4 BAD_REQUEST, 5 UNAVAILABLE, 6 UNCERTAIN.
-/
namespace Sys2Proof

/-- Does a line need the OPERATE role, and YEM_CFG.WRITE_EN on the console (R399, R400)? -/
def YemLine.operate : YemLine → Bool
  | .wr .. | .lock .. | .unlock .. | .reset .. | .cold .. | .clk .. | .wake => true
  | _ => false

end Sys2Proof

namespace Sys2Proof.Machine

open Sys2Proof

/-! ## What the service commands read -/

/-- Can the page's island not answer (R359, R397)? -/
def State.unavailable (s : State) (p : Page) (off : Nat) : Bool :=
  let i := accessIsland p off
  s.islandOff i || (s.island i).noClock

/-- Read registers of a page one after the other; at offset 0x024 `lockWord` stands for PG_LOCK, which is not read. -/
def State.readRun (s : State) (p : Page) (off n : Nat) (lockWord : State → Word) : State × List Word :=
  (List.range n).foldl (fun (a : State × List Word) i =>
    let o := off + 4 * i
    if o = 0x24 then (a.1, a.2 ++ [lockWord a.1])
    else
      let x := a.1.read32 p o
      (x.1, a.2 ++ [x.2])) (s, [])

/-- PG_STAT.LOCK_HOLDER (R41). -/
def State.holderWord (s : State) (p : Page) : Word := word (fld (s.view p 0x0C) 7 4)

/-- A whole page but offset 0x024 (R41). -/
def State.dumpPage (s : State) (p : Page) : State × List Word :=
  let a := s.readRun p 0 9 (fun _ => 0)
  let b := a.1.readRun p 0x28 1014 (fun _ => 0)
  (b.1, a.2 ++ b.2)

/-- What INFO shows (R391): UNIT_IDENT, the serial number, UNIT_BOOT, IMG_STAT and the modules. -/
def State.infoWords (s : State) : List Word :=
  [s.view .unit 0x40, s.view .unit 0x44, s.view .unit 0x48, s.unitBoot, s.imgStat] ++
    (List.range 4).flatMap (fun p => s.view .mgt (0x100 + 4 * p) :: wordsOf (slice ((Sparse.find s.sens.mods p).getD []) 0 48))

/-- Fresh sensor reads (R373): temperatures, rails, humidity, acceleration, switches, mains and the gauge. -/
def State.sensorWords (s : State) : List Word :=
  (List.range 12).map (fun t => s.reg .mgt (0x60 + 4 * t)) ++ (List.range 16).map (fun r => s.reg .mgt (0xA0 + 4 * r)) ++
    [s.reg .mgt 0xE0, s.reg .mgt 0xE4, s.reg .mgt 0xEC, s.reg .pwr 0x44, s.reg .pwr 0x48, s.reg .pwr 0x4C]

/-- A record as words. -/
def LogRec.words (r : LogRec) : List Word := wordsOf r.bytes

/-- Up to n records from a SEQ on, as words. -/
def State.logWords (s : State) (seq : Word) (n : Nat) : List Word := (s.logRecords seq n).flatMap LogRec.words

/-- The TWP page decoded (R399). -/
def State.twpWords (s : State) : List Word :=
  (List.range 11).map (fun i => s.view .twp (0x40 + 4 * i)) ++ (List.range 4).map (fun i => s.view .twp (0x100 + 4 * i))

/-! ## Requests to master 6 (R80, R345) -/

/-- Ask master 6 for an island cold reset; MGT and SAF have none. -/
def State.askCold (s : State) (i : Island) : State × Bool :=
  if 16 ≤ i.num then (s, false) else (s.settle .isl [wr .mgt 0x54 (word (0x4943 * 65536 + i.num))], true)

/-- Ask master 6 for a multiplexer switch: done where CLK_SEL shows it. -/
def State.askSwitch (s : State) (i : Fin 16) (pll : Bool) : State × Bool :=
  let t := s.settle .clk [wr .mgt 0x44 (putBit (s.reg .clk 0x44) i.val pll)]
  (t, bitOn (t.reg .clk 0x44) i.val = pll)

/-! ## Judged writes (R398) -/

/-- The verdict from PG_CONFLICT before and after a write by a master at an offset. -/
def judgeWrite (m : Master) (off : Nat) (before after : Word) : Nat :=
  let c0 := fld before 15 0
  let c1 := fld after 15 0
  if c0 ≠ 65535 ∧ c1 = c0 then 0
  else if c1 ≠ c0 ∧ fld after 31 28 = m.num ∧ fld after 25 16 = off / 4 then (if bitOn after 27 then 2 else 3)
  else 6

/-- One write, judged: PG_CONFLICT before, the write, the read back, PG_CONFLICT and PG_SEQ after. -/
def State.judged (s : State) (m : Master) (p : Page) (off : Nat) (v : Word) (rivals : List Req) : State × Nat × List Word :=
  if s.unavailable p off then (s, 5, [])
  else
    let before := s.view p 0x28
    let t := s.write p off m v rivals
    let x : State × Word := if off = 0x24 then (t, t.holderWord p) else t.read32 p off
    let after := x.1.view p 0x28
    let r := judgeWrite m off before after
    (x.1, r, [x.1.view p 0x2C, after] ++ (if r = 6 then [x.2] else []))

/-! ## The commands (R399) -/

/-- A command line of master m: the state after, its status and the values shown. -/
def State.runLine (s : State) (m : Master) (l : YemLine) (rivals : List Req) : State × Nat × List Word :=
  match l with
  | .help => (s, 0, [])
  | .info => (s, 0, s.infoWords)
  | .rd p off n =>
      if n = 0 || 64 < n || off % 4 ≠ 0 || 0x1000 < off + 4 * n then (s, 4, [])
      else if s.unavailable p off then (s, 5, [])
      else
        let x := s.readRun p off n (fun t => t.holderWord p)
        (x.1, 0, x.2)
  | .dump p =>
      if s.unavailable p 0 then (s, 5, [])
      else
        let x := s.dumpPage p
        (x.1, 0, x.2)
  | .wr p off v => if off.toNat % 4 ≠ 0 then (s, 4, []) else s.judged m p off.toNat v rivals
  | .lock p =>
      if s.unavailable p 0x24 then (s, 5, [])
      else
        let req : Req := { master := m, off := 0x24, width := 4, kind := .lockRead }
        let a := s.lockAnswer p (req :: rivals) req
        (s.readLock p m rivals, if a = 0 then 0 else 2, [a])
  | .unlock p =>
      let h := s.holderWord p
      s.judged m p 0x24 (if h = 0 then word m.num else h) rivals
  | .log seq n => if 32 < n then (s, 4, []) else (s, 0, s.logWords seq n)
  | .sens => (s, 0, s.sensorWords)
  | .reset keepRing selMgt =>
      s.judged m .unit 0x4C (word (0x4B52 * 65536 + keepRing.toNat * 4 + selMgt.toNat * 2 + 1)) rivals
  | .cold i =>
      let x := s.askCold i
      (x.1, if x.2 then 0 else 2, [])
  | .clk i pll =>
      let x := s.askSwitch i pll
      (x.1, if x.2 then 0 else 2, [])
  | .wake => (s.wakeHost 0, 0, [])
  | .twp => (s, 0, s.twpWords)
  | .bye => (s, 0, [])
  | .bad => (s, 4, [])

/-- A line run by Yemor: counted, and DENIED where `denied` holds (R397, R410). -/
def State.yemRun (s : State) (m : Master) (l : YemLine) (rivals : List Req) (denied : Bool) : State × Nat × List Word :=
  let t := s.count .yem 0x48
  if denied then (t.count .yem 0x4C, 1, []) else t.runLine m l rivals

/-- A line on the console (R397, R400): answered with one status line; `bye` ends the session. -/
def State.consoleLine (s : State) (l : YemLine) (rivals : List Req) : State :=
  if !s.console.open_ || s.boot.recovery then s
  else
    let x := { s with console := { s.console with served := s.console.served + 1 } }.yemRun .yemor l rivals (l.operate && !bitOn (s.reg .yem 0x40) 0)
    let t := x.1.emit (.console x.2.1 x.2.2)
    if l = .bye then t.endConsole else t

/-- YEM_HELP. -/
def execYemHelp (s : State) : Host.Outcome State Fault Refusal := .next (s.consoleLine .help [])
/-- YEM_INFO. -/
def execYemInfo (s : State) : Host.Outcome State Fault Refusal := .next (s.consoleLine .info [])
/-- YEM_RD. -/
def execYemRd (p : Page) (off count : Nat) (s : State) : Host.Outcome State Fault Refusal := .next (s.consoleLine (.rd p off count) [])
/-- YEM_DUMP. -/
def execYemDump (p : Page) (s : State) : Host.Outcome State Fault Refusal := .next (s.consoleLine (.dump p) [])
/-- YEM_WR. -/
def execYemWr (p : Page) (off : BitVec 12) (v : Word) (rivals : List Req) (s : State) : Host.Outcome State Fault Refusal :=
  .next (s.consoleLine (.wr p off v) rivals)
/-- YEM_LOCK. -/
def execYemLock (p : Page) (rivals : List Req) (s : State) : Host.Outcome State Fault Refusal := .next (s.consoleLine (.lock p) rivals)
/-- YEM_UNLOCK. -/
def execYemUnlock (p : Page) (rivals : List Req) (s : State) : Host.Outcome State Fault Refusal := .next (s.consoleLine (.unlock p) rivals)
/-- YEM_LOG. -/
def execYemLog (seq : Word) (count : Nat) (s : State) : Host.Outcome State Fault Refusal := .next (s.consoleLine (.log seq count) [])
/-- YEM_SENS. -/
def execYemSens (s : State) : Host.Outcome State Fault Refusal := .next (s.consoleLine .sens [])
/-- YEM_RESET. -/
def execYemReset (keepRing selMgt : Bool) (rivals : List Req) (s : State) : Host.Outcome State Fault Refusal :=
  .next (s.consoleLine (.reset keepRing selMgt) rivals)
/-- YEM_COLD. -/
def execYemCold (i : Island) (s : State) : Host.Outcome State Fault Refusal := .next (s.consoleLine (.cold i) [])
/-- YEM_CLK. -/
def execYemClk (i : Fin 16) (pll : Bool) (s : State) : Host.Outcome State Fault Refusal := .next (s.consoleLine (.clk i pll) [])
/-- YEM_WAKE. -/
def execYemWake (s : State) : Host.Outcome State Fault Refusal := .next (s.consoleLine .wake [])
/-- YEM_TWP. -/
def execYemTwp (s : State) : Host.Outcome State Fault Refusal := .next (s.consoleLine .twp [])
/-- YEM_BYE (R396). -/
def execYemBye (s : State) : Host.Outcome State Fault Refusal := .next (s.consoleLine .bye [])

/-! ## The session (R395, R396) -/

/-- CONSOLE_SESSION_START (R395): a carriage return on an idle console. -/
def execConsoleSessionStart (s : State) : Host.Outcome State Fault Refusal :=
  if s.console.open_ || s.boot.recovery || !s.pwr.started then .next s
  else
    let t := { s with console := { s.console with open_ := true, served := 0 } }
    .next ((t.raise .yem 0).noteSession 7 true false 0 0)

/-- CONSOLE_BREAK (R396). -/
def execConsoleBreak (s : State) : Host.Outcome State Fault Refusal := .next s.endConsole

/-- CONSOLE_IDLE_TIMEOUT (R396). -/
def execConsoleIdleTimeout (s : State) : Host.Outcome State Fault Refusal := .next s.endConsole

/-! ## Recovery mode (R403) -/

/-- The set a letter names, and its replacement. -/
def BootSt.named (b : BootSt) (setB : Bool) : ImgSet := if setB then b.setB else b.setA
def BootSt.putNamed (b : BootSt) (setB : Bool) (x : ImgSet) : BootSt := if setB then { b with setB := x } else { b with setA := x }

/-- RINFO: each set's state and its failing component with the cause. -/
def execRinfo (s : State) : Host.Outcome State Fault Refusal :=
  if !s.boot.recovery then .next s
  else .next (s.emit (.console 0 [word s.boot.setA.st, word s.console.failA, word s.boot.setB.st, word s.console.failB]))

/-- RLOAD: a transfer into the named set begins. -/
def execRload (setB : Bool) (s : State) : Host.Outcome State Fault Refusal :=
  if !s.boot.recovery then .next s
  else
    .next { s with boot := s.boot.putNamed setB { st := 1, ver := 0, sigOk := false, data := [] },
                   console := { s.console with loading := true, rloadB := setB, rloadOk := false, block := 1, fill := 0 } }

/-- The transfer is over: the set is verified under R72. -/
def State.rloadEnd (s : State) (sigs : List Bool) : State :=
  let c := s.console
  let x := s.boot.named c.rloadB
  match x.verdict sigs s.boot.rollback with
  | .inr v =>
      ({ s with boot := s.boot.putNamed c.rloadB { x with st := 3, ver := v, sigOk := true, key := s.keys.opKey },
                console := { c with loading := false, rloadOk := true } }).emit (.console 0 [])
  | .inl (k, code) =>
      let n := k * 256 + code
      ({ s with boot := s.boot.putNamed c.rloadB { x with st := 0, sigOk := false },
                console := { c with loading := false, rloadOk := false, failA := if c.rloadB then c.failA else n,
                                    failB := if c.rloadB then n else c.failB } }).emit (.console 2 [word k])

/-- XMODEM_BLOCK: a block of the transfer, or its end (`final`). A block out of order, with a bad CRC, or one that comes while its
flash burst is refused, is answered NAK. -/
def execXmodemBlock (num : Nat) (data : List Byte) (crcOk final : Bool) (sigs : List Bool) (s : State) : Host.Outcome State Fault Refusal :=
  let c := s.console
  if !s.boot.recovery || !c.loading then .next s
  else if final then .next (s.rloadEnd sigs)
  else if crcOk && decide (num % 256 = (c.block + 255) % 256) then .next (s.emit (.console 7 []))
  else if !crcOk || num % 256 ≠ c.block % 256 || 1024 < data.length || 2 ^ 26 < c.fill + data.length || s.inU2 then
    .next (s.emit (.console 8 []))
  else if !s.admitsBurst ((data.length + 255) / 256) then .next ((s.shortRecord 4 ((data.length + 255) / 256)).emit (.console 8 []))
  else
    let x := s.boot.named c.rloadB
    let d := (List.range data.length).foldl (fun m i => Sparse.set 0xFF m (c.fill + i) (data.getD i 0)) x.data
    .next (({ s with boot := s.boot.putNamed c.rloadB { x with data := d },
                     console := { c with block := c.block + 1, fill := c.fill + data.length } }.count .pwr 0x64).emit (.console 7 []))

/-- RBOOT: a unit reset with MGT selected, once an rload has answered OK. CAUSE names the start from the loaded set as a recovery load
(R86; DEDUCED, log entry 99). -/
def execRboot (s : State) : Host.Outcome State Fault Refusal :=
  if !s.boot.recovery then .next s
  else if s.console.rloadOk then .next (s.unitReset .mgt true false 5)
  else .next (s.emit (.console 1 []))

end Sys2Proof.Machine
end

