-- ==== Sys2Proof/Machine/Krds.lean ====
section
/-!
DEFINITION. Machine/Krds.lean: the remote diagnostic service: sessions (R388, R389), requests and responses (R390), the commands
(R391), Yemor lines (R402), safety commissioning (R430) and key packages (R387) over it.
Statuses of R390 by number: 0 OK, 1 DENIED, 2 BAD_REQUEST, 3 BUSY, 4 REFUSED, 5 UNAVAILABLE.
-/
namespace Sys2Proof.Machine

open Sys2Proof

/-! ## Sessions (R388, R389) -/

/-- A session by its name. -/
def State.session (s : State) (id : Nat) : Option KrdsSession := s.krds.find? (fun x => x.id = id)

/-- KRDS_HANDSHAKE (R388, R389): a session opens with the role of its certificate, or is refused: no trust anchor is enrolled, the
certificate does not chain to it, or four sessions exist. -/
def execKrdsHandshake (id : Nat) (certOk operate : Bool) (peer : Word) (s : State) : Host.Outcome State Fault Refusal :=
  if s.keys.anchor.isNone || !certOk || decide (4 ≤ s.krds.length) || (s.session id).isSome || !s.pwr.started || s.boot.recovery then .next s
  else
    let x : KrdsSession := { id := id, operate := operate, peer := peer, served := 0, past := [] }
    .next ({ s with krds := s.krds ++ [x] }.noteSession 12 true operate peer 0)

/-- KRDS_SESSION_TIMEOUT (R389): 300 s without a valid request. -/
def execKrdsSessionTimeout (id : Nat) (s : State) : Host.Outcome State Fault Refusal :=
  match s.session id with
  | some x => .next (s.endKrds x)
  | none => .next s

/-! ## Requests (R390) -/

/-- A response is sent; it is stored under its request ID unless it is BUSY, which executes nothing. A session that the request
itself ended sends none. -/
def State.respond (s : State) (id req status : Nat) (body : List Word) : State :=
  match s.session id with
  | none => s
  | some x =>
      let past := if status = 3 then x.past else ((req, status, body) :: x.past).take 16
      let y := { x with served := x.served + 1, past := past }
      { s with krds := s.krds.map (fun (z : KrdsSession) => if z.id = id then y else z) }.emit (.krds id req status body)

/-- A request of a session: one of its last 16 is answered from store and not executed again (R390); an OBSERVE session that issues
an OPERATE command is answered DENIED (R391). -/
def State.request (s : State) (id req : Nat) (oper : Bool) (act : State → State × Nat × List Word) : State :=
  match s.session id with
  | none => s
  | some x =>
      match x.past.find? (fun e => e.1 = req) with
      | some e => s.emit (.krds id req e.2.1 e.2.2)
      | none =>
          if oper && !x.operate then s.respond id req 1 []
          else
            let y := act s
            y.1.respond id req y.2.1 y.2.2

/-- A request that only reads. -/
def State.reply (s : State) (x : State × List Word) (status : Nat) : State × Nat × List Word := if status = 0 then (x.1, 0, x.2) else (s, status, [])

/-- The status of an access that an island may not answer. -/
def State.reach (s : State) (p : Page) (off : Nat) : Nat := if s.unavailable p off then 5 else 0

/-- KRDS_INFO. -/
def execKrdsInfo (id req : Nat) (s : State) : Host.Outcome State Fault Refusal := .next (s.request id req false (fun t => (t, 0, t.infoWords)))

/-- READ: up to 256 registers of one page; offset 0x024 reads 0. -/
def State.krdsRead (s : State) (p : Page) (off n : Nat) : State × Nat × List Word :=
  if n = 0 || 256 < n || off % 4 ≠ 0 || 0x1000 < off + 4 * n then (s, 2, [])
  else s.reply (s.readRun p off n (fun _ => 0)) (s.reach p off)

/-- KRDS_READ. -/
def execKrdsRead (id req : Nat) (p : Page) (off count : Nat) (s : State) : Host.Outcome State Fault Refusal :=
  .next (s.request id req false (fun t => t.krdsRead p off count))

/-- KRDS_DUMP (R41). -/
def execKrdsDump (id req : Nat) (p : Page) (s : State) : Host.Outcome State Fault Refusal :=
  .next (s.request id req false (fun t => t.reply (t.dumpPage p) (t.reach p 0)))

/-- A write as master 12, answered with PG_SEQ and PG_CONFLICT read after it. -/
def State.krdsWrite (s : State) (p : Page) (off : Nat) (v : Word) (rivals : List Req) : State × Nat × List Word :=
  if off % 4 ≠ 0 then (s, 2, [])
  else if s.unavailable p off then (s, 5, [])
  else
    let t := s.write p off .krds v rivals
    (t, 0, [t.view p 0x2C, t.view p 0x28])

/-- KRDS_WRITE. -/
def execKrdsWrite (id req : Nat) (p : Page) (off : BitVec 12) (v : Word) (rivals : List Req) (s : State) : Host.Outcome State Fault Refusal :=
  .next (s.request id req true (fun t => t.krdsWrite p off.toNat v rivals))

/-- LOCK: a lock read of PG_LOCK (R36). -/
def State.krdsLock (s : State) (p : Page) (rivals : List Req) : State × Nat × List Word :=
  if s.unavailable p 0x24 then (s, 5, [])
  else
    let r : Req := { master := .krds, off := 0x24, width := 4, kind := .lockRead }
    (s.readLock p .krds rivals, 0, [s.lockAnswer p (r :: rivals) r])

/-- KRDS_LOCK. -/
def execKrdsLock (id req : Nat) (p : Page) (rivals : List Req) (s : State) : Host.Outcome State Fault Refusal :=
  .next (s.request id req true (fun t => t.krdsLock p rivals))

/-- KRDS_UNLOCK: the holder's number is written to PG_LOCK (R39). -/
def execKrdsUnlock (id req : Nat) (p : Page) (rivals : List Req) (s : State) : Host.Outcome State Fault Refusal :=
  .next (s.request id req true (fun t => t.krdsWrite p 0x24 (if t.holderWord p = 0 then 12 else t.holderWord p) rivals))

/-- KRDS_LOG_READ. -/
def execKrdsLogRead (id req : Nat) (seq : Word) (count : Nat) (s : State) : Host.Outcome State Fault Refusal :=
  .next (s.request id req false (fun t => if count = 0 || 32 < count then (t, 2, []) else (t, 0, t.logWords seq count)))

/-- KRDS_SENSORS (R373). -/
def execKrdsSensors (id req : Nat) (s : State) : Host.Outcome State Fault Refusal := .next (s.request id req false (fun t => (t, 0, t.sensorWords)))

/-- IMAGE: an image command of R383; a WRITE brings its data and its place in the set. -/
def State.krdsImage (s : State) (v : Word) (off : Nat) (data : List Byte) (sigs : List Bool) : State × Nat × List Word :=
  let op := fld v 3 0
  let e : ImgEnv := { data := data, sigs := sigs, sigOk := sigs.getD 0 false, hostError := false }
  if op = 0 || 8 < op || 1024 < data.length then (s, 2, [])
  else
    let t := if op = 2 then (s.write .img 0x50 .krds (word off) []).write .img 0x54 .krds (word data.length) [] else s
    let u := t.settleWith .img [wr .krds 0x44 (word (0x494D * 65536 + fld v 8 8 * 256 + op))] e
    let bad := (t.lockOf .img).any (fun m => decide (m ≠ Master.krds)) || decide (u.field .img 0x58 7 0 ≠ 0 ∧ u.boot.write.isNone)
    (u, if bad then 4 else 0, [u.view .img 0x40, u.view .img 0x58])

/-- KRDS_IMAGE. -/
def execKrdsImage (id req : Nat) (v : Word) (off : Nat) (data : List Byte) (sigs : List Bool) (s : State) : Host.Outcome State Fault Refusal :=
  .next (s.request id req true (fun t => t.krdsImage v off data sigs))

/-- KRDS_UNIT_RESET: writes UNIT_RESET (R81). -/
def execKrdsUnitReset (id req : Nat) (v : Word) (rivals : List Req) (s : State) : Host.Outcome State Fault Refusal :=
  .next (s.request id req true (fun t => t.krdsWrite .unit 0x4C v rivals))

/-- OK where master 6 did what it was asked, REFUSED where not. -/
def askedOf (x : State × Bool) : State × Nat × List Word := (x.1, if x.2 then 0 else 4, [])

/-- KRDS_COLD_RESET (R80). -/
def execKrdsColdReset (id req : Nat) (i : Island) (s : State) : Host.Outcome State Fault Refusal :=
  .next (s.request id req true (fun t => askedOf (t.askCold i)))

/-- KRDS_CLK_SWITCH (R345). -/
def execKrdsClkSwitch (id req : Nat) (i : Fin 16) (pll : Bool) (s : State) : Host.Outcome State Fault Refusal :=
  .next (s.request id req true (fun t => askedOf (t.askSwitch i pll)))

/-- KRDS_HOST_WAKE (R112). -/
def execKrdsHostWake (id req : Nat) (s : State) : Host.Outcome State Fault Refusal := .next (s.request id req true (fun t => (t.wakeHost 0, 0, [])))

/-- MBX_SEND (R369, R372): a type 1 message in PF k's MDOWN direction; BUSY while it is FULL, REFUSED while another master's lock
refuses its writes (R38). -/
def State.krdsSend (s : State) (k : Nat) (text : List Word) : State × Nat × List Word :=
  if !s.runs .host then (s, 5, [])
  else if bitOn (s.reg (mbxPage k) 0x40) 3 then (s, 3, [])
  else if 15 < text.length then (s, 2, [])
  else (s.mdown k (1 :: text), if (s.lockOf (mbxPage k)).any (fun h => decide (h ≠ .mgt)) then 4 else 0, [])

/-- KRDS_MBX_SEND. -/
def execKrdsMbxSend (id req : Nat) (k : Fin 4) (text : List Word) (s : State) : Host.Outcome State Fault Refusal :=
  .next (s.request id req true (fun t => t.krdsSend k.val text))

/-- YEM: one Yemor line as master 12, whose status line is part of the body (R402); `bye` ends the session once answered. -/
def State.krdsLine (s : State) (l : YemLine) (rivals : List Req) : State × Nat × List Word :=
  let y := s.yemRun .krds l rivals false
  (y.1, 0, word y.2.1 :: y.2.2)

/-- A request that ends its session once it is answered; one that repeats a request ID ends nothing. -/
def State.lastRequest (s : State) (id req : Nat) (act : State → State × Nat × List Word) : State :=
  let t := s.request id req false act
  if (s.session id).any (fun x => x.past.any (fun e => e.1 = req)) then t
  else match t.session id with | some x => t.endKrds x | none => t

/-- KRDS_YEM. -/
def execKrdsYem (id req : Nat) (line : YemLine) (rivals : List Req) (s : State) : Host.Outcome State Fault Refusal :=
  .next (if line = .bye then s.lastRequest id req (fun t => t.krdsLine .bye rivals) else s.request id req line.operate (fun t => t.krdsLine line rivals))

/-- KRDS_CLOSE. -/
def execKrdsClose (id req : Nat) (s : State) : Host.Outcome State Fault Refusal := .next (s.lastRequest id req (fun t => (t, 0, [])))

/-! ## The safety inbox (R430) -/

/-- Bytes spliceAtd into a buffer at an offset. -/
def spliceAt (b : List Byte) (off : Nat) (d : List Byte) : List Byte := slice b 0 off ++ d ++ b.drop (off + d.length)

/-- Place a request in the safety inbox in one applied write, and increment MBX_SAF_SEQ. -/
def State.placeSaf (s : State) (op slot : Nat) (buf sig : List Byte) : State :=
  let put (t : State) (off : Nat) (b : List Byte) : State :=
    (List.range ((b.length + 3) / 4)).foldl (fun u i => u.setReg .mbxSaf (off + 4 * i) (word (leAt b (4 * i) 4))) t
  let t := put (put s 0x100 buf) 0x900 sig
  ((((t.setReg .mbxSaf 0x960 (word (slot % 4))).setReg .mbxSaf 0x44 (word op)).add .mbxSaf 0x40 15 0 1).count .mbxSaf 0x2C)

/-- The registers a STATUS request returns. -/
def State.safStatus (s : State) : List Word := [s.view (.saf 0) 0x48, s.view (.saf 0) 0x5C, s.view (.saf 0) 0x54]

/-- A SAF request. A PROPOSE comes in parts by byte offset until its final one; operations 1 to 4 are answered BUSY while DONE_SEQ
differs from MBX_SAF_SEQ. -/
def State.krdsSaf (s : State) (op off : Nat) (final : Bool) (body sig : List Byte) (slot : Nat) : State × Nat × List Word :=
  if op = 5 then (s, 0, s.safStatus)
  else if op = 0 || 5 < op || 1024 < body.length || 2048 < off + body.length then (s, 2, [])
  else if s.field (.saf 0) 0x48 15 0 ≠ s.field .mbxSaf 0x40 15 0 || (s.lockOf .mbxSaf).any (fun m => decide (m ≠ Master.mgt)) then (s, 3, [])
  else
    let b := if op = 2 then spliceAt s.safBox.part off body else if op = 1 then body else []
    if op = 2 && !final then ({ s with safBox := { part := b } }, 0, [])
    else
      let t := { s with safBox := { part := [] } }.placeSaf op slot (if op = 2 then slice b 0 2048 else b) (if op = 2 || op = 3 then slice sig 0 96 else [])
      (t, 0, [t.view .mbxSaf 0x40])

/-- KRDS_SAF. -/
def execKrdsSaf (id req : Nat) (op off : Nat) (final : Bool) (body sig : List Byte) (slot : Nat) (s : State) : Host.Outcome State Fault Refusal :=
  .next (s.request id req true (fun t => t.krdsSaf op off final body sig slot))

/-! ## Key packages (R387) -/

/-- KEYS: one part of a key package by its byte offset; the last part ends it. -/
def State.krdsKeys (s : State) (off : Nat) (final : Bool) (part : List Byte) (sigOk : Bool) : State × Nat × List Word :=
  if 1020 < part.length || 3072 < off + part.length then (s, 2, [])
  else
    let b := spliceAt s.keys.part off part
    let t := { s with keys := { s.keys with part := if final then [] else b } }
    if !final then (t, 0, [])
    else
      let r := if s.inU2 then (t, 1) else t.keyPackage (slice b 0 (off + part.length)) sigOk
      (r.1.imgEnd r.2 0, if r.2 = 0 then 0 else 4, [word r.2])

/-- KRDS_KEYS. -/
def execKrdsKeys (id req : Nat) (off : Nat) (final : Bool) (part : List Byte) (sigOk : Bool) (s : State) : Host.Outcome State Fault Refusal :=
  .next (s.request id req true (fun t => t.krdsKeys off final part sigOk))

end Sys2Proof.Machine
end

