-- ==== Sys2Proof/Machine/NyateAlu.lean ====
section
/-!
DEFINITION. Machine/NyateAlu.lean: the Nyate instructions that compute on registers (R325 to R328), one definition each.
-/
namespace Sys2Proof.Machine

open Sys2Proof

/-- NOP (R325). -/
def execNNop (c : Fin 8) (t : Fin 128) (rd ra rb : BitVec 4) (imm : BitVec 18) (s : State) : Host.Outcome State Fault Refusal :=
  nIssue 0x00 {} c t rd ra rb imm s (fun th => s.setThread c.val t.val th.step)

/-- LI (R325): n[rd] = IMM, no flag. -/
def execNLi (c : Fin 8) (t : Fin 128) (rd ra rb : BitVec 4) (imm : BitVec 18) (s : State) : Host.Outcome State Fault Refusal :=
  nIssue 0x01 { rd := true, imm := true } c t rd ra rb imm s (fun th =>
    s.setThread c.val t.val (th.setR rd.toNat imm).step)

/-- ADD (R325): n[rd] = n[ra] + B, B = n[rb]. -/
def execNAdd (c : Fin 8) (t : Fin 128) (rd ra rb : BitVec 4) (imm : BitVec 18) (s : State) : Host.Outcome State Fault Refusal :=
  nReg 0x02 (fun a b _ => addF a b false) c t rd ra rb imm s

/-- ADDI (R325): n[rd] = n[ra] + B, B = IMM. -/
def execNAddi (c : Fin 8) (t : Fin 128) (rd ra rb : BitVec 4) (imm : BitVec 18) (s : State) : Host.Outcome State Fault Refusal :=
  nImm 0x03 (fun a b _ => addF a b false) c t rd ra rb imm s

/-- ADC (R325): n[rd] = n[ra] + B + C, B = n[rb]. -/
def execNAdc (c : Fin 8) (t : Fin 128) (rd ra rb : BitVec 4) (imm : BitVec 18) (s : State) : Host.Outcome State Fault Refusal :=
  nReg 0x04 addF c t rd ra rb imm s

/-- ADCI (R325): n[rd] = n[ra] + B + C, B = IMM. -/
def execNAdci (c : Fin 8) (t : Fin 128) (rd ra rb : BitVec 4) (imm : BitVec 18) (s : State) : Host.Outcome State Fault Refusal :=
  nImm 0x05 addF c t rd ra rb imm s

/-- SUB (R325): n[rd] = n[ra] − B, B = n[rb]. -/
def execNSub (c : Fin 8) (t : Fin 128) (rd ra rb : BitVec 4) (imm : BitVec 18) (s : State) : Host.Outcome State Fault Refusal :=
  nReg 0x06 (fun a b _ => subF a b false) c t rd ra rb imm s

/-- SUBI (R325): n[rd] = n[ra] − B, B = IMM. -/
def execNSubi (c : Fin 8) (t : Fin 128) (rd ra rb : BitVec 4) (imm : BitVec 18) (s : State) : Host.Outcome State Fault Refusal :=
  nImm 0x07 (fun a b _ => subF a b false) c t rd ra rb imm s

/-- SBC (R325): n[rd] = n[ra] − B − C, B = n[rb]. -/
def execNSbc (c : Fin 8) (t : Fin 128) (rd ra rb : BitVec 4) (imm : BitVec 18) (s : State) : Host.Outcome State Fault Refusal :=
  nReg 0x08 subF c t rd ra rb imm s

/-- SBCI (R325): n[rd] = n[ra] − B − C, B = IMM. -/
def execNSbci (c : Fin 8) (t : Fin 128) (rd ra rb : BitVec 4) (imm : BitVec 18) (s : State) : Host.Outcome State Fault Refusal :=
  nImm 0x09 subF c t rd ra rb imm s

/-- AND (R325): n[rd] = n[ra] AND B, B = n[rb]. -/
def execNAnd (c : Fin 8) (t : Fin 128) (rd ra rb : BitVec 4) (imm : BitVec 18) (s : State) : Host.Outcome State Fault Refusal :=
  nReg 0x0A (fun a b _ => logicF (a &&& b)) c t rd ra rb imm s

/-- ANDI (R325): n[rd] = n[ra] AND B, B = IMM. -/
def execNAndi (c : Fin 8) (t : Fin 128) (rd ra rb : BitVec 4) (imm : BitVec 18) (s : State) : Host.Outcome State Fault Refusal :=
  nImm 0x0B (fun a b _ => logicF (a &&& b)) c t rd ra rb imm s

/-- OR (R325): n[rd] = n[ra] OR B, B = n[rb]. -/
def execNOr (c : Fin 8) (t : Fin 128) (rd ra rb : BitVec 4) (imm : BitVec 18) (s : State) : Host.Outcome State Fault Refusal :=
  nReg 0x0C (fun a b _ => logicF (a ||| b)) c t rd ra rb imm s

/-- ORI (R325): n[rd] = n[ra] OR B, B = IMM. -/
def execNOri (c : Fin 8) (t : Fin 128) (rd ra rb : BitVec 4) (imm : BitVec 18) (s : State) : Host.Outcome State Fault Refusal :=
  nImm 0x0D (fun a b _ => logicF (a ||| b)) c t rd ra rb imm s

/-- XOR (R325): n[rd] = n[ra] XOR B, B = n[rb]. -/
def execNXor (c : Fin 8) (t : Fin 128) (rd ra rb : BitVec 4) (imm : BitVec 18) (s : State) : Host.Outcome State Fault Refusal :=
  nReg 0x0E (fun a b _ => logicF (a ^^^ b)) c t rd ra rb imm s

/-- XORI (R325): n[rd] = n[ra] XOR B, B = IMM. -/
def execNXori (c : Fin 8) (t : Fin 128) (rd ra rb : BitVec 4) (imm : BitVec 18) (s : State) : Host.Outcome State Fault Refusal :=
  nImm 0x0F (fun a b _ => logicF (a ^^^ b)) c t rd ra rb imm s

/-- CMP (R325): the flags of SUB, no register written. -/
def execNCmp (c : Fin 8) (t : Fin 128) (rd ra rb : BitVec 4) (imm : BitVec 18) (s : State) : Host.Outcome State Fault Refusal :=
  nIssue 0x10 { ra := true, rb := true } c t rd ra rb imm s (fun th =>
    s.setThread c.val t.val
      { th with sw := applyFlags th.sw (subF (th.r ra.toNat) (th.r rb.toNat) false).2 }.step)

/-- CMPI (R325): the flags of SUBI, no register written. -/
def execNCmpi (c : Fin 8) (t : Fin 128) (rd ra rb : BitVec 4) (imm : BitVec 18) (s : State) : Host.Outcome State Fault Refusal :=
  nIssue 0x11 { ra := true, imm := true } c t rd ra rb imm s (fun th =>
    s.setThread c.val t.val { th with sw := applyFlags th.sw (subF (th.r ra.toNat) imm false).2 }.step)

/-- SHL (R326) by n[rb]. -/
def execNShl (c : Fin 8) (t : Fin 128) (rd ra rb : BitVec 4) (imm : BitVec 18) (s : State) : Host.Outcome State Fault Refusal :=
  nReg 0x12 (fun a b _ => shlF a b) c t rd ra rb imm s

/-- SHLI (R326) by IMM. -/
def execNShli (c : Fin 8) (t : Fin 128) (rd ra rb : BitVec 4) (imm : BitVec 18) (s : State) : Host.Outcome State Fault Refusal :=
  nImm 0x13 (fun a b _ => shlF a b) c t rd ra rb imm s

/-- SHR (R326) by n[rb]. -/
def execNShr (c : Fin 8) (t : Fin 128) (rd ra rb : BitVec 4) (imm : BitVec 18) (s : State) : Host.Outcome State Fault Refusal :=
  nReg 0x14 (fun a b _ => shrF a b) c t rd ra rb imm s

/-- SHRI (R326) by IMM. -/
def execNShri (c : Fin 8) (t : Fin 128) (rd ra rb : BitVec 4) (imm : BitVec 18) (s : State) : Host.Outcome State Fault Refusal :=
  nImm 0x15 (fun a b _ => shrF a b) c t rd ra rb imm s

/-- SAR (R326) by n[rb]. -/
def execNSar (c : Fin 8) (t : Fin 128) (rd ra rb : BitVec 4) (imm : BitVec 18) (s : State) : Host.Outcome State Fault Refusal :=
  nReg 0x16 (fun a b _ => sarF a b) c t rd ra rb imm s

/-- SARI (R326) by IMM. -/
def execNSari (c : Fin 8) (t : Fin 128) (rd ra rb : BitVec 4) (imm : BitVec 18) (s : State) : Host.Outcome State Fault Refusal :=
  nImm 0x17 (fun a b _ => sarF a b) c t rd ra rb imm s

/-- ROL (R326) by n[rb]. -/
def execNRol (c : Fin 8) (t : Fin 128) (rd ra rb : BitVec 4) (imm : BitVec 18) (s : State) : Host.Outcome State Fault Refusal :=
  nReg 0x18 (fun a b _ => rolF a b) c t rd ra rb imm s

/-- ROLI (R326) by IMM. -/
def execNRoli (c : Fin 8) (t : Fin 128) (rd ra rb : BitVec 4) (imm : BitVec 18) (s : State) : Host.Outcome State Fault Refusal :=
  nImm 0x19 (fun a b _ => rolF a b) c t rd ra rb imm s

/-- ROR (R326) by n[rb]. -/
def execNRor (c : Fin 8) (t : Fin 128) (rd ra rb : BitVec 4) (imm : BitVec 18) (s : State) : Host.Outcome State Fault Refusal :=
  nReg 0x1A (fun a b _ => rorF a b) c t rd ra rb imm s

/-- RORI (R326) by IMM. -/
def execNRori (c : Fin 8) (t : Fin 128) (rd ra rb : BitVec 4) (imm : BitVec 18) (s : State) : Host.Outcome State Fault Refusal :=
  nImm 0x1B (fun a b _ => rorF a b) c t rd ra rb imm s

/-- NEG (R325, R327). -/
def execNNeg (c : Fin 8) (t : Fin 128) (rd ra rb : BitVec 4) (imm : BitVec 18) (s : State) : Host.Outcome State Fault Refusal :=
  nIssue 0x1C { rd := true, ra := true } c t rd ra rb imm s (fun th =>
    s.setThread c.val t.val (th.result rd (negF (th.r ra.toNat))))

/-- ABS (R325, R327). -/
def execNAbs (c : Fin 8) (t : Fin 128) (rd ra rb : BitVec 4) (imm : BitVec 18) (s : State) : Host.Outcome State Fault Refusal :=
  nIssue 0x1D { rd := true, ra := true } c t rd ra rb imm s (fun th =>
    s.setThread c.val t.val (th.result rd (absF (th.r ra.toNat))))

/-- MULU (R325): the 36-bit unsigned product in the pair rd. -/
def execNMulu (c : Fin 8) (t : Fin 128) (rd ra rb : BitVec 4) (imm : BitVec 18) (s : State) : Host.Outcome State Fault Refusal :=
  nPair 0x1E muluF c t rd ra rb imm s

/-- MULS (R325): the 36-bit signed product in the pair rd. -/
def execNMuls (c : Fin 8) (t : Fin 128) (rd ra rb : BitVec 4) (imm : BitVec 18) (s : State) : Host.Outcome State Fault Refusal :=
  nPair 0x1F mulsF c t rd ra rb imm s

/-- DIVU (R325, R328). -/
def execNDivu (c : Fin 8) (t : Fin 128) (rd ra rb : BitVec 4) (imm : BitVec 18) (s : State) : Host.Outcome State Fault Refusal :=
  nDivide 0x20 divuF c t rd ra rb imm s

/-- DIVS (R325, R327, R328). -/
def execNDivs (c : Fin 8) (t : Fin 128) (rd ra rb : BitVec 4) (imm : BitVec 18) (s : State) : Host.Outcome State Fault Refusal :=
  nDivide 0x21 divsF c t rd ra rb imm s

/-- RDSW (R325): n[rd] = SW. -/
def execNRdsw (c : Fin 8) (t : Fin 128) (rd ra rb : BitVec 4) (imm : BitVec 18) (s : State) : Host.Outcome State Fault Refusal :=
  nIssue 0x22 { rd := true } c t rd ra rb imm s (fun th =>
    s.setThread c.val t.val (th.setR rd.toNat th.sw).step)

/-- WRSW (R325): SW = n[ra] in the defined bits. -/
def execNWrsw (c : Fin 8) (t : Fin 128) (rd ra rb : BitVec 4) (imm : BitVec 18) (s : State) : Host.Outcome State Fault Refusal :=
  nIssue 0x23 { ra := true } c t rd ra rb imm s (fun th =>
    s.setThread c.val t.val { th with sw := th.r ra.toNat &&& swDefined }.step)

end Sys2Proof.Machine
end

