-- ==== Sys2Proof/Machine/Twp.lean ====
section
/-!
DEFINITION. Machine/Twp.lean: the two-wire port (R404 to R409) and its summary registers (R411).
-/
namespace Sys2Proof.Machine

open Sys2Proof

/-- Change the port. -/
def State.setTwp (s : State) (x : TwpSt) : State := { s with twp := x }

/-- The page behind a pointer (R406): slot 0 is the TWP page, slot n the page TWP_MAP n names while enabled. -/
def State.twpPage (s : State) (ptr : Nat) : Option Page :=
  let n := ptr / 0x1000 % 8
  let w := s.reg .twp (0x40 + 4 * n)
  if n = 0 then some .twp else if bitOn w 31 then Page.ofBase (fld w 23 0 * 0x1000) else none

/-- TWP_TRANSACTION (R404, R405): a START and the port's address; a write sets the pointer, a read goes on from it. -/
def execTwpTransaction (addr : BitVec 7) (read : Bool) (ptr : Option (BitVec 16)) (s : State) : Host.Outcome State Fault Refusal :=
  let x := { s.twp with deaf := false, fetch := none }
  if !s.pwr.started then .next s
  else if addr.toNat ≠ s.field .twp 0x40 6 0 then .next (s.setTwp { s.twp with deaf := false })
  else
    match ptr with
    | some v => .next (s.setTwp { x with ptr := v.toNat % 0x8000 })
    | none => .next (s.setTwp (if read then x else { x with ptr := s.twp.ptr }))

/-- The register at the pointer, fetched whole: byte 0 of offset 0x024 is a lock read (R36, R407). -/
def State.twpFetch (s : State) (rivals : List Req) : State × Word :=
  let off := s.twp.ptr % 0x1000 / 4 * 4
  match s.twpPage s.twp.ptr with
  | none => (s, 0)
  | some p =>
      if off = 0x24 then
        (if s.twp.ptr % 4 = 0 then
          let req : Req := { master := .twp, off := 0x24, width := 4, kind := .lockRead }
          (s.readLock p .twp rivals, if s.islandOff (accessIsland p 0x24) then 0 else s.lockAnswer p (req :: rivals) req)
         else (s, 0))
      else s.read32 p off

/-- TWP_REGISTER_FETCH (R405, R407): a byte is read at the pointer; the first byte read of a register in a transaction fetches all
of it. -/
def execTwpRegisterFetch (rivals : List Req) (s : State) : Host.Outcome State Fault Refusal :=
  let x := s.twp
  if x.deaf || !s.pwr.started then .next s
  else
    let base := x.ptr / 4 * 4
    let y : State × Word := match x.fetch with
      | some (b, w) => if b = base then (s, w) else s.twpFetch rivals
      | none => s.twpFetch rivals
    let t := y.1.setTwp { y.1.twp with ptr := (x.ptr + 1) % 0x8000, fetch := some (base, y.2) }
    .next (t.emit (.twpByte (BitVec.ofNat 8 (byteAt (leBytes 4 y.2.toNat) (x.ptr % 4)))))

/-- Written bytes from the pointer on: bytes 0 to 3 of a register issue one write, anything less is counted (R407). -/
def State.twpBytes (s : State) (fuel : Nat) (b : List Byte) (rivals : List Req) : State :=
  match fuel with
  | 0 => s
  | fuel + 1 =>
      if b.isEmpty then s
      else
        let lo := s.twp.ptr % 4
        let n := min (4 - lo) b.length
        let t := s.setTwp { s.twp with ptr := (s.twp.ptr + n) % 0x8000 }
        if n = 4 then
          (match s.twpPage s.twp.ptr with
           | some p => (t.write p (s.twp.ptr % 0x1000) .twp (word (leAt b 0 4)) rivals).twpBytes fuel (b.drop n) []
           | none => t.twpBytes fuel (b.drop n) rivals)
        else (t.count .twp 0x64).twpBytes fuel (b.drop n) rivals

/-- TWP_REGISTER_WRITE (R407): the data bytes of a write transaction, from the pointer on. -/
def execTwpRegisterWrite (bytes : List Byte) (rivals : List Req) (s : State) : Host.Outcome State Fault Refusal :=
  if s.twp.deaf || !s.pwr.started then .next s else .next (s.twpBytes bytes.length bytes rivals)

/-- STRETCH_CUT (R408): the two-wire self-reset. -/
def execStretchCut (s : State) : Host.Outcome State Fault Refusal :=
  if !s.pwr.started then .next s
  else
    let t := (s.setTwp { s.twp with ptr := 0, fetch := none, deaf := true }).unlockBy (fun m => m = .twp)
    .next ((t.count .twp 0x60).raise .twp 0)

/-- BUS_HELD (R409): another device has held a line low for 35 ms. -/
def execBusHeld (s : State) : Host.Outcome State Fault Refusal :=
  if s.twp.held || !s.pwr.started then .next s
  else .next (((s.setTwp { s.twp with held := true }).count .twp 0x68).raise .twp 1)

/-- BUS_FREE (R409): both lines have been high for 1 ms. -/
def execBusFree (s : State) : Host.Outcome State Fault Refusal :=
  if s.twp.held then .next ((s.setTwp { s.twp with held := false }).raise .twp 2) else .next s

/-- The highest temperature (R411). -/
def State.hottest (s : State) : Int := (List.range 12).foldl (fun a t => max a (s.temp t)) (s.temp 0)

/-- TWP_SUMMARY_REFRESH (R411). -/
def execTwpSummaryRefresh (s : State) : Host.Outcome State Fault Refusal :=
  if !s.pwr.started then .next s
  else
    .next ((((s.setReg .twp 0x100 s.readyStat).setReg .twp 0x104 s.mainsStat).setReg .twp 0x108
      (word (BitVec.ofInt 16 s.hottest).toNat)).setReg .twp 0x10C s.log.next)

end Sys2Proof.Machine
end

