-- ==== Sys2Proof/Machine/Dispatch.lean ====
section
/-!
DEFINITION. Machine/Dispatch.lean: one arm per command, each a direct call of that command's meaning.
-/
namespace Sys2Proof.Machine

open Sys2Proof

/-- The effect of a command on everything but the queue. -/
def exec (i : Instr) (s : State) : Host.Outcome State Fault Refusal :=
  match i with
  | .registerWrite p reqs => Sys2Proof.Machine.execRegisterWrite p reqs s
  | .lockRead p m rivals => Sys2Proof.Machine.execLockRead p m rivals s
  | .lockRelease p m v rivals => Sys2Proof.Machine.execLockRelease p m v rivals s
  | .rcFieldRead p m off width => Sys2Proof.Machine.execRcFieldRead p m off width s
  | .conflictClear p m rivals => Sys2Proof.Machine.execConflictClear p m rivals s
  | .ownerWrite p m v rivals => Sys2Proof.Machine.execOwnerWrite p m v rivals s
  | .freezeSnapshot p m v rivals => Sys2Proof.Machine.execFreezeSnapshot p m v rivals s
  | .freezeTimeout p => Sys2Proof.Machine.execFreezeTimeout p s
  | .inputLost i1 x => Sys2Proof.Machine.execInputLost i1 x s
  | .inputReturned i1 x => Sys2Proof.Machine.execInputReturned i1 x s
  | .inputGood i1 x => Sys2Proof.Machine.execInputGood i1 x s
  | .mainsLoss => Sys2Proof.Machine.execMainsLoss s
  | .shedIslands => Sys2Proof.Machine.execShedIslands s
  | .gaugeLowShed => Sys2Proof.Machine.execGaugeLowShed s
  | .shedRingDrop => Sys2Proof.Machine.execShedRingDrop s
  | .storeExhausted => Sys2Proof.Machine.execStoreExhausted s
  | .gaugeUpdate volt load => Sys2Proof.Machine.execGaugeUpdate volt load s
  | .flashBurstRequest kind pages => Sys2Proof.Machine.execFlashBurstRequest kind pages s
  | .flashBurstDone bad0 bad1 dead0 dead1 => Sys2Proof.Machine.execFlashBurstDone bad0 bad1 dead0 dead1 s
  | .captestPeriodExpiry => Sys2Proof.Machine.execCaptestPeriodExpiry s
  | .captestStart m rivals => Sys2Proof.Machine.execCaptestStart m rivals s
  | .captestDone c => Sys2Proof.Machine.execCaptestDone c s
  | .holdupTestStale => Sys2Proof.Machine.execHoldupTestStale s
  | .mainsColdStart => Sys2Proof.Machine.execMainsColdStart s
  | .unitReadyAssert ms => Sys2Proof.Machine.execUnitReadyAssert ms s
  | .readyLate => Sys2Proof.Machine.execReadyLate s
  | .unitResetGo m v rivals => Sys2Proof.Machine.execUnitResetGo m v rivals s
  | .unitResetExtend m v rivals => Sys2Proof.Machine.execUnitResetExtend m v rivals s
  | .hostLinkReset cause => Sys2Proof.Machine.execHostLinkReset cause s
  | .perstDeassert => Sys2Proof.Machine.execPerstDeassert s
  | .functionLevelReset f => Sys2Proof.Machine.execFunctionLevelReset f s
  | .funcResetGo f m rivals => Sys2Proof.Machine.execFuncResetGo f m rivals s
  | .funcResetDone fs => Sys2Proof.Machine.execFuncResetDone fs s
  | .islandColdReset m v rivals => Sys2Proof.Machine.execIslandColdReset m v rivals s
  | .coldrstDone i1 => Sys2Proof.Machine.execColdrstDone i1 s
  | .linkTrainingStart => Sys2Proof.Machine.execLinkTrainingStart s
  | .linkUp gen width => Sys2Proof.Machine.execLinkUp gen width s
  | .configWrite f field v => Sys2Proof.Machine.execConfigWrite f field v s
  | .vfEnable => Sys2Proof.Machine.execVfEnable s
  | .d3hotWrite f => Sys2Proof.Machine.execD3hotWrite f s
  | .d3hotEntered f => Sys2Proof.Machine.execD3hotEntered f s
  | .d0Write f => Sys2Proof.Machine.execD0Write f s
  | .barAccess f bar off width wr poison => Sys2Proof.Machine.execBarAccess f bar off width wr poison s
  | .readCompletion id poison => Sys2Proof.Machine.execReadCompletion id poison s
  | .completionTimeout id => Sys2Proof.Machine.execCompletionTimeout id s
  | .msixUnmask f v => Sys2Proof.Machine.execMsixUnmask f v s
  | .l1Entry sub => Sys2Proof.Machine.execL1Entry sub s
  | .ltrSend => Sys2Proof.Machine.execLtrSend s
  | .pmeStatusSet src k => Sys2Proof.Machine.execPmeStatusSet src k s
  | .pmeResend k => Sys2Proof.Machine.execPmeResend k s
  | .funcStall f => Sys2Proof.Machine.execFuncStall f s
  | .queueEnable f m rivals => Sys2Proof.Machine.execQueueEnable f m rivals s
  | .wqDoorbell f q width v => Sys2Proof.Machine.execWqDoorbell f q width v s
  | .cqDoorbell f q width v => Sys2Proof.Machine.execCqDoorbell f q width v s
  | .wqPoll f q => Sys2Proof.Machine.execWqPoll f q s
  | .descriptorReadReturn id descs => Sys2Proof.Machine.execDescriptorReadReturn id descs s
  | .txd f q data => Sys2Proof.Machine.execTxd f q data s
  | .nopDescriptor f q => Sys2Proof.Machine.execNopDescriptor f q s
  | .completionWrite f q => Sys2Proof.Machine.execCompletionWrite f q s
  | .rxDelivery f q => Sys2Proof.Machine.execRxDelivery f q s
  | .rxBufferTimeout f q => Sys2Proof.Machine.execRxBufferTimeout f q s
  | .hamBurstRequest f q idx cells => Sys2Proof.Machine.execHamBurstRequest f q idx cells s
  | .hamBurstAged id => Sys2Proof.Machine.execHamBurstAged id s
  | .hamTransfer id chan => Sys2Proof.Machine.execHamTransfer id chan s
  | .cellRelease id => Sys2Proof.Machine.execCellRelease id s
  | .hamScrub errs frame => Sys2Proof.Machine.execHamScrub errs frame s
  | .hamChanCfgWrite i1 m v rivals => Sys2Proof.Machine.execHamChanCfgWrite i1 m v rivals s
  | .frameIngressDecide p head whole => Sys2Proof.Machine.execFrameIngressDecide p head whole s
  | .frameEndCheck id rest len fcsBad code => Sys2Proof.Machine.execFrameEndCheck id rest len fcsBad code s
  | .portCfgWrite p m v rivals => Sys2Proof.Machine.execPortCfgWrite p m v rivals s
  | .moduleChange p present fault info => Sys2Proof.Machine.execModuleChange p present fault info s
  | .linkChange p lock localFault remoteFault => Sys2Proof.Machine.execLinkChange p lock localFault remoteFault s
  | .pauseRx p pfc times => Sys2Proof.Machine.execPauseRx p pfc times s
  | .pauseTimerExpiry p pri => Sys2Proof.Machine.execPauseTimerExpiry p pri s
  | .pauseXoff p pri => Sys2Proof.Machine.execPauseXoff p pri s
  | .pauseRepeat p pri => Sys2Proof.Machine.execPauseRepeat p pri s
  | .pauseXon p pri => Sys2Proof.Machine.execPauseXon p pri s
  | .pauseStorm p => Sys2Proof.Machine.execPauseStorm p s
  | .flap p m rivals => Sys2Proof.Machine.execFlap p m rivals s
  | .steerWordAWrite p r m v rivals => Sys2Proof.Machine.execSteerWordAWrite p r m v rivals s
  | .steerWordBWrite p r m v rivals => Sys2Proof.Machine.execSteerWordBWrite p r m v rivals s
  | .frameTransmit id => Sys2Proof.Machine.execFrameTransmit id s
  | .ptpCfgWrite m v rivals => Sys2Proof.Machine.execPtpCfgWrite m v rivals s
  | .ptpStep m v rivals => Sys2Proof.Machine.execPtpStep m v rivals s
  | .ptpMessageRx p role offset => Sys2Proof.Machine.execPtpMessageRx p role offset s
  | .announceReceiptTimeout => Sys2Proof.Machine.execAnnounceReceiptTimeout s
  | .ptpTimeRead m => Sys2Proof.Machine.execPtpTimeRead m s
  | .txtsPop m rivals => Sys2Proof.Machine.execTxtsPop m rivals s
  | .gatePegAdvance p => Sys2Proof.Machine.execGatePegAdvance p s
  | .arm p m rivals => Sys2Proof.Machine.execArm p m rivals s
  | .disarm p m rivals => Sys2Proof.Machine.execDisarm p m rivals s
  | .gateSwap p => Sys2Proof.Machine.execGateSwap p s
  | .gatePegDataAccess p m active wr rivals => Sys2Proof.Machine.execGatePegDataAccess p m active wr rivals s
  | .ringCfgWrite m v rivals => Sys2Proof.Machine.execRingCfgWrite m v rivals s
  | .hsrSupervisionTx => Sys2Proof.Machine.execHsrSupervisionTx s
  | .hsrRx id => Sys2Proof.Machine.execHsrRx id s
  | .ddEntryExpire prp => Sys2Proof.Machine.execDdEntryExpire prp s
  | .prpRx id => Sys2Proof.Machine.execPrpRx id s
  | .ringOpen node => Sys2Proof.Machine.execRingOpen node s
  | .ringClosed node => Sys2Proof.Machine.execRingClosed node s
  | .macLearn p vid src => Sys2Proof.Machine.execMacLearn p vid src s
  | .ageingTick => Sys2Proof.Machine.execAgeingTick s
  | .tblSearch m v rivals => Sys2Proof.Machine.execTblSearch m v rivals s
  | .tblNext m v rivals => Sys2Proof.Machine.execTblNext m v rivals s
  | .tblInsert m v rivals => Sys2Proof.Machine.execTblInsert m v rivals s
  | .tblDelete m v rivals => Sys2Proof.Machine.execTblDelete m v rivals s
  | .tblWring m v rivals => Sys2Proof.Machine.execTblWring m v rivals s
  | .cmdDone => Sys2Proof.Machine.execCmdDone s
  | .tblDmaLockWrite m v rivals => Sys2Proof.Machine.execTblDmaLockWrite m v rivals s
  | .tblDmaStart m v rivals => Sys2Proof.Machine.execTblDmaStart m v rivals s
  | .dmaDone image hostError => Sys2Proof.Machine.execDmaDone image hostError s
  | .tblLockBreak broken => Sys2Proof.Machine.execTblLockBreak broken s
  | .darnVisit shadow => Sys2Proof.Machine.execDarnVisit shadow s
  | .darnRecheck shadow => Sys2Proof.Machine.execDarnRecheck shadow s
  | .tblScrub table idx errs => Sys2Proof.Machine.execTblScrub table idx errs s
  | .tunEncWrite m rivals => Sys2Proof.Machine.execTunEncWrite m rivals s
  | .tunEncRead m rivals => Sys2Proof.Machine.execTunEncRead m rivals s
  | .tunnelDecap id csumBad => Sys2Proof.Machine.execTunnelDecap id csumBad s
  | .macsecRxVerify id icvOk plain => Sys2Proof.Machine.execMacsecRxVerify id icvOk plain s
  | .espInbound id icvOk plain => Sys2Proof.Machine.execEspInbound id icvOk plain s
  | .pnWarn sa => Sys2Proof.Machine.execPnWarn sa s
  | .saExhausted sa => Sys2Proof.Machine.execSaExhausted sa s
  | .keyLoad m v rivals => Sys2Proof.Machine.execKeyLoad m v rivals s
  | .keyStageTimeout => Sys2Proof.Machine.execKeyStageTimeout s
  | .keySlotZeroised slot => Sys2Proof.Machine.execKeySlotZeroised slot s
  | .cryNotePop m rivals => Sys2Proof.Machine.execCryNotePop m rivals s
  | .seal f q cipher tag => Sys2Proof.Machine.execSeal f q cipher tag s
  | .cryOpen f q plain tagOk => Sys2Proof.Machine.execCryOpen f q plain tagOk s
  | .stoConnWrite m rivals => Sys2Proof.Machine.execStoConnWrite m rivals s
  | .stoConnRead m rivals => Sys2Proof.Machine.execStoConnRead m rivals s
  | .stoConnOpen m rivals => Sys2Proof.Machine.execStoConnOpen m rivals s
  | .stoConnClose m rivals => Sys2Proof.Machine.execStoConnClose m rivals s
  | .icrespRx conn pfv cpda hdgst ddgst maxh2c => Sys2Proof.Machine.execIcrespRx conn pfv cpda hdgst ddgst maxh2c s
  | .stoOpenTimeout conn => Sys2Proof.Machine.execStoOpenTimeout conn s
  | .closeWaitEnd conn => Sys2Proof.Machine.execCloseWaitEnd conn s
  | .finAckTimeout conn => Sys2Proof.Machine.execFinAckTimeout conn s
  | .tcpRetransmitTimeout conn => Sys2Proof.Machine.execTcpRetransmitTimeout conn s
  | .tcpSegmentRx conn seq len pduOk hdrOk => Sys2Proof.Machine.execTcpSegmentRx conn seq len pduOk hdrOk s
  | .rstRx conn => Sys2Proof.Machine.execRstRx conn s
  | .finRx conn => Sys2Proof.Machine.execFinRx conn s
  | .c2htermreqRx conn fes => Sys2Proof.Machine.execC2htermreqRx conn fes s
  | .stoOpStart f q sqe => Sys2Proof.Machine.execStoOpStart f q sqe s
  | .c2hdataRx conn cid off data pduEnd digestOk lastOk => Sys2Proof.Machine.execC2hdataRx conn cid off data pduEnd digestOk lastOk s
  | .capsulerespRx conn cid cqe => Sys2Proof.Machine.execCapsulerespRx conn cid cqe s
  | .stoCmdTimeout conn cid => Sys2Proof.Machine.execStoCmdTimeout conn cid s
  | .frameDispatch id => Sys2Proof.Machine.execFrameDispatch id s
  | .windowRoom c t => Sys2Proof.Machine.execWindowRoom c t s
  | .orderGateRelease id => Sys2Proof.Machine.execOrderGateRelease id s
  | .holdLimit c t us => Sys2Proof.Machine.execHoldLimit c t us s
  | .tableAnswer c => Sys2Proof.Machine.execTableAnswer c s
  | .engineAccept id => Sys2Proof.Machine.execEngineAccept id s
  | .sleepExpiry c t => Sys2Proof.Machine.execSleepExpiry c t s
  | .nycLoadStart c m v rivals => Sys2Proof.Machine.execNycLoadStart c m v rivals s
  | .loadDone c image sigOk hostError => Sys2Proof.Machine.execLoadDone c image sigOk hostError s
  | .thStart c m rivals => Sys2Proof.Machine.execThStart c m rivals s
  | .thStop c m rivals => Sys2Proof.Machine.execThStop c m rivals s
  | .thRestart c m rivals => Sys2Proof.Machine.execThRestart c m rivals s
  | .fltPop c m rivals => Sys2Proof.Machine.execFltPop c m rivals s
  | .resume c m rivals => Sys2Proof.Machine.execResume c m rivals s
  | .nycHpWrite c core m v rivals => Sys2Proof.Machine.execNycHpWrite c core m v rivals s
  | .nNop c t rd ra rb imm => Sys2Proof.Machine.execNNop c t rd ra rb imm s
  | .nLi c t rd ra rb imm => Sys2Proof.Machine.execNLi c t rd ra rb imm s
  | .nAdd c t rd ra rb imm => Sys2Proof.Machine.execNAdd c t rd ra rb imm s
  | .nAddi c t rd ra rb imm => Sys2Proof.Machine.execNAddi c t rd ra rb imm s
  | .nAdc c t rd ra rb imm => Sys2Proof.Machine.execNAdc c t rd ra rb imm s
  | .nAdci c t rd ra rb imm => Sys2Proof.Machine.execNAdci c t rd ra rb imm s
  | .nSub c t rd ra rb imm => Sys2Proof.Machine.execNSub c t rd ra rb imm s
  | .nSubi c t rd ra rb imm => Sys2Proof.Machine.execNSubi c t rd ra rb imm s
  | .nSbc c t rd ra rb imm => Sys2Proof.Machine.execNSbc c t rd ra rb imm s
  | .nSbci c t rd ra rb imm => Sys2Proof.Machine.execNSbci c t rd ra rb imm s
  | .nAnd c t rd ra rb imm => Sys2Proof.Machine.execNAnd c t rd ra rb imm s
  | .nAndi c t rd ra rb imm => Sys2Proof.Machine.execNAndi c t rd ra rb imm s
  | .nOr c t rd ra rb imm => Sys2Proof.Machine.execNOr c t rd ra rb imm s
  | .nOri c t rd ra rb imm => Sys2Proof.Machine.execNOri c t rd ra rb imm s
  | .nXor c t rd ra rb imm => Sys2Proof.Machine.execNXor c t rd ra rb imm s
  | .nXori c t rd ra rb imm => Sys2Proof.Machine.execNXori c t rd ra rb imm s
  | .nCmp c t rd ra rb imm => Sys2Proof.Machine.execNCmp c t rd ra rb imm s
  | .nCmpi c t rd ra rb imm => Sys2Proof.Machine.execNCmpi c t rd ra rb imm s
  | .nShl c t rd ra rb imm => Sys2Proof.Machine.execNShl c t rd ra rb imm s
  | .nShli c t rd ra rb imm => Sys2Proof.Machine.execNShli c t rd ra rb imm s
  | .nShr c t rd ra rb imm => Sys2Proof.Machine.execNShr c t rd ra rb imm s
  | .nShri c t rd ra rb imm => Sys2Proof.Machine.execNShri c t rd ra rb imm s
  | .nSar c t rd ra rb imm => Sys2Proof.Machine.execNSar c t rd ra rb imm s
  | .nSari c t rd ra rb imm => Sys2Proof.Machine.execNSari c t rd ra rb imm s
  | .nRol c t rd ra rb imm => Sys2Proof.Machine.execNRol c t rd ra rb imm s
  | .nRoli c t rd ra rb imm => Sys2Proof.Machine.execNRoli c t rd ra rb imm s
  | .nRor c t rd ra rb imm => Sys2Proof.Machine.execNRor c t rd ra rb imm s
  | .nRori c t rd ra rb imm => Sys2Proof.Machine.execNRori c t rd ra rb imm s
  | .nNeg c t rd ra rb imm => Sys2Proof.Machine.execNNeg c t rd ra rb imm s
  | .nAbs c t rd ra rb imm => Sys2Proof.Machine.execNAbs c t rd ra rb imm s
  | .nMulu c t rd ra rb imm => Sys2Proof.Machine.execNMulu c t rd ra rb imm s
  | .nMuls c t rd ra rb imm => Sys2Proof.Machine.execNMuls c t rd ra rb imm s
  | .nDivu c t rd ra rb imm => Sys2Proof.Machine.execNDivu c t rd ra rb imm s
  | .nDivs c t rd ra rb imm => Sys2Proof.Machine.execNDivs c t rd ra rb imm s
  | .nRdsw c t rd ra rb imm => Sys2Proof.Machine.execNRdsw c t rd ra rb imm s
  | .nWrsw c t rd ra rb imm => Sys2Proof.Machine.execNWrsw c t rd ra rb imm s
  | .nLd c t rd ra rb imm => Sys2Proof.Machine.execNLd c t rd ra rb imm s
  | .nSt c t rd ra rb imm => Sys2Proof.Machine.execNSt c t rd ra rb imm s
  | .nLdn c t rd ra rb imm => Sys2Proof.Machine.execNLdn c t rd ra rb imm s
  | .nLdb c t rd ra rb imm => Sys2Proof.Machine.execNLdb c t rd ra rb imm s
  | .nLdw c t rd ra rb imm => Sys2Proof.Machine.execNLdw c t rd ra rb imm s
  | .nStn c t rd ra rb imm => Sys2Proof.Machine.execNStn c t rd ra rb imm s
  | .nStb c t rd ra rb imm => Sys2Proof.Machine.execNStb c t rd ra rb imm s
  | .nStw c t rd ra rb imm => Sys2Proof.Machine.execNStw c t rd ra rb imm s
  | .nSts c t rd ra rb imm => Sys2Proof.Machine.execNSts c t rd ra rb imm s
  | .nFss c t rd ra rb imm => Sys2Proof.Machine.execNFss c t rd ra rb imm s
  | .nTake c t rd ra rb imm => Sys2Proof.Machine.execNTake c t rd ra rb imm s
  | .nDrop c t rd ra rb imm => Sys2Proof.Machine.execNDrop c t rd ra rb imm s
  | .nEmit c t rd ra rb imm => Sys2Proof.Machine.execNEmit c t rd ra rb imm s
  | .nGetm c t rd ra rb imm => Sys2Proof.Machine.execNGetm c t rd ra rb imm s
  | .nSetm c t rd ra rb imm => Sys2Proof.Machine.execNSetm c t rd ra rb imm s
  | .nAdjh c t rd ra rb imm => Sys2Proof.Machine.execNAdjh c t rd ra rb imm s
  | .nEng c t rd ra rb imm => Sys2Proof.Machine.execNEng c t rd ra rb imm s
  | .nTreq c t rd ra rb imm => Sys2Proof.Machine.execNTreq c t rd ra rb imm s
  | .nBr c t rd ra rb imm => Sys2Proof.Machine.execNBr c t rd ra rb imm s
  | .nJal c t rd ra rb imm => Sys2Proof.Machine.execNJal c t rd ra rb imm s
  | .nJr c t rd ra rb imm => Sys2Proof.Machine.execNJr c t rd ra rb imm s
  | .nSleep c t rd ra rb imm => Sys2Proof.Machine.execNSleep c t rd ra rb imm s
  | .nTrap c t rd ra rb imm => Sys2Proof.Machine.execNTrap c t rd ra rb imm s
  | .nPgr c t rd ra rb imm rivals => Sys2Proof.Machine.execNPgr c t rd ra rb imm rivals s
  | .nPgw c t rd ra rb imm rivals => Sys2Proof.Machine.execNPgw c t rd ra rb imm rivals s
  | .islSleepRequest m v rivals => Sys2Proof.Machine.execIslSleepRequest m v rivals s
  | .islSleepEnter i1 => Sys2Proof.Machine.execIslSleepEnter i1 s
  | .islRunRequest m v rivals => Sys2Proof.Machine.execIslRunRequest m v rivals s
  | .islWake i1 row => Sys2Proof.Machine.execIslWake i1 row s
  | .wakeTimerMatch => Sys2Proof.Machine.execWakeTimerMatch s
  | .plChangeRequest pl1 m v rivals => Sys2Proof.Machine.execPlChangeRequest pl1 m v rivals s
  | .regulatorStep mv => Sys2Proof.Machine.execRegulatorStep mv s
  | .regulatorStepFail noAck revertFails => Sys2Proof.Machine.execRegulatorStepFail noAck revertFails s
  | .regFaultShutdown => Sys2Proof.Machine.execRegFaultShutdown s
  | .pllChangeDone => Sys2Proof.Machine.execPllChangeDone s
  | .clkSwitch i1 pll => Sys2Proof.Machine.execClkSwitch i1 pll s
  | .muxStuck i1 => Sys2Proof.Machine.execMuxStuck i1 s
  | .refLost => Sys2Proof.Machine.execRefLost s
  | .pllUnlock i1 => Sys2Proof.Machine.execPllUnlock i1 s
  | .bridgeAccessTimeout p => Sys2Proof.Machine.execBridgeAccessTimeout p s
  | .drainLimitExpiry i1 => Sys2Proof.Machine.execDrainLimitExpiry i1 s
  | .mgtWatchdogExpiry => Sys2Proof.Machine.execMgtWatchdogExpiry s
  | .upSend f m rivals => Sys2Proof.Machine.execUpSend f m rivals s
  | .upAck f m rivals => Sys2Proof.Machine.execUpAck f m rivals s
  | .downSend f m rivals => Sys2Proof.Machine.execDownSend f m rivals s
  | .downAck f m rivals => Sys2Proof.Machine.execDownAck f m rivals s
  | .mupSend f m rivals => Sys2Proof.Machine.execMupSend f m rivals s
  | .mupAck f m rivals => Sys2Proof.Machine.execMupAck f m rivals s
  | .mdownSend f m rivals => Sys2Proof.Machine.execMdownSend f m rivals s
  | .mdownAck f m rivals => Sys2Proof.Machine.execMdownAck f m rivals s
  | .toSupSend c m rivals => Sys2Proof.Machine.execToSupSend c m rivals s
  | .toSupAck c m rivals => Sys2Proof.Machine.execToSupAck c m rivals s
  | .fromSupSend c m rivals => Sys2Proof.Machine.execFromSupSend c m rivals s
  | .fromSupAck c m rivals => Sys2Proof.Machine.execFromSupAck c m rivals s
  | .sensorSample k v w => Sys2Proof.Machine.execSensorSample k v w s
  | .lidOpen => Sys2Proof.Machine.execLidOpen s
  | .meterCover opened => Sys2Proof.Machine.execMeterCover opened s
  | .logBurstTimer => Sys2Proof.Machine.execLogBurstTimer s
  | .logRepeatWindowEnd p bit => Sys2Proof.Machine.execLogRepeatWindowEnd p bit s
  | .logReadSelect m v rivals => Sys2Proof.Machine.execLogReadSelect m v rivals s
  | .imgBegin m v rivals => Sys2Proof.Machine.execImgBegin m v rivals s
  | .imgWrite m v data hostError rivals => Sys2Proof.Machine.execImgWrite m v data hostError rivals s
  | .imgVerify m v sigs rivals => Sys2Proof.Machine.execImgVerify m v sigs rivals s
  | .imgTrial m v rivals => Sys2Proof.Machine.execImgTrial m v rivals s
  | .imgConfirm m v rivals => Sys2Proof.Machine.execImgConfirm m v rivals s
  | .imgConfirmRaise m v rivals => Sys2Proof.Machine.execImgConfirmRaise m v rivals s
  | .imgAbort m v rivals => Sys2Proof.Machine.execImgAbort m v rivals s
  | .imgKeys m v pkg sigOk hostError rivals => Sys2Proof.Machine.execImgKeys m v pkg sigOk hostError rivals s
  | .trialExpired => Sys2Proof.Machine.execTrialExpired s
  | .krdsHandshake id certOk operate peer => Sys2Proof.Machine.execKrdsHandshake id certOk operate peer s
  | .krdsSessionTimeout id => Sys2Proof.Machine.execKrdsSessionTimeout id s
  | .krdsInfo id req => Sys2Proof.Machine.execKrdsInfo id req s
  | .krdsRead id req p off count => Sys2Proof.Machine.execKrdsRead id req p off count s
  | .krdsDump id req p => Sys2Proof.Machine.execKrdsDump id req p s
  | .krdsWrite id req p off v rivals => Sys2Proof.Machine.execKrdsWrite id req p off v rivals s
  | .krdsLock id req p rivals => Sys2Proof.Machine.execKrdsLock id req p rivals s
  | .krdsUnlock id req p rivals => Sys2Proof.Machine.execKrdsUnlock id req p rivals s
  | .krdsLogRead id req seq count => Sys2Proof.Machine.execKrdsLogRead id req seq count s
  | .krdsSensors id req => Sys2Proof.Machine.execKrdsSensors id req s
  | .krdsImage id req v off data sigs => Sys2Proof.Machine.execKrdsImage id req v off data sigs s
  | .krdsUnitReset id req v rivals => Sys2Proof.Machine.execKrdsUnitReset id req v rivals s
  | .krdsColdReset id req i1 => Sys2Proof.Machine.execKrdsColdReset id req i1 s
  | .krdsClkSwitch id req i1 pll => Sys2Proof.Machine.execKrdsClkSwitch id req i1 pll s
  | .krdsHostWake id req => Sys2Proof.Machine.execKrdsHostWake id req s
  | .krdsMbxSend id req k text => Sys2Proof.Machine.execKrdsMbxSend id req k text s
  | .krdsYem id req line rivals => Sys2Proof.Machine.execKrdsYem id req line rivals s
  | .krdsSaf id req op off final body sig slot => Sys2Proof.Machine.execKrdsSaf id req op off final body sig slot s
  | .krdsClose id req => Sys2Proof.Machine.execKrdsClose id req s
  | .krdsKeys id req off final part sigOk => Sys2Proof.Machine.execKrdsKeys id req off final part sigOk s
  | .consoleSessionStart => Sys2Proof.Machine.execConsoleSessionStart s
  | .consoleBreak => Sys2Proof.Machine.execConsoleBreak s
  | .consoleIdleTimeout => Sys2Proof.Machine.execConsoleIdleTimeout s
  | .yemHelp => Sys2Proof.Machine.execYemHelp s
  | .yemInfo => Sys2Proof.Machine.execYemInfo s
  | .yemRd p off count => Sys2Proof.Machine.execYemRd p off count s
  | .yemDump p => Sys2Proof.Machine.execYemDump p s
  | .yemWr p off v rivals => Sys2Proof.Machine.execYemWr p off v rivals s
  | .yemLock p rivals => Sys2Proof.Machine.execYemLock p rivals s
  | .yemUnlock p rivals => Sys2Proof.Machine.execYemUnlock p rivals s
  | .yemLog seq count => Sys2Proof.Machine.execYemLog seq count s
  | .yemSens => Sys2Proof.Machine.execYemSens s
  | .yemReset keepRing selMgt rivals => Sys2Proof.Machine.execYemReset keepRing selMgt rivals s
  | .yemCold i1 => Sys2Proof.Machine.execYemCold i1 s
  | .yemClk i1 pll => Sys2Proof.Machine.execYemClk i1 pll s
  | .yemWake => Sys2Proof.Machine.execYemWake s
  | .yemTwp => Sys2Proof.Machine.execYemTwp s
  | .yemBye => Sys2Proof.Machine.execYemBye s
  | .rinfo => Sys2Proof.Machine.execRinfo s
  | .rload setB => Sys2Proof.Machine.execRload setB s
  | .xmodemBlock num data crcOk final sigs => Sys2Proof.Machine.execXmodemBlock num data crcOk final sigs s
  | .rboot => Sys2Proof.Machine.execRboot s
  | .twpTransaction addr read ptr => Sys2Proof.Machine.execTwpTransaction addr read ptr s
  | .twpRegisterFetch rivals => Sys2Proof.Machine.execTwpRegisterFetch rivals s
  | .twpRegisterWrite bytes rivals => Sys2Proof.Machine.execTwpRegisterWrite bytes rivals s
  | .stretchCut => Sys2Proof.Machine.execStretchCut s
  | .busHeld => Sys2Proof.Machine.execBusHeld s
  | .busFree => Sys2Proof.Machine.execBusFree s
  | .twpSummaryRefresh => Sys2Proof.Machine.execTwpSummaryRefresh s
  | .safPublish => Sys2Proof.Machine.execSafPublish s
  | .safStart copies => Sys2Proof.Machine.execSafStart copies s
  | .estopInputChange inB active quiet => Sys2Proof.Machine.execEstopInputChange inB active quiet s
  | .estopRawChange inB high recent => Sys2Proof.Machine.execEstopRawChange inB high recent s
  | .discrepancy => Sys2Proof.Machine.execDiscrepancy s
  | .localReset ms => Sys2Proof.Machine.execLocalReset ms s
  | .enrollConfirmation sec => Sys2Proof.Machine.execEnrollConfirmation sec s
  | .kptRx id => Sys2Proof.Machine.execKptRx id s
  | .heartbeat tel => Sys2Proof.Machine.execHeartbeat tel s
  | .stopTelegram tel => Sys2Proof.Machine.execStopTelegram tel s
  | .release tel => Sys2Proof.Machine.execRelease tel s
  | .dyingGasp tel => Sys2Proof.Machine.execDyingGasp tel s
  | .telegramCycleEnd => Sys2Proof.Machine.execTelegramCycleEnd s
  | .kptWatchdogExpiry k => Sys2Proof.Machine.execKptWatchdogExpiry k s
  | .safeOutTest ok => Sys2Proof.Machine.execSafeOutTest ok s
  | .outSupplyLow mv => Sys2Proof.Machine.execOutSupplyLow mv s
  | .outSupplyRestored mv => Sys2Proof.Machine.execOutSupplyRestored mv s
  | .safInternalFault => Sys2Proof.Machine.execSafInternalFault s
  | .safRestartDone within => Sys2Proof.Machine.execSafRestartDone within s
  | .enroll slot key seq => Sys2Proof.Machine.execEnroll slot key seq s
  | .enrollTimeout => Sys2Proof.Machine.execEnrollTimeout s
  | .propose block slot sigOk seq => Sys2Proof.Machine.execPropose block slot sigOk seq s
  | .safConfirm slot sigOk seq => Sys2Proof.Machine.execSafConfirm slot sigOk seq s
  | .cancel seq => Sys2Proof.Machine.execCancel seq s
  | .safStatus session => Sys2Proof.Machine.execSafStatus session s
  | .proposalExpiry => Sys2Proof.Machine.execProposalExpiry s
  | .calibrationSlot ppmMoved matched => Sys2Proof.Machine.execCalibrationSlot ppmMoved matched s
  | .energyIntegrate p q volts amps => Sys2Proof.Machine.execEnergyIntegrate p q volts amps s
  | .intervalRecord => Sys2Proof.Machine.execIntervalRecord s
  | .dailyRecord => Sys2Proof.Machine.execDailyRecord s
  | .metPublish => Sys2Proof.Machine.execMetPublish s
  | .readRecord => Sys2Proof.Machine.execReadRecord s
  | .timeProposal ptpNs state => Sys2Proof.Machine.execTimeProposal ptpNs state s
  | .ping => Sys2Proof.Machine.execPing s
  | .meterLost => Sys2Proof.Machine.execMeterLost s
  | .meterSlewEnd => Sys2Proof.Machine.execMeterSlewEnd s
  | .meterSupplyLost => Sys2Proof.Machine.execMeterSupplyLost s
  | .meterHoldupEnd => Sys2Proof.Machine.execMeterHoldupEnd s
  | .meterSupplyRestored seconds => Sys2Proof.Machine.execMeterSupplyRestored seconds s
  | .phaseLoss phase began => Sys2Proof.Machine.execPhaseLoss phase began s
  | .terminalCoverOpened opened => Sys2Proof.Machine.execTerminalCoverOpened opened s
  | .displayButton held3s => Sys2Proof.Machine.execDisplayButton held3s s
  | .displayTimeout => Sys2Proof.Machine.execDisplayTimeout s
  | .meterModuleReplace id fw pubkey => Sys2Proof.Machine.execMeterModuleReplace id fw pubkey s
  | .inputNotGood i1 x => Sys2Proof.Machine.execInputNotGood i1 x s
  | .captestRetry => Sys2Proof.Machine.execCaptestRetry s
  | .pduR2tRx conn cid off len => Sys2Proof.Machine.execPduR2tRx conn cid off len s
  | .meterServicePortChange firmware setting old new => Sys2Proof.Machine.execMeterServicePortChange firmware setting old new s
  | .meterClockBackupExhausted => Sys2Proof.Machine.execMeterClockBackupExhausted s
  | .clkMonitorWindow edges => Sys2Proof.Machine.execClkMonitorWindow edges s

end Sys2Proof.Machine
end

