-- ==== Sys2Proof/WellFormed.lean ====
section
/-!
DEFINITION. WellFormed.lean: which commands the unit's environment can send: operands inside the ranges their encodings allow. No
meaning rests on it: a command outside it acts as its meaning says.
-/
namespace Sys2Proof

/-- An access of 1 to 8 bytes. -/
def sizeOk (n : Nat) : Bool := decide (1 ≤ n) && decide (n ≤ 8)

/-- A request is 1 to 8 bytes wide, and a lock read covers byte 0x024 (R20, R36). -/
def Req.ok (r : Req) : Bool :=
  sizeOk r.width && (match r.kind with | .write _ => true | .lockRead => decide (r.off.toNat ≤ 0x24) && decide (0x24 < r.off.toNat + r.width))

/-- The requests of a page cycle. -/
def reqsOk (l : List Req) : Bool := l.all Req.ok

/-- Is a command one that the environment can send? -/
def Instr.wf (i : Instr) : Bool :=
  match i with
  | .registerWrite p reqs => !reqs.here.isEmpty && reqsOk reqs.here && decide (p :: reqs.also.map (·.1)).Nodup &&
      reqs.also.all (fun x => !x.2.isEmpty && reqsOk x.2)
  | .lockRead _ _ rivals => reqsOk rivals
  | .lockRelease _ _ _ rivals => reqsOk rivals
  | .rcFieldRead _ _ _ width => sizeOk width
  | .conflictClear _ _ rivals => reqsOk rivals
  | .ownerWrite _ _ _ rivals => reqsOk rivals
  | .freezeSnapshot _ _ _ rivals => reqsOk rivals
  | .freezeTimeout _ => true
  | .inputLost _ _ => true
  | .inputReturned _ _ => true
  | .inputGood _ _ => true
  | .mainsLoss => true
  | .shedIslands => true
  | .gaugeLowShed => true
  | .shedRingDrop => true
  | .storeExhausted => true
  | .gaugeUpdate _ _ => true
  | .flashBurstRequest _ _ => true
  | .flashBurstDone _ _ _ _ => true
  | .captestPeriodExpiry => true
  | .captestStart _ rivals => reqsOk rivals
  | .captestDone _ => true
  | .holdupTestStale => true
  | .mainsColdStart => true
  | .unitReadyAssert _ => true
  | .readyLate => true
  | .unitResetGo _ _ rivals => reqsOk rivals
  | .unitResetExtend _ _ rivals => reqsOk rivals
  | .hostLinkReset _ => true
  | .perstDeassert => true
  | .functionLevelReset _ => true
  | .funcResetGo _ _ rivals => reqsOk rivals
  | .funcResetDone _ => true
  | .islandColdReset _ _ rivals => reqsOk rivals
  | .coldrstDone _ => true
  | .linkTrainingStart => true
  | .linkUp gen width => decide (1 ≤ gen) && decide (gen ≤ 5) && [1, 2, 4, 8, 16].contains width
  | .configWrite _ _ _ => true
  | .vfEnable => true
  | .d3hotWrite _ => true
  | .d3hotEntered _ => true
  | .d0Write _ => true
  | .barAccess _ bar _ width _ _ => decide (bar ≤ 5) && sizeOk width
  | .readCompletion _ _ => true
  | .completionTimeout _ => true
  | .msixUnmask _ v => decide (v < 2048)
  | .l1Entry sub => decide (sub ≤ 2)
  | .ltrSend => true
  | .pmeStatusSet src _ => decide (src ≤ 2)
  | .pmeResend _ => true
  | .funcStall _ => true
  | .queueEnable _ _ rivals => reqsOk rivals
  | .wqDoorbell _ _ width _ => sizeOk width
  | .cqDoorbell _ _ width _ => sizeOk width
  | .wqPoll _ _ => true
  | .descriptorReadReturn _ descs => descs.all (fun d => decide (d.length = 16) || decide (d.length = 32))
  | .txd _ _ _ => true
  | .nopDescriptor _ _ => true
  | .completionWrite _ _ => true
  | .rxDelivery _ _ => true
  | .rxBufferTimeout _ _ => true
  | .hamBurstRequest _ _ _ _ => true
  | .hamBurstAged _ => true
  | .hamTransfer _ chan => decide (chan < 19)
  | .cellRelease _ => true
  | .hamScrub _ _ => true
  | .hamChanCfgWrite _ _ _ rivals => reqsOk rivals
  | .frameIngressDecide _ _ _ => true
  | .frameEndCheck _ _ _ _ _ => true
  | .portCfgWrite _ _ _ rivals => reqsOk rivals
  | .moduleChange _ _ _ info => decide (info.ident.length = 48)
  | .linkChange _ _ _ _ => true
  | .pauseRx _ _ _ => true
  | .pauseTimerExpiry _ _ => true
  | .pauseXoff _ _ => true
  | .pauseRepeat _ _ => true
  | .pauseXon _ _ => true
  | .pauseStorm _ => true
  | .flap _ _ rivals => reqsOk rivals
  | .steerWordAWrite _ _ _ _ rivals => reqsOk rivals
  | .steerWordBWrite _ _ _ _ rivals => reqsOk rivals
  | .frameTransmit _ => true
  | .ptpCfgWrite _ _ rivals => reqsOk rivals
  | .ptpStep _ _ rivals => reqsOk rivals
  | .ptpMessageRx _ _ _ => true
  | .announceReceiptTimeout => true
  | .ptpTimeRead _ => true
  | .txtsPop _ rivals => reqsOk rivals
  | .gatePegAdvance _ => true
  | .arm _ _ rivals => reqsOk rivals
  | .disarm _ _ rivals => reqsOk rivals
  | .gateSwap _ => true
  | .gatePegDataAccess _ _ _ _ rivals => reqsOk rivals
  | .ringCfgWrite _ _ rivals => reqsOk rivals
  | .hsrSupervisionTx => true
  | .hsrRx _ => true
  | .ddEntryExpire _ => true
  | .prpRx _ => true
  | .ringOpen _ => true
  | .ringClosed _ => true
  | .macLearn _ _ _ => true
  | .ageingTick => true
  | .tblSearch _ _ rivals => reqsOk rivals
  | .tblNext _ _ rivals => reqsOk rivals
  | .tblInsert _ _ rivals => reqsOk rivals
  | .tblDelete _ _ rivals => reqsOk rivals
  | .tblWring _ _ rivals => reqsOk rivals
  | .cmdDone => true
  | .tblDmaLockWrite _ _ rivals => reqsOk rivals
  | .tblDmaStart _ _ rivals => reqsOk rivals
  | .dmaDone _ _ => true
  | .tblLockBreak _ => true
  | .darnVisit _ => true
  | .darnRecheck _ => true
  | .tblScrub _ _ errs => decide (1 ≤ errs)
  | .tunEncWrite _ rivals => reqsOk rivals
  | .tunEncRead _ rivals => reqsOk rivals
  | .tunnelDecap _ _ => true
  | .macsecRxVerify _ _ _ => true
  | .espInbound _ _ _ => true
  | .pnWarn _ => true
  | .saExhausted _ => true
  | .keyLoad _ _ rivals => reqsOk rivals
  | .keyStageTimeout => true
  | .keySlotZeroised _ => true
  | .cryNotePop _ rivals => reqsOk rivals
  | .seal _ _ _ _ => true
  | .cryOpen _ _ _ _ => true
  | .stoConnWrite _ rivals => reqsOk rivals
  | .stoConnRead _ rivals => reqsOk rivals
  | .stoConnOpen _ rivals => reqsOk rivals
  | .stoConnClose _ rivals => reqsOk rivals
  | .icrespRx _ _ _ _ _ _ => true
  | .stoOpenTimeout _ => true
  | .closeWaitEnd _ => true
  | .finAckTimeout _ => true
  | .tcpRetransmitTimeout _ => true
  | .tcpSegmentRx _ _ _ _ _ => true
  | .rstRx _ => true
  | .finRx _ => true
  | .c2htermreqRx _ _ => true
  | .stoOpStart _ _ sqe => decide (sqe.length = 64)
  | .c2hdataRx _ cid _ _ _ _ _ => decide (cid < 65536)
  | .capsulerespRx _ cid cqe => decide (cid < 65536) && decide (cqe.length = 16)
  | .stoCmdTimeout _ cid => decide (cid < 65536)
  | .frameDispatch _ => true
  | .windowRoom _ _ => true
  | .orderGateRelease _ => true
  | .holdLimit _ _ _ => true
  | .tableAnswer _ => true
  | .engineAccept _ => true
  | .sleepExpiry _ _ => true
  | .nycLoadStart _ _ _ rivals => reqsOk rivals
  | .loadDone _ _ _ _ => true
  | .thStart _ _ rivals => reqsOk rivals
  | .thStop _ _ rivals => reqsOk rivals
  | .thRestart _ _ rivals => reqsOk rivals
  | .fltPop _ _ rivals => reqsOk rivals
  | .resume _ _ rivals => reqsOk rivals
  | .nycHpWrite _ _ _ _ rivals => reqsOk rivals
  | .nNop _ _ _ _ _ _ => true
  | .nLi _ _ _ _ _ _ => true
  | .nAdd _ _ _ _ _ _ => true
  | .nAddi _ _ _ _ _ _ => true
  | .nAdc _ _ _ _ _ _ => true
  | .nAdci _ _ _ _ _ _ => true
  | .nSub _ _ _ _ _ _ => true
  | .nSubi _ _ _ _ _ _ => true
  | .nSbc _ _ _ _ _ _ => true
  | .nSbci _ _ _ _ _ _ => true
  | .nAnd _ _ _ _ _ _ => true
  | .nAndi _ _ _ _ _ _ => true
  | .nOr _ _ _ _ _ _ => true
  | .nOri _ _ _ _ _ _ => true
  | .nXor _ _ _ _ _ _ => true
  | .nXori _ _ _ _ _ _ => true
  | .nCmp _ _ _ _ _ _ => true
  | .nCmpi _ _ _ _ _ _ => true
  | .nShl _ _ _ _ _ _ => true
  | .nShli _ _ _ _ _ _ => true
  | .nShr _ _ _ _ _ _ => true
  | .nShri _ _ _ _ _ _ => true
  | .nSar _ _ _ _ _ _ => true
  | .nSari _ _ _ _ _ _ => true
  | .nRol _ _ _ _ _ _ => true
  | .nRoli _ _ _ _ _ _ => true
  | .nRor _ _ _ _ _ _ => true
  | .nRori _ _ _ _ _ _ => true
  | .nNeg _ _ _ _ _ _ => true
  | .nAbs _ _ _ _ _ _ => true
  | .nMulu _ _ _ _ _ _ => true
  | .nMuls _ _ _ _ _ _ => true
  | .nDivu _ _ _ _ _ _ => true
  | .nDivs _ _ _ _ _ _ => true
  | .nRdsw _ _ _ _ _ _ => true
  | .nWrsw _ _ _ _ _ _ => true
  | .nLd _ _ _ _ _ _ => true
  | .nSt _ _ _ _ _ _ => true
  | .nLdn _ _ _ _ _ _ => true
  | .nLdb _ _ _ _ _ _ => true
  | .nLdw _ _ _ _ _ _ => true
  | .nStn _ _ _ _ _ _ => true
  | .nStb _ _ _ _ _ _ => true
  | .nStw _ _ _ _ _ _ => true
  | .nSts _ _ _ _ _ _ => true
  | .nFss _ _ _ _ _ _ => true
  | .nTake _ _ _ _ _ _ => true
  | .nDrop _ _ _ _ _ _ => true
  | .nEmit _ _ _ _ _ _ => true
  | .nGetm _ _ _ _ _ _ => true
  | .nSetm _ _ _ _ _ _ => true
  | .nAdjh _ _ _ _ _ _ => true
  | .nEng _ _ _ _ _ _ => true
  | .nTreq _ _ _ _ _ _ => true
  | .nBr _ _ _ _ _ _ => true
  | .nJal _ _ _ _ _ _ => true
  | .nJr _ _ _ _ _ _ => true
  | .nSleep _ _ _ _ _ _ => true
  | .nTrap _ _ _ _ _ _ => true
  | .nPgr _ _ _ _ _ _ rivals => reqsOk rivals
  | .nPgw _ _ _ _ _ _ rivals => reqsOk rivals
  | .islSleepRequest _ _ rivals => reqsOk rivals
  | .islSleepEnter _ => true
  | .islRunRequest _ _ rivals => reqsOk rivals
  | .islWake _ _ => true
  | .wakeTimerMatch => true
  | .plChangeRequest _ _ _ rivals => reqsOk rivals
  | .regulatorStep _ => true
  | .regulatorStepFail _ _ => true
  | .regFaultShutdown => true
  | .pllChangeDone => true
  | .clkSwitch _ _ => true
  | .muxStuck _ => true
  | .refLost => true
  | .pllUnlock _ => true
  | .bridgeAccessTimeout _ => true
  | .drainLimitExpiry _ => true
  | .mgtWatchdogExpiry => true
  | .upSend _ _ rivals => reqsOk rivals
  | .upAck _ _ rivals => reqsOk rivals
  | .downSend _ _ rivals => reqsOk rivals
  | .downAck _ _ rivals => reqsOk rivals
  | .mupSend _ _ rivals => reqsOk rivals
  | .mupAck _ _ rivals => reqsOk rivals
  | .mdownSend _ _ rivals => reqsOk rivals
  | .mdownAck _ _ rivals => reqsOk rivals
  | .toSupSend _ _ rivals => reqsOk rivals
  | .toSupAck _ _ rivals => reqsOk rivals
  | .fromSupSend _ _ rivals => reqsOk rivals
  | .fromSupAck _ _ rivals => reqsOk rivals
  | .sensorSample _ _ _ => true
  | .lidOpen => true
  | .meterCover _ => true
  | .logBurstTimer => true
  | .logRepeatWindowEnd _ _ => true
  | .logReadSelect _ _ rivals => reqsOk rivals
  | .imgBegin _ _ rivals => reqsOk rivals
  | .imgWrite _ _ data _ rivals => decide (data.length ≤ 1048576) && reqsOk rivals
  | .imgVerify _ _ _ rivals => reqsOk rivals
  | .imgTrial _ _ rivals => reqsOk rivals
  | .imgConfirm _ _ rivals => reqsOk rivals
  | .imgConfirmRaise _ _ rivals => reqsOk rivals
  | .imgAbort _ _ rivals => reqsOk rivals
  | .imgKeys _ _ _ _ _ rivals => reqsOk rivals
  | .trialExpired => true
  | .krdsHandshake _ _ _ _ => true
  | .krdsSessionTimeout _ => true
  | .krdsInfo _ req => decide (req < 65536)
  | .krdsRead _ req _ _ _ => decide (req < 65536)
  | .krdsDump _ req _ => decide (req < 65536)
  | .krdsWrite _ req _ _ _ rivals => decide (req < 65536) && reqsOk rivals
  | .krdsLock _ req _ rivals => decide (req < 65536) && reqsOk rivals
  | .krdsUnlock _ req _ rivals => decide (req < 65536) && reqsOk rivals
  | .krdsLogRead _ req _ _ => decide (req < 65536)
  | .krdsSensors _ req => decide (req < 65536)
  | .krdsImage _ req _ _ data _ => decide (req < 65536) && decide (data.length ≤ 1024)
  | .krdsUnitReset _ req _ rivals => decide (req < 65536) && reqsOk rivals
  | .krdsColdReset _ req _ => decide (req < 65536)
  | .krdsClkSwitch _ req _ _ => decide (req < 65536)
  | .krdsHostWake _ req => decide (req < 65536)
  | .krdsMbxSend _ req _ _ => decide (req < 65536)
  | .krdsYem _ req _ rivals => decide (req < 65536) && reqsOk rivals
  | .krdsSaf _ req op _ _ body _ slot => decide (req < 65536) && decide (op < 16) && decide (body.length ≤ 1024) && decide (slot < 4)
  | .krdsClose _ req => decide (req < 65536)
  | .krdsKeys _ req _ _ part _ => decide (req < 65536) && decide (part.length ≤ 1020)
  | .consoleSessionStart => true
  | .consoleBreak => true
  | .consoleIdleTimeout => true
  | .yemHelp => true
  | .yemInfo => true
  | .yemRd _ _ _ => true
  | .yemDump _ => true
  | .yemWr _ _ _ rivals => reqsOk rivals
  | .yemLock _ rivals => reqsOk rivals
  | .yemUnlock _ rivals => reqsOk rivals
  | .yemLog _ _ => true
  | .yemSens => true
  | .yemReset _ _ rivals => reqsOk rivals
  | .yemCold _ => true
  | .yemClk _ _ => true
  | .yemWake => true
  | .yemTwp => true
  | .yemBye => true
  | .rinfo => true
  | .rload _ => true
  | .xmodemBlock num data _ _ _ => decide (num < 256) && decide (data.length ≤ 1024)
  | .rboot => true
  | .twpTransaction _ _ _ => true
  | .twpRegisterFetch rivals => reqsOk rivals
  | .twpRegisterWrite _ rivals => reqsOk rivals
  | .stretchCut => true
  | .busHeld => true
  | .busFree => true
  | .twpSummaryRefresh => true
  | .safPublish => true
  | .safStart copies => decide (copies.length ≤ 2)
  | .estopInputChange _ _ _ => true
  | .estopRawChange _ _ _ => true
  | .discrepancy => true
  | .localReset _ => true
  | .enrollConfirmation _ => true
  | .kptRx _ => true
  | .heartbeat _ => true
  | .stopTelegram _ => true
  | .release _ => true
  | .dyingGasp _ => true
  | .telegramCycleEnd => true
  | .kptWatchdogExpiry _ => true
  | .safeOutTest _ => true
  | .outSupplyLow _ => true
  | .outSupplyRestored _ => true
  | .safInternalFault => true
  | .safRestartDone _ => true
  | .enroll _ _ _ => true
  | .enrollTimeout => true
  | .propose _ _ _ _ => true
  | .safConfirm _ _ _ => true
  | .cancel _ => true
  | .safStatus _ => true
  | .proposalExpiry => true
  | .calibrationSlot _ _ => true
  | .energyIntegrate _ _ volts amps => decide (volts.length = 3) && decide (amps.length = 3)
  | .intervalRecord => true
  | .dailyRecord => true
  | .metPublish => true
  | .readRecord => true
  | .timeProposal _ _ => true
  | .ping => true
  | .meterLost => true
  | .meterSlewEnd => true
  | .meterSupplyLost => true
  | .meterHoldupEnd => true
  | .meterSupplyRestored _ => true
  | .phaseLoss _ _ => true
  | .terminalCoverOpened _ => true
  | .displayButton _ => true
  | .displayTimeout => true
  | .meterModuleReplace _ _ _ => true
  | .inputNotGood _ _ => true
  | .captestRetry => true
  | .pduR2tRx _ cid _ _ => decide (cid < 65536)
  | .meterServicePortChange _ _ _ _ => true
  | .meterClockBackupExhausted => true
  | .clkMonitorWindow _ => true

end Sys2Proof
end

