-- ==== Sys2Proof/Safety.lean ====
section
/-!
DEFINITION. Safety.lean: what the statements call a safe state, the parts of the state a frame speaks of, and when a page's
arbiter applies a request.
-/
namespace Sys2Proof.Machine

open Sys2Proof

/-! ## Safe states -/

/-- SAFE_OUT can be energised only in a running safety partition with no cause set (R413, R416): while either switch is closed, no cause
bit is set and the self-test has ended. -/
def State.outSafe (s : State) : Prop := (s.saf.high = true ∨ s.saf.low = true) → s.saf.cause = 0 ∧ s.saf.started = true

/-- At most four KRDS sessions exist, and each holds at most its last 16 responses (R389, R390). -/
def State.sessionsOk (s : State) : Prop := s.krds.length ≤ 4 ∧ ∀ x ∈ s.krds, x.past.length ≤ 16

/-- The register map and the lock map are in their canonical form: keys strictly rising. -/
def State.sorted (s : State) : Prop := Sparse.sorted s.regs = true ∧ Sparse.sorted s.locks = true

/-- A step that goes on. -/
def State.goesTo (s t : State) : Prop := step s = .next t

/-! ## Frames -/

/-- The parts of the state. -/
inductive Area where
  | regs | locks | snaps | held | log | pwr | boot | keys | fram | isl | clk | host | funcs | queues | ham |
    frames | nextId | ports | gates | ptp | ring | tbl | cry | tun | sto | nyate | krds | console | twp | sens
    | safBox | saf | meter | out | pending
  deriving DecidableEq, Repr

/-- A part of t is as it is in s. -/
def Area.same (s t : State) : Area → Prop
  | .regs => t.regs = s.regs
  | .locks => t.locks = s.locks
  | .snaps => t.snaps = s.snaps
  | .held => t.held = s.held
  | .log => t.log = s.log
  | .pwr => t.pwr = s.pwr
  | .boot => t.boot = s.boot
  | .keys => t.keys = s.keys
  | .fram => t.fram = s.fram
  | .isl => t.isl = s.isl
  | .clk => t.clk = s.clk
  | .host => t.host = s.host
  | .funcs => t.funcs = s.funcs
  | .queues => t.queues = s.queues
  | .ham => t.ham = s.ham
  | .frames => t.frames = s.frames
  | .nextId => t.nextId = s.nextId
  | .ports => t.ports = s.ports
  | .gates => t.gates = s.gates
  | .ptp => t.ptp = s.ptp
  | .ring => t.ring = s.ring
  | .tbl => t.tbl = s.tbl
  | .cry => t.cry = s.cry
  | .tun => t.tun = s.tun
  | .sto => t.sto = s.sto
  | .nyate => t.nyate = s.nyate
  | .krds => t.krds = s.krds
  | .console => t.console = s.console
  | .twp => t.twp = s.twp
  | .sens => t.sens = s.sens
  | .safBox => t.safBox = s.safBox
  | .saf => t.saf = s.saf
  | .meter => t.meter = s.meter
  | .out => t.out = s.out
  | .pending => t.pending = s.pending

/-- Every part of t but those listed is as it is in s. -/
def State.keeps (s t : State) (l : List Area) : Prop := ∀ a : Area, a ∉ l → a.same s t

/-- Every register but those listed (a page and an offset each) reads as before. -/
def State.keepsRegs (s t : State) (l : List (Page × Nat)) : Prop :=
  ∀ (q : Page) (o : Nat), (∀ x ∈ l, regKey q o ≠ regKey x.1 x.2) → t.reg q o = s.reg q o

/-- The registers of log and arbiter that recording the discards of a page cycle of p can change (R34, R47, R377). -/
def discardRegs (p : Page) : List (Page × Nat) :=
  [(p, 0x28), (.prec, 0x60), (.prec, 0x64), (.prec, 0x6C), (.prec, 0x10), (.log, 0x4C), (.log, 0x10)]

/-- The registers that raising an event of p can change: its event register, LOG_LOST, and LOG's event register (R46, R377). -/
def eventRegs (p : Page) : List (Page × Nat) := [(p, 0x10), (.log, 0x4C), (.log, 0x10)]

/-! ## The page arbiter -/

/-- The island takes an access as it is: neither asleep, off or in a cold reset, nor without a clock (R359). -/
def State.takes (s : State) (i : Island) : Prop :=
  (s.island i).cold = false ∧ (s.island i).mode = .active ∧ (s.island i).noClock = false

/-- The page cycle takes the requests, and the write of v at `off` by m is the one it applies (R32), TEMP_CRIT not standing
(R374). -/
def State.grants (s : State) (p : Page) (off : Nat) (m : Master) (v : Word) (rivals : List Req) : Prop :=
  s.takes (accessIsland p off) ∧ s.sens.hot = false ∧ s.winner p (wr m off v :: rivals) = some (wr m off v)

/-- The registers whose write only stores the fields that it may write (their access codes, R8 and R9): every one but those that the
definitions of a page's writes name. -/
def plainReg (p : Page) (off : Nat) : Prop :=
  off = 0x10 ∨ off = 0x1C ∨ 0x40 ≤ off ∧
    match p with
    | .unit => off ≠ 0x4C
    | .pwr => off ≠ 0x60
    | .func _ => off ≠ 0x58 ∧ off ≠ 0x114
    | .mbx _ => off ≠ 0x44 ∧ (off < 0x80 ∨ 0x180 ≤ off)
    | .ham => off < 0x100
    | .port _ => off ≠ 0x40 ∧ off ≠ 0x4C ∧ off < 0x800
    | .gate _ => (off < 0x58 ∨ 0x64 < off) ∧ off ≠ 0x68 ∧ off ≠ 0x70
    | .ring | .mbxMet | .yem => off ≠ 0x40
    | .ptp => off ≠ 0x40 ∧ off ≠ 0x58 ∧ off ≠ 0x5C ∧ off ≠ 0x80
    | .tbl => off ≠ 0x40 ∧ off ≠ 0xC0 ∧ off ≠ 0xCC
    | .cry => (off < 0x80 ∨ 0xAC ≤ off) ∧ off ≠ 0xB0 ∧ off ≠ 0x74
    | .tun => off ≠ 0x4C
    | .sto | .clk | .img => off ≠ 0x44
    | .nyc _ => off ≠ 0x44 ∧ off ≠ 0x78 ∧ (off < 0x94 ∨ 0xA4 < off) ∧ off ≠ 0x204 ∧ (off < 0x240 ∨ 0x2C0 ≤ off)
    | .isl => off ∉ [0x48, 0x4C, 0x50, 0x54, 0x68, 0x70, 0x74]
    | .mgt => 0x50 ≤ off
    | .log => off ≠ 0x50
    | _ => True

/-! ## Islands and levels -/

/-- The registers that beginning or ending a step of a level change can write (R344, R349, R352). -/
def levelRegs : List (Page × Nat) := [(.pwr, 0x80), (.pwr, 0x84), (.pwr, 0x88), (.isl, 0x50), (.clk, 0x44), (.clk, 0x48)]

/-- The field of ISL_TARGET in a word that asks for island i (R355). -/
def asked (v : Word) (i : Island) : Nat := fld v (2 * (i.num - 3) + 1) (2 * (i.num - 3))

/-- Every other field of a word written to ISL_TARGET asks RUN of an island that runs and enters no sleep. -/
def State.asksOnly (s : State) (v : Word) (i : Island) : Prop :=
  3 ≤ i.num ∧ i.num ≤ 14 ∧ ∀ k, k < 12 → k + 3 ≠ i.num →
    fld v (2 * k + 1) (2 * k) = 0 ∧ (s.island (islandOf (k + 3))).awake = true ∧ (s.island (islandOf (k + 3))).entry = .none

/-- Between s and t no island but i changed, save that a clock may have stopped or returned. -/
def State.onlyIsland (s t : State) (i : Island) : Prop :=
  ∀ j, j ≠ i → { t.island j with noClock := (s.island j).noClock } = s.island j

/-- Island i has woken in t from S1 in s, by the row of R360 given (0 a RUN written): it is ACTIVE, and the wake is shown and raised. -/
def State.woken (s t : State) (i : Island) (row : Nat) : Prop :=
  (t.island i).mode = .active ∧ (t.island i).entry = .none ∧ (t.island i).latched = 0 ∧
    (t.island i).ready = (s.island i).ready ∧ t.field .isl 0x78 19 16 = row ∧ t.field .isl 0x78 12 8 = i.num ∧
    bitOn (t.reg .isl 0x10) 1 = true ∧ s.onlyIsland t i

/-! ## Service commands -/

/-- Session x of name `id` has not had a request of this ID (R390), and its role allows the command: OPERATE, where `oper` says it is
needed (R391). -/
def State.freshRequest (s : State) (id req : Nat) (oper : Bool) (x : KrdsSession) : Prop :=
  s.session id = some x ∧ (∀ e ∈ x.past, e.1 ≠ req) ∧ (oper = true → x.operate = true)

/-- In t the request of a session x was answered with a status and a body after what u sent, stored among the last 16 responses, and t
is otherwise u (R390). -/
def State.answered (u t : State) (id req st : Nat) (body : List Word) (x : KrdsSession) : Prop :=
  t.out = .krds id req st body :: u.out ∧
    t.session id = some { x with served := x.served + 1, past := ((req, st, body) :: x.past).take 16 } ∧
    (∀ j, j ≠ id → t.session j = u.session j) ∧ u.keeps t [.krds, .out]

/-- A page whose registers a read changes nothing of, in an island that answers. -/
def State.plainPage (s : State) (p : Page) : Prop :=
  s.takes p.island ∧ p ≠ .ptp ∧ p ≠ .mgt ∧ p ≠ .hlnk ∧ ∀ q, p ≠ .gate q

/-- The console serves Yemor lines: a session is open, outside recovery (R395, R403). -/
def State.serves (s : State) : Prop := s.console.open_ = true ∧ s.boot.recovery = false

/-- The state once a console line is counted (R397, R410). -/
def State.lineBegun (s : State) : State :=
  { s with console := { s.console with served := s.console.served + 1 } }.count .yem 0x48

/-- Between u and t a status line left the console and nothing else happened. -/
def State.lineEnds (u t : State) (st : Nat) (vals : List Word) : Prop := t.out = .console st vals :: u.out ∧ u.keeps t [.out]

/-! ## Image commands -/

/-- An image command is one the unit serves: by master 1, 6 or 12, with the KEY, outside recovery (R383, R73). -/
def State.imgKeyed (s : State) (m : Master) (v : Word) : Prop := m.overseer = true ∧ fld v 31 16 = 0x494D ∧ s.boot.recovery = false

/-- Between s and t an image command ended: IMG_RESULT holds its result, CMD_DONE is raised, and no other register changed but by
events and the arbiter. -/
def State.imgAnswers (s t : State) (result : Nat) : Prop :=
  t.reg .img 0x58 = word result ∧ bitOn (t.reg .img 0x10) 0 = true ∧
    s.keepsRegs t ((.img, 0x58) :: (.img, 0x2C) :: eventRegs .img ++ discardRegs .img)

/-! ## Storage -/

/-- Connection c failed with a reason between s and t (R287): its STATE is FAILED, its operations are closed, the failure is counted and
raised, and no other connection changed. -/
def State.connFailed (s t : State) (c reason : Nat) : Prop :=
  connState (t.conn c) = 5 ∧ byteAt (t.conn c) 78 = reason ∧ (∀ o ∈ t.sto.ops, o.conn ≠ c) ∧
    (∀ o ∈ s.sto.ops, o.conn ≠ c → o ∈ t.sto.ops) ∧ t.reg .sto 0x108 = s.reg .sto 0x108 + 1 ∧ bitOn (t.reg .sto 0x10) 1 = true ∧
    (∀ d, d ≠ c → t.conn d = s.conn d) ∧ s.keepsRegs t ((.sto, 0x100) :: (.sto, 0x108) :: eventRegs .sto) ∧
    s.keeps t [.regs, .queues, .ham, .sto, .log, .host, .out]

/-! ## Nyate -/

/-- Register i of thread k of cluster c. -/
def State.treg (s : State) (c : Fin 8) (k : Fin 128) (i : BitVec 4) : NWord := (s.thread c.val k.val).r i.toNat

/-- Thread k issues this instruction: it can issue, its program counter is in range, no other instruction was loaded there, and the
fields are those the instruction's form allows (R304, R323, R329). -/
def State.issues (s : State) (c : Fin 8) (k : Fin 128) (op : Nat) (f : Form) (rd ra rb : BitVec 4) (imm : BitVec 18) : Prop :=
  s.canIssue c.val k.val = true ∧ (s.thread c.val k.val).pc < (s.thread c.val k.val).ilen ∧
    (s.thread c.val k.val).ibase + (s.thread c.val k.val).pc < 32768 ∧
    (s.fetched c.val k.val = none ∨ s.fetched c.val k.val = some (nWord op rd ra rb imm)) ∧ f.illegal rd ra rb imm = false

/-- Thread b is thread a after an instruction that wrote the registers `w` and the flags Z, N, C and V given, SO being set with V, and
moved on to the next instruction (R322, R325). -/
def Thread.after (a b : Thread) (w : List (Nat × NWord)) (z n c v : Option Bool) : Prop :=
  (∀ j : Nat, b.r j = ((w.find? (fun x => x.1 = j)).map (fun x => x.2)).getD (a.r j)) ∧
    b.sw.getLsbD 0 = z.getD (a.sw.getLsbD 0) ∧ b.sw.getLsbD 1 = n.getD (a.sw.getLsbD 1) ∧
    b.sw.getLsbD 2 = c.getD (a.sw.getLsbD 2) ∧ b.sw.getLsbD 3 = v.getD (a.sw.getLsbD 3) ∧
    b.sw.getLsbD 4 = (a.sw.getLsbD 4 || v.getD false) ∧ (∀ i : Nat, 5 ≤ i → b.sw.getLsbD i = a.sw.getLsbD i) ∧
    b.pc = a.pc + 1 ∧ { b with regs := a.regs, sw := a.sw, pc := a.pc } = a

/-- Between s and t only thread k of cluster c changed among the threads. -/
def State.onlyThread (s t : State) (c : Fin 8) (k : Fin 128) : Prop :=
  ∀ c' k' : Nat, 128 * c' + k' ≠ 128 * c.val + k.val → t.thread c' k' = s.thread c' k'

/-- Between s and t thread k of cluster c completed an instruction that wrote only its registers and flags. -/
def State.computes (s t : State) (c : Fin 8) (k : Fin 128) (w : List (Nat × NWord)) (z n cf v : Option Bool) : Prop :=
  (s.thread c.val k.val).after (t.thread c.val k.val) w z n cf v ∧ s.onlyThread t c k ∧
    { t.nyate with threads := s.nyate.threads } = s.nyate ∧ s.keeps t [.nyate]

/-- Between s and t thread k of cluster c met a fault cause (R316, R317): it is HALTED, its frames have ended, no table answer is
awaited, one record stands at the end of the fault queue, and the fault is counted and raised. -/
def State.faulted (s t : State) (c : Fin 8) (k : Fin 128) (cause detail : Nat) : Prop :=
  t.thread c.val k.val = { s.thread c.val k.val with st := .halted, park := 0, slots := [none, none, none, none] } ∧
    (∃ r : FaultRec, (t.cluster c.val).faults = (s.cluster c.val).faults ++ [r] ∧
      r.w0.toNat = k.val / 16 * 2 ^ 15 + k.val % 16 * 2 ^ 11 + cause * 2 ^ 5 ∧
      r.w1.toNat = ((s.thread c.val k.val).ibase + (s.thread c.val k.val).pc) % 2 ^ 15 ∧ r.w2.toNat = detail % 2 ^ 18 ∧
      r.w3 = (s.cluster c.val).seq) ∧
    (t.cluster c.val).seq = (s.cluster c.val).seq + 1 ∧ (t.cluster c.val).halt = 0 ∧ k.val ∉ (t.cluster c.val).takers ∧
    s.onlyThread t c k ∧ (∀ x ∈ t.frames, x.loc.ofThread c.val k.val = false) ∧
    (∀ r ∈ t.nyate.treqs, r.c = c.val → r.t = k.val → r.dead = true) ∧ t.reg (.nyc c) 0xC0 = s.reg (.nyc c) 0xC0 + 1 ∧
    bitOn (t.reg (.nyc c) 0x10) 0 = true ∧ s.keepsRegs t ((.nyc c, 0xC0) :: (.nyc c, 0xCC) :: eventRegs (.nyc c)) ∧
    s.keeps t [.regs, .nyate, .frames, .ham, .queues, .log, .host, .out]

/-- Thread k of cluster c, once it faults, neither halts its cluster (R319) nor finds its cluster halted. -/
def State.faultsAlone (s : State) (c : Fin 8) (k : Fin 128) : Prop :=
  (s.cluster c.val).halt = 0 ∧ (s.cluster c.val).faults.length < 63 ∧ k.val ≠ s.supervisor c.val

/-- An integer outside the signed range of 18 bits. -/
def signedOut (x : Int) : Bool := decide (x < -2 ^ 17 ∨ 2 ^ 17 ≤ x)

/-- Between s and t a thread completed an addition of a, b and a carry into rd (R325). -/
def State.added (s t : State) (c : Fin 8) (k : Fin 128) (rd : BitVec 4) (a b : NWord) (cin : Bool) : Prop :=
  ∃ r : NWord, r.toNat = (a.toNat + b.toNat + cin.toNat) % 2 ^ 18 ∧
    s.computes t c k [(rd.toNat, r)] (some (decide (r = 0))) (some r.msb) (some (decide (2 ^ 18 ≤ a.toNat + b.toNat + cin.toNat)))
      (some (signedOut (a.toInt + b.toInt + cin.toNat)))

/-- Between s and t a thread completed a subtraction of b and a borrow from a, the difference written into the registers listed by
`w` (R325). -/
def State.subtracted (s t : State) (c : Fin 8) (k : Fin 128) (w : NWord → List (Nat × NWord)) (a b : NWord) (cin : Bool) : Prop :=
  ∃ r : NWord, (r.toNat : Int) = ((a.toNat : Int) - b.toNat - cin.toNat) % 2 ^ 18 ∧
    s.computes t c k (w r) (some (decide (r = 0))) (some r.msb) (some (decide (a.toNat < b.toNat + cin.toNat)))
      (some (signedOut (a.toInt - b.toInt - cin.toNat)))

/-- Between s and t a thread completed an instruction whose result r sets Z and N, and C where given (R325, R326). -/
def State.yields (s t : State) (c : Fin 8) (k : Fin 128) (rd : BitVec 4) (r : NWord) (cf : Option Bool) : Prop :=
  s.computes t c k [(rd.toNat, r)] (some (decide (r = 0))) (some r.msb) cf none

/-- Between s and t a thread completed an instruction that changed nothing else of any thread: its program counter moved on. -/
def State.moved (s t : State) (c : Fin 8) (k : Fin 128) : Prop :=
  t.thread c.val k.val = { s.thread c.val k.val with pc := (s.thread c.val k.val).pc + 1 } ∧ s.onlyThread t c k

/-- The address of a memory instruction (R324). -/
def State.taddr (s : State) (c : Fin 8) (k : Fin 128) (ra : BitVec 4) (imm : BitVec 18) : Nat :=
  ((s.treg c k ra).toNat + imm.toNat) % 2 ^ 18

/-- C of the status word of a thread. -/
def State.tcarry (s : State) (c : Fin 8) (k : Fin 128) : Bool := (s.thread c.val k.val).sw.getLsbD 2

/-- Frame x of class k of cluster c is dispatched in s and the base image gets it as y: with its place in the order gate, and
without an HSR tag (R217, R229, R306; log entry 87). -/
def State.baseGets (s : State) (id c k : Nat) (x y : Frame) : Prop :=
  s.frame id = some x ∧ x.loc = .dispatch c k ∧ x.gate = none ∧ s.dispatchWaits x = false ∧ s.tbl.bad = [] ∧ s.clusterTakes c = true ∧ s.admitsWork (nycIsland c) = true ∧
    x.bad = false ∧ s.spoofed x = false ∧ s.queued c k < classRoom k ∧ x.part = .chan (11 + c) ∧ x.cells ≠ 0 ∧
    s.baseServes c k = true ∧ y = Frame.untagHsr { x with gate := some x.gateKey, dclass := k }

/-! ## The safety partition and the meter -/

/-- The parts of the state that telegrams on their way to the ports can change. -/
def safTraffic : List Area := [.regs, .saf, .frames, .nextId, .ham, .queues, .ring, .log, .host, .out]

/-- The registers of SAF's page that an event of its own can change: an event is raised by a publication, one applied write (R44). -/
def safRegs : List (Page × Nat) := (.saf 0, 0x2C) :: eventRegs (.saf 0)

/-- How many STOPs leave at once where cause n is set: one to each peer with SEND_STOP at the first cause but TELEGRAM_STOP (R422). -/
def SafSt.stops (x : SafSt) (n : Nat) : Nat :=
  if x.cause &&& ~~~(0x20 : BitVec 12) = 0 ∧ n ≠ 5 then (x.validPeers.filter (fun k => x.peerBit k 3)).length else 0

/-- Between s and t cause n was set and SAFE_OUT opened, which is raised where it was energised; the STOPs of R422 left (R415, R416). -/
def State.caused (s t : State) (n : Nat) : Prop :=
  t.saf = { s.saf with cause := s.saf.cause ||| BitVec.ofNat 12 (2 ^ n), high := false, low := false, seq := s.saf.seq + word (s.saf.stops n), sent := s.saf.sent + word (s.saf.stops n), blocked := t.saf.blocked } ∧
    (s.saf.on = true → bitOn (t.reg (.saf 0) 0x10) 0 = true) ∧ s.keeps t safTraffic ∧
    (s.saf.stops n = 0 → s.keepsRegs t safRegs ∧ t.saf.blocked = s.saf.blocked ∧ s.keeps t [.regs, .saf, .log, .host, .out])

/-- Between x and y the valid telegram b of peer k was accepted: it is counted, the peer's watchdog and sequence number moved on
(R421, R423). -/
def SafSt.heard (x y : SafSt) (k : Nat) (b : List Byte) : Prop :=
  y.rxOk = x.rxOk + 1 ∧
    y.peer k = { x.peer k with last := word (beAt b 8 4), any := true, expired := false, run := (x.peer k).run + 1, ms := 0, stop := (x.peer k).stop || decide (byteAt b 13 = 2) } ∧
    ∀ j, j ≠ k → y.peer j = x.peer j

/-- Between s and t a request of the safety inbox ended refused with a reason; `x` is SAF's state but for that (R428). -/
def State.safRefused (s t : State) (x : SafSt) (reason seq : Nat) : Prop :=
  t.saf = { x with comm := 4, reason := reason, doneSeq := seq } ∧ bitOn (t.reg (.saf 0) 0x10) 7 = true ∧
    s.keepsRegs t safRegs ∧ s.keeps t [.regs, .saf, .log, .host, .out]

/-- The registers that a publication of the meter and its events can change (R448). -/
def metRegs : List (Page × Nat) :=
  (List.range 48).map (fun i => (Page.met, 0x40 + 4 * i)) ++ (.met, 0x2C) :: (.mbxMet, 0x4C) :: eventRegs .met ++ eventRegs .mbxMet

/-- In t the MET page shows the meter. -/
def State.metShows (t : State) : Prop := ∀ e ∈ t.meter.shown, t.reg .met e.1 = e.2

/-- Between s and t the meter made the record r: it has the next number, is signed, stands in the ring and is published (R441, R447). -/
def State.recorded (s t : State) (r : MetRec) : Prop :=
  r.recno = s.meter.recno + 1 ∧ r.sig = Config.recordSig r.head ∧ t.meter.recno = s.meter.recno + 1 ∧
    t.meter.ring = (r :: s.meter.ring).take 128 ∧ t.meter.placed = s.meter.placed + 1 ∧
    (s.pwr.started = true → t.metShows ∧ bitOn (t.reg .met 0x10) 0 = true) ∧
    s.keepsRegs t metRegs ∧ s.keeps t [.regs, .meter, .log, .host, .out]

/-- Between s and t a legal-log entry was made (R444). -/
def State.entered (s t : State) (code old new : Nat) : Prop :=
  ∃ r : MetRec, s.recorded t r ∧ t.meter.log = s.meter.log ++ [r] ∧ r.type = 4 ∧ r.code = code ∧ r.old = old ∧ r.new = new ∧
    r.count = s.meter.log.length ∧ r.time = s.meter.time ∧
    { t.meter with log := s.meter.log, ring := s.meter.ring, placed := s.meter.placed, recno := s.meter.recno, answered := s.meter.answered } = s.meter

/-- Between s and t the meter answered the command it was sent with a result, and the interface took the answer (R449, R450). -/
def State.metEnds (s t : State) (result : Nat) : Prop :=
  t.meter.done = word (s.field .mbxMet 0x4C 31 24 * 2 ^ 24 + s.meter.op * 2 ^ 16 + result) ∧
    (s.pwr.started = true → bitOn (t.reg .mbxMet 0x4C) 1 = false ∧ t.metShows) ∧
    s.keepsRegs t metRegs ∧ s.keeps t [.regs, .meter, .log, .host, .out]

end Sys2Proof.Machine
end

