-- ==== Sys2Proof/Certificates/Slice0/Obligations.lean ====
section
/-!
DEFINITION. Certificates/Slice0/Obligations.lean: the statements for the provers. Each says what its title in OBLIGATIONS.json says; a
statement about commands gives, for each, hypotheses on the state and the operands and the next state's fields. Unless a docstring
says otherwise `t` is the state after the command.
-/
open Sys2Proof Sys2Proof.Machine

/-- A step runs the command at the front of the queue on the state with the queue's rest. For every command c, every state s and
every queue rest r, a step of s with c at the front of its queue is exec of c on s with the rest r; on an empty queue the
step goes on, 40 ns of PTP time pass while FAB runs and no rate correction is set, the count behind AGE_DAYS goes on by 40
ns while the unit runs, and waiting bursts and reads that now have room are granted and issued; nothing else changes (the
idle step is the model's choice, log entry 4). -/
def Obligations.StepRunsFrontCommand : Prop :=
  (∀ (c : Instr) (s : State) (r : List Instr), step { s with pending := c :: r } = exec c { s with pending := r }) ∧
  (∀ s : State, s.pending = [] → ∃ t, step s = .next t ∧ s.keeps t [.ptp, .pwr, .ham, .host, .out] ∧
    t.pwr = { s.pwr with age := if s.pwr.started then min (65535 * 86400000000000) (s.pwr.age + 40) else s.pwr.age } ∧
    (s.ham.bursts = [] → t.ham = s.ham) ∧ ((∀ r ∈ s.host.reads, r.want = []) → s.ham.bursts = [] → t.host = s.host ∧ t.out = s.out) ∧
    (s.runs .fab = true → s.reg .ptp 0x58 = 0 → s.ptp.frac = 0 → t.ptp.time = (s.ptp.time + 40) % (2 ^ 48 * 10 ^ 9)))

/-- Every command answers a next state in every state, and none changes the queue of waiting commands. No command of this model
stops the unit: a discarded write completes like any other, with no error to its master. The queue is the model's own (log
entry 4); every command leaves it as it is. -/
def Obligations.EveryCommandGoesOnAndKeepsTheQueue : Prop :=
  ∀ (c : Instr) (s : State), ∃ t, exec c s = .next t ∧ t.pending = s.pending

/-- After reset SAFE_OUT is open, no session is open, and the maps are in canonical form. At State.reset both switches of
SAFE_OUT are open, there is no KRDS session and no lock, every page register reads its reset value, and the register and
lock maps are in their canonical form. -/
def Obligations.ResetIsSafe : Prop :=
  State.reset.outSafe ∧ State.reset.sessionsOk ∧ State.reset.sorted ∧
  State.reset.saf.high = false ∧ State.reset.saf.low = false ∧ State.reset.locks = [] ∧ State.reset.pending = [] ∧
  (∀ (p : Page) (off : Nat), State.reset.reg p off = resetWord p off) ∧
  State.reset.reg .pwr 0x5C = 2000 ∧ State.reset.reg .hlnk 0x54 = 0x03E80014 ∧
  (∀ f : Fin 1024, f.val = 0 → State.reset.reg (.func f) 0x40 = 0x01000000)

/-- Every step keeps SAFE_OUT open while a cause bit is set or the self-test has not ended. If in s both switches of SAFE_OUT
are open whenever a cause bit is set or the safety partition has not started, and a step of s goes on to t, then the same
holds of t. -/
def Obligations.SafeOutInvariant : Prop :=
  ∀ s t : State, s.outSafe → step s = .next t → t.outSafe

/-- Who may write a page and its PG_OWNER, and a page cycle applies the highest-ranked accepted request. Masters 6, 12 and 1 are
the overseers and may write every main-domain page unless another master holds its lock. Outside the safety and metering
domains a write is accepted from an overseer, the master and SUB that PG_OWNER names, and master 7 where SERVICE is 1, and
from no other. PG_OWNER is written by overseers alone, never with a value or on a page that R29 refuses. The request a page
cycle applies is one of those that reached it, is accepted (or, a lock read, competes for a free lock or its own), and no
other such request has a higher-ranked master; there is none exactly when every request is refused or does not compete. A
write is never accepted with another width than 4 or at an unaligned offset, on a safety page from a master other than 9, on
MET from a master other than 10, or (but for PG_LOCK) from a master that does not hold a held lock. -/
def Obligations.ArbiterAppliesHighestRankedRequest : Prop :=
  (∀ m : Master, m.overseer = true ↔ m.num = 6 ∨ m.num = 12 ∨ m.num = 1) ∧
  (∀ (s : State) (p : Page) (r : Req), p.safety = false → p.metering = false → r.width = 4 → r.off.toNat % 4 = 0 →
    r.off.toNat ≠ 0x20 → r.off.toNat ≠ 0x24 → r.master.overseer = true →
    (s.accepts p r = true ↔ s.lockOf p = none ∨ s.lockOf p = some r.master)) ∧
  (∀ (s : State) (p : Page) (r : Req), p.safety = false → p.metering = false → r.width = 4 → r.off.toNat % 4 = 0 →
    r.off.toNat ≠ 0x20 → r.off.toNat ≠ 0x24 → s.lockOf p = none → s.field p 0x20 3 0 ≠ 9 → s.field p 0x20 3 0 ≠ 10 →
    (s.accepts p r = true ↔
      r.master.overseer = true ∨
      (s.field p 0x20 3 0 = r.master.num ∧ (∀ n : Fin 1020, r.master = .vf n → s.field p 0x20 25 16 = n.val + 1) ∧
        (∀ c : Fin 8, r.master = .nyate c → s.field p 0x20 25 16 = c.val)) ∨
      (r.master.num = 7 ∧ bitOn (s.reg p 0x20) 29 = true))) ∧
  (∀ (s : State) (p : Page) (r : Req) (v : Word), r.kind = .write v → r.off.toNat = 0x20 → r.width = 4 →
    s.lockOf p = none ∨ s.lockOf p = some r.master →
    (s.accepts p r = true ↔
      r.master.overseer = true ∧ fld v 3 0 ∉ [0, 9, 10, 13, 14, 15] ∧
      (fld v 3 0 = 5 → 1 ≤ fld v 25 16 ∧ fld v 25 16 ≤ 1020) ∧ (fld v 3 0 = 8 → fld v 25 16 ≤ 7) ∧
      p.safety = false ∧ p.metering = false ∧ (∀ f : Fin 1024, p ≠ .func f ∧ p ≠ .mbx f) ∧
      (p = .cry → bitOn v 29 = false))) ∧
  (∀ (s : State) (p : Page) (rs : List Req) (w : Req), s.winner p rs = some w →
    w ∈ rs ∧ (if w.isRead then s.competes p w.master else s.accepts p w) = true ∧
    ∀ r ∈ rs, (if r.isRead then s.competes p r.master else s.accepts p r) = true → w.master.rank ≤ r.master.rank) ∧
  (∀ (s : State) (p : Page) (rs : List Req), s.winner p rs = none ↔
    ∀ r ∈ rs, (if r.isRead then s.competes p r.master else s.accepts p r) = false) ∧
  (∀ (s : State) (p : Page) (r : Req), s.accepts p r = true → r.width = 4 ∧ r.off.toNat % 4 = 0) ∧
  (∀ (s : State) (i : Fin 2) (r : Req), s.accepts (.saf i) r = true → r.master = .saf) ∧
  (∀ (s : State) (r : Req), s.accepts .met r = true → r.master = .meter) ∧
  (∀ (s : State) (p : Page) (r : Req) (h : Master), Sparse.find s.locks p.code = some h → s.accepts p r = true →
    r.off.toNat ≠ 0x24 → r.master = h)

/-- REGISTER_WRITE, LOCK_READ and LOCK_RELEASE complete on every page: the winner acts, PG_SEQ and the discards are counted,
nothing else changes. REGISTER_WRITE, on every page and offset whose island takes it: the winning write acts as its register
does (the rows of single registers state that effect), PG_SEQ having been counted, then the discards are recorded, the lock
reads answered, and TEMP_CRIT's own writes follow. Where the register only stores its fields, it takes the value merged by
its access codes, PG_SEQ rises by one, PREC counts the losers and the refusals, and no other register, lock or part of the
unit changes but the records of the discards. Where no request wins, only those records change. With refusals on two pages
in one cycle PREC_REFUSED_LAST names the higher-ranked, on equal ranks the one on the lower page index. LOCK_READ by a
master that reaches the page: the winner gets the lock and is answered 0; one that may not write the page is answered the
holder, or the owner; one that meets another holder, or loses, is answered that master's number; no other lock changes, and
a master that does not reach the page changes nothing. LOCK_RELEASE: an accepted one frees the lock, and by an overseer that
does not hold it also raises LOCK_BROKEN of PREC; a refused one is counted and changes no lock. -/
def Obligations.WritesAndLocksAreSettledByTheArbiter : Prop :=
  (∀ (s : State) (p : Page) (rs : List Req) (w : Req) (v : Word), (∀ r ∈ rs, s.takes (accessIsland p r.off.toNat)) →
    s.winner p rs = some w → w.kind = .write v →
    exec (.registerWrite p ⟨rs, []⟩) s = .next
      (s.answerReads p (s.made p rs) (((s.count p 0x2C).applyWrite p w.master w.off.toNat v noEnv).noteDiscards p
        ((s.candidates p rs).erase w) (s.refusedOf p rs))).coolDown) ∧
  (∀ (s : State) (p : Page) (rs : List Req) (w : Req) (v : Word), plainReg p w.off.toNat →
    (∀ x ∈ (p, 0x2C) :: discardRegs p, regKey p w.off.toNat ≠ regKey x.1 x.2) →
    (∀ r ∈ rs, s.takes (accessIsland p r.off.toNat)) → s.sens.hot = false → s.winner p rs = some w → w.kind = .write v →
    ∃ t, exec (.registerWrite p ⟨rs, []⟩) s = .next t ∧
      t.reg p w.off.toNat = mergeWrite p w.off.toNat w.master (s.reg p w.off.toNat) v ∧
      t.reg p 0x2C = s.reg p 0x2C + 1 ∧
      t.field .prec 0x60 31 0 = (s.field .prec 0x60 31 0 + ((s.candidates p rs).length - 1)) % 2 ^ 32 ∧
      t.field .prec 0x64 31 0 = (s.field .prec 0x64 31 0 + (s.refusedOf p rs).length) % 2 ^ 32 ∧
      s.keepsRegs t ((p, w.off.toNat) :: (p, 0x2C) :: discardRegs p) ∧ s.keeps t [.regs, .log, .host, .out]) ∧
  (∀ (s : State) (p : Page) (rs : List Req), (∀ r ∈ rs, s.takes (accessIsland p r.off.toNat)) → s.sens.hot = false →
    s.winner p rs = none →
    ∃ t, exec (.registerWrite p ⟨rs, []⟩) s = .next t ∧
      t.field .prec 0x64 31 0 = (s.field .prec 0x64 31 0 + (s.refusedOf p rs).length) % 2 ^ 32 ∧
      s.keepsRegs t (discardRegs p) ∧ s.keeps t [.regs, .log, .host, .out]) ∧
  (∀ (s : State) (p q : Page) (a b : Req), p ≠ q → s.takes (accessIsland p a.off.toNat) → s.takes (accessIsland q b.off.toNat) →
    s.sens.hot = false → a.isRead = false → b.isRead = false → s.accepts p a = false → s.accepts q b = false →
    a.master.rank < b.master.rank ∨ (a.master.rank = b.master.rank ∧ p.index < q.index) →
    ∃ t u, exec (.registerWrite p ⟨[a], [(q, [b])]⟩) s = .next t ∧ exec (.registerWrite q ⟨[b], [(p, [a])]⟩) s = .next u ∧
      t.reg .prec 0x6C = word (a.master.num * 2 ^ 28 + a.word % 1024 * 2 ^ 16 + p.index) ∧ u.reg .prec 0x6C = t.reg .prec 0x6C ∧
      t.field .prec 0x64 31 0 = (s.field .prec 0x64 31 0 + 2) % 2 ^ 32 ∧ u.field .prec 0x64 31 0 = t.field .prec 0x64 31 0 ∧
      s.keepsRegs t (discardRegs p ++ discardRegs q) ∧ s.keepsRegs u (discardRegs p ++ discardRegs q) ∧
      s.keeps t [.regs, .log, .host, .out] ∧ s.keeps u [.regs, .log, .host, .out]) ∧
  (∀ (s : State) (p : Page) (m : Master) (rivals : List Req), s.takes p.island → s.sens.hot = false →
    s.winner p ({ master := m, off := 0x24, width := 4, kind := .lockRead } :: rivals)
      = some { master := m, off := 0x24, width := 4, kind := .lockRead } →
    ∃ t, exec (.lockRead p m rivals) s = .next t ∧ Sparse.find t.locks p.code = some m ∧ Out.data m 0 ∈ t.out ∧
      (p ≠ .prec → t.reg p 0x2C = s.reg p 0x2C + 1) ∧
      (∀ k, k ≠ p.code → Sparse.find t.locks k = Sparse.find s.locks k) ∧
      s.keepsRegs t ((p, 0x2C) :: discardRegs p) ∧ s.keeps t [.regs, .locks, .log, .host, .out]) ∧
  (∀ (s : State) (p : Page) (m : Master) (rivals : List Req), s.takes p.island → s.reaches p m = true →
    s.mayWrite p m = false →
    ∃ t, exec (.lockRead p m rivals) s = .next t ∧
      (∀ h, s.lockOf p = some h → Out.data m (word h.num) ∈ t.out) ∧
      (s.lockOf p = none → Out.data m (word (s.field p 0x20 3 0)) ∈ t.out) ∧
      (rivals = [] → s.sens.hot = false → s.keeps t [.regs, .host, .out] ∧ s.keepsRegs t (discardRegs p))) ∧
  (∀ (s : State) (p : Page) (m h : Master) (rivals : List Req), s.takes p.island → s.reaches p m = true → s.mayWrite p m = true →
    s.lockOf p = some h → h ≠ m →
    ∃ t, exec (.lockRead p m rivals) s = .next t ∧ Out.data m (word h.num) ∈ t.out ∧
      (rivals = [] → s.sens.hot = false → s.keeps t [.regs, .host, .out] ∧ s.keepsRegs t (discardRegs p))) ∧
  (∀ (s : State) (p : Page) (m : Master) (rivals : List Req) (w : Req), s.takes p.island → s.competes p m = true →
    s.winner p ({ master := m, off := 0x24, width := 4, kind := .lockRead } :: rivals) = some w →
    w ≠ { master := m, off := 0x24, width := 4, kind := .lockRead } →
    ∃ t, exec (.lockRead p m rivals) s = .next t ∧ Out.data m (word w.master.num) ∈ t.out) ∧
  (∀ (s : State) (p : Page) (m : Master), s.reaches p m = false → exec (.lockRead p m []) s = .next s) ∧
  (∀ (s : State) (p : Page) (m h : Master) (v : Word) (rivals : List Req), s.grants p 0x24 m v rivals → s.lockOf p = some h →
    ∃ t, exec (.lockRelease p m v rivals) s = .next t ∧ Sparse.find t.locks p.code = none ∧
      (h ≠ m → m.overseer = true ∧ bitOn (t.reg .prec 0x10) 0 = true ∧ t.field .prec 0x68 3 0 = h.num) ∧
      (∀ k, k ≠ p.code → Sparse.find t.locks k = Sparse.find s.locks k) ∧
      s.keepsRegs t ((p, 0x2C) :: (.prec, 0x68) :: discardRegs p) ∧ s.keeps t [.regs, .locks, .log, .host, .out]) ∧
  (∀ (s : State) (p : Page) (m : Master) (v : Word), s.takes p.island → s.sens.hot = false → s.accepts p (wr m 0x24 v) = false →
    ∃ t, exec (.lockRelease p m v []) s = .next t ∧
      t.field .prec 0x64 31 0 = (s.field .prec 0x64 31 0 + 1) % 2 ^ 32 ∧ t.locks = s.locks ∧
      s.keepsRegs t (discardRegs p) ∧ s.keeps t [.regs, .log, .host, .out])

/-- CONFLICT_CLEAR, OWNER_WRITE, FREEZE_SNAPSHOT, FREEZE_TIMEOUT and reads act as the header registers say. An applied
CONFLICT_CLEAR leaves PG_CONFLICT 0, or the record of this cycle's own discards. An applied OWNER_WRITE stores the owner's
fields; a master that is no overseer changes no owner. Setting FREEZE from 0 on a PORT page captures the snapshot; writing 0
and the timeout end it. A read answers the register's value and, but for PTP_TIME_NS, GATE_PEG_DATA and MGT_LIGHT's RC
field, changes nothing; a read of any byte of PEAK clears that field alone. -/
def Obligations.HeaderRegistersAndReads : Prop :=
  (∀ (s : State) (p : Page) (m : Master) (rivals : List Req), s.grants p 0x28 m (bit 26) rivals →
    ∃ t, exec (.conflictClear p m rivals) s = .next t ∧ (rivals = [] → t.reg p 0x28 = 0) ∧
      (rivals.all (fun r => !r.isRead) = true → t.field p 0x28 15 0 = min 65535 rivals.length) ∧
      s.keepsRegs t ((p, 0x2C) :: discardRegs p) ∧ s.keeps t [.regs, .log, .host, .out]) ∧
  (∀ (s : State) (p : Page) (m : Master) (v : Word) (rivals : List Req), s.grants p 0x20 m v rivals →
    ∃ t, exec (.ownerWrite p m v rivals) s = .next t ∧ m.overseer = true ∧ t.reg p 0x20 = v &&& 0x23FF000F ∧
      s.keepsRegs t ((p, 0x20) :: (p, 0x2C) :: discardRegs p) ∧ s.keeps t [.regs, .log, .host, .out]) ∧
  (∀ (s : State) (p : Page) (m : Master) (v : Word), s.takes p.island → s.sens.hot = false → m.overseer = false →
    ∃ t, exec (.ownerWrite p m v []) s = .next t ∧ t.reg p 0x20 = s.reg p 0x20 ∧
      s.keepsRegs t (discardRegs p) ∧ s.keeps t [.regs, .log, .host, .out]) ∧
  (∀ (s : State) (q : Fin 4) (m : Master) (v : Word) (rivals : List Req), s.grants (.port q) 0x08 m v rivals →
    bitOn v 1 = true → bitOn (s.reg (.port q) 0x08) 1 = false →
    ∃ t, exec (.freezeSnapshot (.port q) m v rivals) s = .next t ∧ bitOn (t.reg (.port q) 0x08) 1 = true ∧
      Sparse.find t.snaps (Page.port q).code = some (s.snapshot (.port q)) ∧
      s.keepsRegs t ((.port q, 0x08) :: (.port q, 0x2C) :: discardRegs (.port q)) ∧ s.keeps t [.regs, .snaps, .log, .host, .out]) ∧
  (∀ (s : State) (q : Fin 4) (m : Master) (v : Word) (rivals : List Req), s.grants (.port q) 0x08 m v rivals →
    bitOn v 1 = false →
    ∃ t, exec (.freezeSnapshot (.port q) m v rivals) s = .next t ∧ bitOn (t.reg (.port q) 0x08) 1 = false ∧
      Sparse.find t.snaps (Page.port q).code = none ∧ s.keeps t [.regs, .snaps, .log, .host, .out]) ∧
  (∀ (s : State) (p : Page), bitOn (s.reg p 0x08) 1 = true →
    ∃ t, exec (.freezeTimeout p) s = .next t ∧ t.reg p 0x08 = setFld (s.reg p 0x08) 1 1 0 ∧ Sparse.find t.snaps p.code = none ∧
      s.keepsRegs t [(p, 0x08)] ∧ s.keeps t [.regs, .snaps]) ∧
  (∀ (s : State) (p : Page) (m : Master) (off : BitVec 12), s.takes (accessIsland p off.toNat) → s.reaches p m = true →
    off.toNat % 4 = 0 → off.toNat ≠ 0x24 → (p = .ptp → off.toNat ≠ 0x48) → (∀ q, p = .gate q → off.toNat ≠ 0x70) →
    (p = .mgt → off.toNat ≠ 0xE4) →
    ∃ t, exec (.rcFieldRead p m off 4) s = .next t ∧ t.out = .data m (s.view p off.toNat) :: s.out ∧ s.keeps t [.out]) ∧
  (∀ (s : State) (m : Master) (off : BitVec 12) (width : Nat), s.takes .mgt → s.reaches .mgt m = true → 0xE4 ≤ off.toNat → off.toNat < 0xE8 →
    0xE6 < off.toNat + width → off.toNat + width ≤ 0xE8 →
    ∃ t, exec (.rcFieldRead .mgt m off width) s = .next t ∧ t.field .mgt 0xE4 31 16 = 0 ∧
      t.field .mgt 0xE4 15 0 = s.field .mgt 0xE4 15 0 ∧ s.keepsRegs t [(.mgt, 0xE4)] ∧ s.keeps t [.regs, .out])

/-- INPUT_LOST, INPUT_RETURNED, INPUT_GOOD and INPUT_NOT_GOOD move an input between absent, present and good. An AC input is
lost below 70 V, above 280 V, without a zero crossing, or outside 45 to 65 Hz; a DC input below 100 V, above 390 V or
reversed (voltages in 0.1 V, frequencies in 0.01 Hz). A loss clears present and good, and in a started unit aborts a
capacitance test and sets MAINS_x_LOST, once until the input has been good again; a return within 20 ms of mains loss ends
the shed sequence; an input that becomes good raises MAINS_x_RETURN if it was lost and, after shed step 3, ends the shed and
cold-resets the islands it had taken off; one out of its rating stops being good, which aborts a running test. The other
input stays as it was. -/
def Obligations.MainsInputsAreJudgedByTheirRatings : Prop :=
  (∀ x : Measure, x.dc = false → (x.lost = true ↔ x.volt < 700 ∨ 2800 < x.volt ∨ x.crossing = false ∨ x.freq < 4500 ∨ 6500 < x.freq)) ∧
  (∀ x : Measure, x.dc = true → (x.lost = true ↔ x.volt < 1000 ∨ 3900 < x.volt ∨ x.polarity = false)) ∧
  (∀ (s : State) (i : Input) (x : Measure), (s.input i).present = true → x.lost = true →
    ∃ t, exec (.inputLost i x) s = .next t ∧ (t.input i).present = false ∧ (t.input i).good = false ∧ (t.input i).lost = true ∧
      (t.input i).cut = x.over ∧ (∀ j, j ≠ i → t.input j = s.input j) ∧ t.pwr.shed = s.pwr.shed ∧
      (s.pwr.started = true → t.pwr.testing = false ∧ ((s.input i).lost = false → bitOn (t.reg .pwr 0x10) (i.bit 0) = true) ∧
        ((s.input i).lost = true → x.over = false → s.pwr.testing = false → t.reg .pwr 0x10 = s.reg .pwr 0x10))) ∧
  (∀ (s : State) (i : Input) (x : Measure), (s.input i).present = false → x.rated = true →
    ∃ t, exec (.inputReturned i x) s = .next t ∧ (t.input i).present = true ∧ (t.input i).good = false ∧ (t.input i).dc = x.dc ∧
      (∀ j, j ≠ i → t.input j = s.input j) ∧
      t.pwr.shed = (if s.pwr.shed = 1 ∨ s.pwr.shed = 2 then 0 else s.pwr.shed) ∧ s.keeps t [.regs, .pwr, .log]) ∧
  (∀ (s : State) (i : Input) (x : Measure), (s.input i).present = true → (s.input i).good = false → x.rated = true → x.lost = false →
    ∃ t, exec (.inputGood i x) s = .next t ∧ (t.input i).present = true ∧ (t.input i).good = true ∧ (t.input i).lost = false ∧
      (∀ j, j ≠ i → t.input j = s.input j) ∧
      (s.pwr.started = true → (s.input i).lost = true → bitOn (t.reg .pwr 0x10) (i.bit 2) = true) ∧
      (s.pwr.started = true → 3 ≤ s.pwr.shed → t.pwr.shed = 0 ∧ t.field .unit 0x50 15 8 = 4 ∧
        ∀ j ∈ [Island.fab, .tbl, .prg, .pup, .host, .cry, .tun, .sto], (s.island j).mode = .off →
          (t.island j).cold = true ∧ (j = .host → ∀ m : Master, 1 ≤ m.num → m.num ≤ 5 → ∀ q : Page, t.lockOf q ≠ some m))) ∧
  (∀ (s : State) (i : Input) (x : Measure), (s.input i).present = true → x.rated = false → x.lost = false →
    ∃ t, exec (.inputNotGood i x) s = .next t ∧ t.input i = { s.input i with good := false } ∧
      (∀ j, j ≠ i → t.input j = s.input j) ∧
      (s.pwr.started = true → s.pwr.testing = true → t.pwr.testing = false ∧ t.pwr.retry = true ∧ t.field .pwr 0x60 17 16 = 2 ∧
        bitOn (t.reg .pwr 0x10) 6 = true) ∧
      (s.pwr.testing = false → s.keepsRegs t [(.pwr, 0x44), (.pwr, 0x48)] ∧ s.keeps t [.regs, .pwr]))

/-- MAINS_LOSS, SHED_ISLANDS, SHED_RING_DROP, GAUGE_LOW_SHED and STORE_EXHAUSTED take the unit through the shed sequence. Mains
loss of a started unit raises MAINS_LOST, suspends an erase, ends an image write with CODE 6 and stands at step 2. Steps 3
and 4 take the listed islands off, release UNIT_READY and the link, and lead to step 5; steps 6 and 7 take PRG and FAB off.
A gauge below the reserve plus 2,500 mJ brings them forward; steps 6 and 7 wait only for the last gasp to have left. When
the store is exhausted MGT and SAF stop: no session, lock or frame is left and both switches of SAFE_OUT are open. -/
def Obligations.ShedSequenceFollowsItsSteps : Prop :=
  (∀ s : State, s.pwr.started = true → s.pwr.a.present = false → s.pwr.b.present = false → s.pwr.shed = 0 →
    ∃ t, exec .mainsLoss s = .next t ∧ t.pwr.shed = 2 ∧ bitOn (t.reg .pwr 0x10) 4 = true ∧ t.pwr.lossTime = s.ptp.time ∧
      t.log.opHeld = s.log.busyOp.isSome ∧ t.boot.write = none ∧ (s.boot.write.isSome = true → t.reg .img 0x58 = 6) ∧
      t.saf = s.saf ∧ t.isl = s.isl) ∧
  (∀ s : State, s.pwr.shed = 2 →
    ∃ t, exec .shedIslands s = .next t ∧ t.pwr.shed = 5 ∧ t.host.ready = false ∧ t.host.link = .down ∧
      (∀ i ∈ Island.shedFirst, (t.island i).mode = .off) ∧ (t.island .prg).mode = (s.island .prg).mode) ∧
  (∀ s : State, s.pwr.shed = 5 →
    ∃ t, exec .shedRingDrop s = .next t ∧ 7 ≤ t.pwr.shed ∧ t.pwr.shed ≤ 8 ∧ (t.island .prg).mode = .off ∧ (t.island .fab).mode = .off ∧
      (s.log.waiting = [] → t.pwr.shed = 8)) ∧
  (∀ s : State, s.pwr.shed ≠ 0 → s.pwr.shed ≤ 5 → s.field .pwr 0x4C 19 0 < s.field .pwr 0x5C 15 0 + 2500 →
    ∃ t, exec .gaugeLowShed s = .next t ∧
      (t.gaspWaits = false → 7 ≤ t.pwr.shed ∧ (t.island .prg).mode = .off ∧ (t.island .fab).mode = .off) ∧
      (t.gaspWaits = true → (t.island .prg).mode = (s.island .prg).mode) ∧ (s.pwr.shed ≤ 2 → 3 ≤ t.pwr.shed ∧ ∀ i ∈ Island.shedFirst, (t.island i).mode = .off)) ∧
  (∀ s : State, s.pwr.shed ≠ 0 →
    ∃ t, exec .storeExhausted s = .next t ∧ t.pwr.started = false ∧ t.pwr.shed = 0 ∧ t.saf.high = false ∧ t.saf.low = false ∧
      t.saf.started = false ∧ t.krds = [] ∧ t.locks = [] ∧ t.frames = [] ∧ t.host.ready = false ∧
      (∀ i ∈ Island.switchable, (t.island i).mode = .off) ∧ t.log = s.log ∧ t.boot = s.boot ∧ t.fram = s.fram ∧ t.keys = s.keys ∧
      t.meter = s.meter)

/-- GAUGE_UPDATE, CAPTEST_START, CAPTEST_PERIOD_EXPIRY, CAPTEST_RETRY, CAPTEST_DONE and HOLDUP_TEST_STALE. The gauge is C_low
times (V squared minus 24 V squared) over 2, in mJ, from C_low in 0.01 mF and V in 10 mV, with FULL at 53.0 V. A test starts
only with both inputs good and none running. A test that measured c, both inputs good, leaves C_low 3 % below it, age 0 and
RESULT 1, or 3 with HOLDUP_WORN where C_low is below 76.92 mF (900,000/117 in 0.01 mF). A stale test raises
HOLDUP_TEST_STALE, keeps C_low and reads an age of 7 days or more. -/
def Obligations.GaugeAndCapacitanceTest : Prop :=
  (∀ (s : State) (volt load : Nat), volt < 65536 → load < 2 ^ 18 →
    s.field .pwr 0x54 15 0 * (volt * volt - 5760000) / 2000000 < 2 ^ 20 →
    ∃ t, exec (.gaugeUpdate volt load) s = .next t ∧
      t.field .pwr 0x4C 19 0 = s.field .pwr 0x54 15 0 * (volt * volt - 5760000) / 2000000 ∧
      bitOn (t.reg .pwr 0x4C) 31 = decide (5300 ≤ volt) ∧ t.reg .pwr 0x50 = word volt ∧ t.reg .pwr 0x58 = word load ∧
      s.keepsRegs t [(.pwr, 0x4C), (.pwr, 0x50), (.pwr, 0x58)] ∧ s.keeps t [.regs]) ∧
  (∀ (s : State) (m : Master) (rivals : List Req), s.grants .pwr 0x60 m (s.reg .pwr 0x60 &&& 0xFF ||| bit 8) rivals →
    s.pwr.a.good = true → s.pwr.b.good = true → s.pwr.testing = false →
    ∃ t, exec (.captestStart m rivals) s = .next t ∧ t.pwr = { s.pwr with testing := true, retry := false } ∧
      (1 ≤ s.field .pwr 0x60 7 0 → s.field .pwr 0x60 7 0 ≤ 168 → t.reg .pwr 0x60 = s.reg .pwr 0x60) ∧
      s.keepsRegs t ((.pwr, 0x60) :: (.pwr, 0x2C) :: discardRegs .pwr) ∧ s.keeps t [.regs, .pwr, .log, .host, .out]) ∧
  (∀ s : State, s.pwr.started = true → s.pwr.a.good = true → s.pwr.b.good = true → s.pwr.testing = false →
    ∃ t, exec .captestPeriodExpiry s = .next t ∧ t.pwr = { s.pwr with testing := true, retry := false } ∧ s.keeps t [.pwr]) ∧
  (∀ s : State, s.pwr.retry = true → s.pwr.a.good = true → s.pwr.b.good = true → s.pwr.testing = false →
    ∃ t, exec .captestRetry s = .next t ∧ t.pwr = { s.pwr with testing := true, retry := false } ∧ s.keeps t [.pwr]) ∧
  (∀ (s : State) (c : Nat), s.pwr.testing = true → s.pwr.a.good = true → s.pwr.b.good = true → c * 97 / 100 < 65536 →
    ∃ t, exec (.captestDone c) s = .next t ∧ t.pwr = { s.pwr with testing := false, retry := false, age := 0 } ∧
      t.reg .pwr 0x54 = word (c * 97 / 100) ∧
      t.field .pwr 0x60 17 16 = (if c * 97 / 100 * 117 < 900000 then 3 else 1) ∧
      (c * 97 / 100 * 117 < 900000 → bitOn (t.reg .pwr 0x10) 7 = true) ∧
      s.keepsRegs t ((.pwr, 0x54) :: (.pwr, 0x60) :: eventRegs .pwr) ∧ s.keeps t [.regs, .pwr, .log, .host, .out]) ∧
  (∀ s : State, ∃ t, exec .holdupTestStale s = .next t ∧ bitOn (t.reg .pwr 0x10) 8 = true ∧
      fld (t.view .pwr 0x54) 15 0 = s.field .pwr 0x54 15 0 ∧ 7 ≤ fld (t.view .pwr 0x54) 31 16 ∧
      s.keepsRegs t (eventRegs .pwr) ∧ s.keeps t [.regs, .pwr, .log, .host, .out])

/-- FLASH_BURST_REQUEST, FLASH_BURST_DONE, LOG_BURST_TIMER and LOG_REPEAT_WINDOW_END. A log or image burst of P pages begins
where P times 5 ms of the load plus 1 W, and the FRAM reserve, do not exceed the gauge; otherwise a short record is kept and
PWR_BURST_REFUSED counts. A burst that ends well puts its records in flash; an erase that ends makes its set WRITING. The
log timer asks for a log burst of the waiting records. A repeat window ends with one record that carries its count. -/
def Obligations.FlashBurstsAreAdmittedByTheGauge : Prop :=
  (∀ (s : State) (pages : Nat), s.pwr.started = true → s.pwr.shed = 0 → s.log.burst = none → s.log.dev0 = true →
    s.reading .image = false → pages * 5 * (s.field .pwr 0x58 17 0 + 1000) + s.field .pwr 0x5C 15 0 * 1000 ≤ s.field .pwr 0x4C 19 0 * 1000 →
    ∃ t, exec (.flashBurstRequest .image pages) s = .next t ∧
      t.log.burst = some { kind := .image, pages := pages, recs := 0, suspended := s.log.busyOp.isSome && !s.log.opHeld } ∧
      t.reg .pwr 0x64 = s.reg .pwr 0x64 + 1 ∧ s.keepsRegs t [(.pwr, 0x64)] ∧ s.keeps t [.regs, .log]) ∧
  (∀ (s : State) (pages : Nat), s.pwr.started = true → s.pwr.shed = 0 → s.log.burst = none → s.log.dev0 = true →
    s.reading .image = false → s.field .pwr 0x4C 19 0 * 1000 < pages * 5 * (s.field .pwr 0x58 17 0 + 1000) + s.field .pwr 0x5C 15 0 * 1000 →
    ∃ t, exec (.flashBurstRequest .image pages) s = .next t ∧ t.log.burst = none ∧
      (t.log.shorts.head?.map (fun r => (r.reason, r.pages, r.gauge))) = some (4, pages, s.field .pwr 0x4C 19 0) ∧
      t.log.shorts.length ≤ 64 ∧ t.reg .pwr 0x68 = s.reg .pwr 0x68 + 1 ∧ bitOn (t.reg .pwr 0x10) 5 = true ∧
      s.keepsRegs t ((.pwr, 0x68) :: eventRegs .pwr) ∧ s.keeps t [.regs, .log, .host, .out]) ∧
  (∀ (s : State) (b : FlashBurst), s.log.burst = some b → b.kind = .log → s.log.dev0 = true →
    (s.log.flash ++ s.log.waiting.take b.recs).length ≤ 1572864 →
    ∃ t, exec (.flashBurstDone false false false false) s = .next t ∧ t.log.burst = none ∧
      t.log.flash = s.log.flash ++ s.log.waiting.take b.recs ∧ t.log.waiting = s.log.waiting.drop b.recs ∧ s.keeps t [.log]) ∧
  (∀ s : State, s.log.burst = none → s.log.busyOp = some .erase → s.log.opHeld = false →
    ∃ t, exec (.flashBurstDone false false false false) s = .next t ∧ t.log.busyOp = none ∧
      (s.boot.setB.st = 2 → t.boot.setB.st = 1 ∧ t.boot.setB.data = []) ∧ s.keeps t [.log, .boot]) ∧
  (∀ s : State, s.pwr.started = true → s.pwr.shed = 0 → s.log.burst = none → s.log.dev0 = true → s.log.waiting ≠ [] →
    s.log.waiting.length ≤ 512 →
    (s.log.waiting.length + 7) / 8 * 5 * (s.field .pwr 0x58 17 0 + 1000) + s.field .pwr 0x5C 15 0 * 1000 ≤ s.field .pwr 0x4C 19 0 * 1000 →
    ∃ t, exec .logBurstTimer s = .next t ∧
      t.log.burst.map (fun b => (b.kind, b.pages, b.recs)) = some (.log, (s.log.waiting.length + 7) / 8, s.log.waiting.length) ∧
      s.keeps t [.regs, .log]) ∧
  (∀ (s : State) (p : Page) (b : Fin 32) (w : RepWin), Sparse.find s.log.wins (winKey p b.val) = some w → eventType p b.val = 1 →
    0 < w.count → s.log.lost = 0 → s.log.tail.length < 512 →
    ∃ t, exec (.logRepeatWindowEnd p b) s = .next t ∧ Sparse.find t.log.wins (winKey p b.val) = none ∧
      (t.log.tail.getLast?.map (fun r => (r.entry.seq, r.entry.type, r.entry.code, r.entry.d2)))
        = some (s.log.next, 1, b.val, word w.count) ∧
      t.log.next = s.log.next + 1 ∧ s.keeps t [.log])

/-- MAINS_COLD_START, UNIT_READY_ASSERT, READY_LATE, UNIT_RESET_GO, UNIT_RESET_EXTEND, ISLAND_COLD_RESET and COLDRST_DONE. A
mains cold start of a stopped unit with a good input starts it with SAFE_OUT open, no lock, no frame and no queue, and
UNIT_RESET_STAT as a mains start leaves it. UNIT_RESET with its KEY by an overseer or master 7 starts a reset whose STAT
names cause and issuer and which clears the host side; without the KEY it raises RESET_REFUSED and changes nothing else;
another master's write starts none. A second write with SEL_MGT extends a reset that has no MGT. A keyed write of
ISL_COLDRST by master 6 drains or holds the island; the end of the reset makes it ACTIVE and raises COLDRST_DONE. -/
def Obligations.StartsAndUnitResets : Prop :=
  (∀ s : State, s.pwr.started = false → (s.pwr.a.good = true ∨ s.pwr.b.good = true) →
    ∃ t, exec .mainsColdStart s = .next t ∧ t.pwr.started = true ∧ t.pwr.shed = 0 ∧ t.saf.high = false ∧ t.saf.low = false ∧
      t.locks = [] ∧ t.frames = [] ∧ t.queues.wq = [] ∧ t.queues.cq = [] ∧ t.reg .unit 0x50 = 0x100 ∧ t.keys.opKey = s.keys.opKey ∧
      t.boot.rollback = s.boot.rollback ∧ (s.boot.active.valid s.keys.opKey s.boot.rollback = true → s.boot.trial = false →
        t.boot.recovery = false ∧ t.boot.activeB = s.boot.activeB)) ∧
  (∀ (s : State) (ms : Nat), s.host.ready = false → s.pwr.started = true → s.boot.recovery = false → s.runs .host = true →
    s.runs .fab = true → s.pwr.shed < 3 →
    ∃ t, exec (.unitReadyAssert ms) s = .next t ∧ t.host.ready = true ∧ t.host.startMs = ms ∧
      bitOn (t.reg .unit 0x50) 0 = false ∧ (bitOn (s.reg .unit 0x50) 0 = true → bitOn (t.reg .unit 0x10) 0 = true) ∧
      s.keepsRegs t ((.unit, 0x50) :: eventRegs .unit) ∧ s.keeps t [.regs, .isl, .log, .host, .out]) ∧
  (∀ s : State, s.host.ready = false → s.pwr.started = true →
    ∃ t, exec .readyLate s = .next t ∧ bitOn (t.reg .unit 0x10) 3 = true ∧ s.keepsRegs t (eventRegs .unit) ∧
      s.keeps t [.regs, .log, .host, .out]) ∧
  (∀ (s : State) (m : Master) (v : Word) (rivals : List Req), s.grants .unit 0x4C m (v ||| bit 0) rivals → fld v 31 16 = 0x4B52 →
    m.overseer = true ∨ m = .yemor → bitOn (s.reg .unit 0x50) 0 = false →
    ∃ t, exec (.unitResetGo m v rivals) s = .next t ∧ bitOn (t.reg .unit 0x50) 0 = true ∧ t.field .unit 0x50 23 20 = m.num ∧
      t.field .unit 0x50 15 8 = (if bitOn v 1 then 3 else 2) ∧ bitOn (t.reg .unit 0x50) 2 = bitOn v 2 ∧
      t.field .unit 0x50 31 24 = min 255 (s.field .unit 0x50 31 24 + 1) ∧
      t.host.ready = false ∧ (bitOn v 1 = false → t.queues.wq = [] ∧ t.queues.cq = [] ∧ t.krds = s.krds) ∧ t.saf = s.saf ∧ t.meter = s.meter) ∧
  (∀ (s : State) (m : Master) (v : Word) (rivals : List Req), s.grants .unit 0x4C m (v ||| bit 0) rivals → fld v 31 16 ≠ 0x4B52 →
    m.overseer = true ∨ m = .yemor →
    ∃ t, exec (.unitResetGo m v rivals) s = .next t ∧ bitOn (t.reg .unit 0x10) 2 = true ∧ t.reg .unit 0x50 = s.reg .unit 0x50 ∧
      s.keepsRegs t ((.unit, 0x10) :: (.unit, 0x2C) :: discardRegs .unit) ∧ s.keeps t [.regs, .log, .host, .out]) ∧
  (∀ (s : State) (m : Master) (v : Word) (rivals : List Req), s.grants .unit 0x4C m (v ||| bit 0) rivals → m.overseer = false → m ≠ .yemor →
    ∃ t, exec (.unitResetGo m v rivals) s = .next t ∧
      s.keepsRegs t ((.unit, 0x2C) :: discardRegs .unit) ∧ s.keeps t [.regs, .log, .host, .out]) ∧
  (∀ (s : State) (m : Master) (v : Word) (rivals : List Req), s.grants .unit 0x4C m (v ||| 3) rivals → fld v 31 16 = 0x4B52 →
    m.overseer = true ∨ m = .yemor → bitOn (s.reg .unit 0x50) 0 = true → s.boot.mgtSel = false →
    ∃ t, exec (.unitResetExtend m v rivals) s = .next t ∧ bitOn (t.reg .unit 0x50) 0 = true ∧ t.field .unit 0x50 15 8 = 3 ∧
      t.field .unit 0x50 23 20 = s.field .unit 0x50 23 20 ∧ bitOn (t.reg .unit 0x50) 2 = bitOn (s.reg .unit 0x50) 2 ∧ t.krds = []) ∧
  (∀ (s : State) (v : Word) (rivals : List Req) (i : Island), s.grants .isl 0x54 .mgt v rivals → fld v 31 16 = 0x4943 →
    Island.ofNum (fld v 4 0) = some i → i ∉ [Island.fab, .host, .mgt, .saf] →
    ∃ t, exec (.islandColdReset .mgt v rivals) s = .next t ∧
      (s.runs i = true → t.island i = { s.island i with entry := .resetting }) ∧ (s.runs i = false → (t.island i).cold = true)) ∧
  (∀ (s : State) (i : Island), i ∉ [Island.fab, .host, .mgt, .saf] → (s.island i).cold = true → s.boot.recovery = false →
    ∃ t, exec (.coldrstDone i) s = .next t ∧ (t.island i).mode = .active ∧ (t.island i).cold = false ∧ (t.island i).ready = true ∧
      bitOn (t.reg .isl 0x10) 4 = true ∧ t.saf = s.saf)

/-- HOST_LINK_RESET, PERST_DEASSERT, LINK_TRAINING_START and LINK_UP. A host link reset of a link that has been up takes it
down, puts every function in reset with its configuration space at reset, ends every host read, frees the locks of masters 1
to 5, keeps HLNK_WAKE but for WAKE#, asserts WAKE# where a PF's PME_Status and PME_En are both set, and raises LINK_RESET.
PERST# released before UNIT_READY raises PERST_EARLY. Training starts from a link that is down, or anew from one that is up,
and releases WAKE#. L0 records generation and width, raises LINK_UP, and SPEED_DOWN where either is lower than before. -/
def Obligations.HostLinkComesUpAndIsReset : Prop :=
  (∀ (s : State) (cause : LinkCause), s.host.lost = false →
    ∃ t, exec (.hostLinkReset cause) s = .next t ∧ t.host.link = .down ∧
      (∀ r ∈ t.host.reads, r.failed = true ∧ (r.out = 0 ∧ r.want = [] ∨ r ∈ s.host.reads)) ∧
      (∀ f : Nat, f < 1024 → (t.func f).inReset = true ∧ (t.func f).cfg = FCfg.reset) ∧
      (∀ (k : Nat) (m : Master), Sparse.find t.locks k = some m → m.num = 0 ∨ 5 < m.num) ∧
      t.reg .hlnk 0x4C &&& 0xFFFEFFFF = s.reg .hlnk 0x4C &&& 0xFFFEFFFF ∧
      (∀ k : Fin 4, (s.pme k.val).enable = true → (s.pme k.val).status = true → bitOn (t.reg .hlnk 0x4C) 16 = true) ∧
      ((∀ k : Fin 4, (s.pme k.val).enable = false ∨ (s.pme k.val).status = false) → t.reg .hlnk 0x4C = s.reg .hlnk 0x4C) ∧
      bitOn (t.reg .hlnk 0x10) 1 = true ∧ (cause = .perst → t.host.perst = true) ∧
      t.pwr = s.pwr ∧ t.isl = s.isl ∧ t.tbl = s.tbl ∧ t.cry = s.cry ∧ t.sto = s.sto ∧ t.krds = s.krds ∧
      t.saf = s.saf ∧ t.meter = s.meter) ∧
  (∀ (s : State) (cause : LinkCause), s.host.link = .training → s.host.lastGen = 0 →
    ∃ t, exec (.hostLinkReset cause) s = .next t ∧ t.host.link = .down ∧
      (∀ k : Fin 4, (s.pme k.val).enable = true → (s.pme k.val).status = true → bitOn (t.reg .hlnk 0x4C) 16 = true) ∧
      ((∀ k : Fin 4, (s.pme k.val).enable = false ∨ (s.pme k.val).status = false) → s.keeps t [.host]) ∧
      s.keepsRegs t [(.hlnk, 0x4C), (.hlnk, 0x50)] ∧ s.keeps t [.regs, .host, .out]) ∧
  (∀ s : State, s.host.perst = true →
    ∃ t, exec .perstDeassert s = .next t ∧ t.host.perst = false ∧ (s.host.ready = false → bitOn (t.reg .unit 0x10) 4 = true) ∧
      (s.host.ready = true → s.keeps t [.host]) ∧ s.keepsRegs t (eventRegs .unit) ∧ s.keeps t [.regs, .log, .host, .out]) ∧
  (∀ s : State, s.host.perst = false → s.host.link ≠ .training → s.runs .host = true → s.pwr.started = true →
    ∃ t, exec .linkTrainingStart s = .next t ∧ t.host.link = .training ∧
      t.field .hlnk 0x40 31 16 = (s.field .hlnk 0x40 31 16 + 1) % 65536 ∧ bitOn (t.reg .hlnk 0x4C) 16 = false ∧
      (bitOn (s.reg .hlnk 0x4C) 16 = true → Out.wake false ∈ t.out) ∧
      s.keepsRegs t [(.hlnk, 0x40), (.hlnk, 0x4C)] ∧ s.keeps t [.regs, .host, .out]) ∧
  (∀ (s : State) (gen width : Nat), s.host.link = .training → gen < 16 → width < 32 →
    ∃ t, exec (.linkUp gen width) s = .next t ∧ t.host.link = .l0 ∧ t.host.lastGen = gen ∧ t.host.lastW = width ∧
      t.field .hlnk 0x40 3 0 = gen ∧ t.field .hlnk 0x40 8 4 = width ∧ bitOn (t.reg .hlnk 0x10) 0 = true ∧
      (s.host.lastGen ≠ 0 → gen < s.host.lastGen ∨ width < s.host.lastW → bitOn (t.reg .hlnk 0x10) 2 = true) ∧
      (∀ k : Fin 4, (s.pme k.val).enable = true → (s.pme k.val).status = true → Out.pmPme k.val ∈ t.out) ∧
      s.keepsRegs t ((.hlnk, 0x40) :: (.hlnk, 0x50) :: eventRegs .hlnk) ∧ s.keeps t [.regs, .log, .host, .out])

/-- CONFIG_WRITE, VF_ENABLE, FUNCTION_LEVEL_RESET, FUNC_RESET_GO and FUNC_RESET_DONE. A configuration write before UNIT_READY is
answered with Request Retry Status; after it the field takes a supported value and keeps its previous one for an
unsupported; NumVFs takes up to 1,020 while no VF is enabled, PF0's bus number moves every routing ID. Every function
reports the identity of the unit (vendor 0x1E5C, PF device 0x0B24, VF device 0x0B25, class 0x020000). VF Enable counts a
reset of every VF; clearing it, a Function Level Reset, and FUNC_RESET.GO by master 1 on a VF's page put functions in reset.
A function reset ends once no table is held for direct access and no table request waits: its queues are gone, it is in D0,
RESETS counts it, and its pending quotas are in force. -/
def Obligations.ConfigurationWritesAndFunctionResets : Prop :=
  (∀ (s : State) (f : Fin 1024) (field : CfgField) (v : Nat), s.host.up = true → s.host.ready = false → s.runs .host = true →
    ∃ t, exec (.configWrite f field v) s = .next t ∧ t.out = .retryStatus :: s.out ∧ s.keeps t [.host, .out]) ∧
  (∀ (s : State) (f : Fin 1024) (v : Nat), s.cfgThere f.val = true →
    ∃ t, exec (.configWrite f .maxReadReq v) s = .next t ∧
      (t.func f.val).cfg = { (s.func f.val).cfg with
        maxReadReq := if v ≤ 5 then 128 * 2 ^ v else (s.func f.val).cfg.maxReadReq } ∧
      (∀ g, g ≠ f.val → t.func g = s.func g) ∧ s.keeps t [.funcs]) ∧
  (∀ (s : State) (f : Fin 1024) (v : Nat), s.cfgThere f.val = true →
    ∃ t, exec (.configWrite f .maxPayload v) s = .next t ∧
      (t.func f.val).cfg = { (s.func f.val).cfg with
        maxPayload := if v ≤ 2 then 128 * 2 ^ v else (s.func f.val).cfg.maxPayload } ∧
      (∀ g, g ≠ f.val → t.func g = s.func g) ∧ s.keeps t [.funcs]) ∧
  (∀ (s : State) (v : Nat), s.cfgThere 0 = true → (s.func 0).cfg.vfEnable = false →
    ∃ t, exec (.configWrite 0 .numVFs v) s = .next t ∧ (t.func 0).cfg.numVFs = (if v ≤ 1020 then v else (s.func 0).cfg.numVFs) ∧
      (∀ g, g ≠ 0 → t.func g = s.func g) ∧ s.keeps t [.funcs]) ∧
  (∀ (s : State) (v : Nat), s.cfgThere 0 = true →
    ∃ t, exec (.configWrite 0 .busNumber v) s = .next t ∧ (∀ f : Nat, t.routingId f = (v % 256 * 256 + f) % 65536) ∧ s.keeps t [.host]) ∧
  (∀ (s : State) (k : Fin 4), s.cfgThere k.val = true → (s.pme k.val).enable = false → (s.pme k.val).status = true → s.host.up = true →
    ∃ t, exec (.configWrite (Fin.ofNat 1024 k.val) .pmeEn 1) s = .next t ∧ (t.pme k.val).enable = true ∧ Out.pmPme k.val ∈ t.out) ∧
  (∀ (s : State) (f : Nat), f < 1024 →
    (s.cfgSpace f).subVendor = 0x1E5C ∧ (s.cfgSpace f).classCode = 0x020000 ∧ (s.cfgSpace f).header = 0 ∧ (s.cfgSpace f).intPin = 0 ∧
    (f < 4 → (s.cfgSpace f).vendor = 0x1E5C ∧ (s.cfgSpace f).device = 0x0B24) ∧ (4 ≤ f → (s.cfgSpace f).vendor = 0xFFFF) ∧
    (s.cfgSpace f).subsystem = (if s.hasMeter then 1 else 2) ∧ (s.cfgSpace f).revision = s.field .unit 0x40 31 24 ∧
    (f = 0 → (s.cfgSpace f).srIov = some { totalVFs := 1020, first := 4, stride := 1, vfDevice := 0x0B25, numVFs := (s.func 0).cfg.numVFs, enable := (s.func 0).cfg.vfEnable })) ∧
  (∀ s : State, s.cfgThere 0 = true →
    ∃ t, exec (.configWrite 0 .vfEnable 0) s = .next t ∧ (t.func 0).cfg.vfEnable = false ∧
      (∀ g ∈ s.vfs, (t.func g).inReset = true) ∧ s.keeps t [.funcs]) ∧
  (∀ s : State, s.cfgThere 0 = true → (s.func 0).cfg.vfEnable = false → (s.func 0).cfg.numVFs ≠ 0 → (s.func 0).cfg.numVFs ≤ 1020 →
    ∃ t, exec .vfEnable s = .next t ∧ (t.func 0).cfg.vfEnable = true ∧
      (∀ k, k < (s.func 0).cfg.numVFs → t.field (funcPage (k + 4)) 0x5C 31 24 = min 255 (s.field (funcPage (k + 4)) 0x5C 31 24 + 1) ∧
        (t.func (k + 4)).asg.qFlow = s.field (funcPage (k + 4)) 0x50 15 0)) ∧
  (∀ (s : State) (f : Fin 1024), s.cfgThere f.val = true → f.val ≠ 0 →
    ∃ t, exec (.functionLevelReset f) s = .next t ∧ t.func f.val = { s.func f.val with inReset := true, by123 := true } ∧
      (∀ g, g ≠ f.val → t.func g = s.func g) ∧ s.keeps t [.funcs]) ∧
  (∀ s : State, s.cfgThere 0 = true →
    ∃ t, exec (.functionLevelReset 0) s = .next t ∧ (t.func 0).inReset = true ∧ (t.func 0).cfg.vfEnable = false ∧
      (∀ g ∈ s.vfs, (t.func g).inReset = true) ∧ s.keeps t [.funcs]) ∧
  (∀ (s : State) (f : Fin 1024) (rivals : List Req), 4 ≤ f.val → s.grants (.func f) 0x58 .pf0 (bit 0) rivals →
    ∃ t, exec (.funcResetGo f .pf0 rivals) s = .next t ∧ t.func f.val = { s.func f.val with inReset := true, by123 := true } ∧
      s.keepsRegs t ((.func f, 0x2C) :: discardRegs (.func f)) ∧ s.keeps t [.regs, .funcs, .log, .host, .out]) ∧
  (∀ (s : State) (f : Fin 1024), (∀ h ∈ s.tbl.lock, h = none) → (∀ k, k < 4 → s.treqWaits k = false) → (s.func f.val).inReset = true →
    ∃ t, exec (.funcResetDone [f]) s = .next t ∧ (t.func f.val).inReset = false ∧ (t.func f.val).dstate = .d0 ∧
      (∀ q, q < 256 → t.wq f.val q = none ∧ t.cq f.val q = none) ∧
      t.field (.func f) 0x5C 31 24 = min 255 (s.field (.func f) 0x5C 31 24 + 1) ∧
      ((s.func f.val).by123 = true → bitOn (t.reg (.func f) 0x10) 0 = true) ∧
      (t.func f.val).asg.qMac = s.field (.func f) 0x50 31 16 ∧ (∀ k, Sparse.find t.locks k ≠ some (Master.ofFunc f))) ∧
  (∀ (s : State) (fs : List (Fin 1024)), (s.tbl.lock.any Option.isSome || (List.range 4).any s.treqWaits) = true → exec (.funcResetDone fs) s = .next s)

/-- D3HOT_WRITE, D3HOT_ENTERED, D0_WRITE, L1_ENTRY, LTR_SEND, PME_STATUS_SET, PME_RESEND, MSIX_UNMASK and FUNC_STALL. A D3hot
write starts the entry, which ends in D3hot; a D0 write returns the function, or cancels the entry. An enabled link enters
L1 or its substates. LTR reports the busy or idle latency when the state changes. An enabled wake source sets PME_Status in
every selected PF and sends PM_PME, or asserts WAKE# while the link is down; PM_PME is sent again while PME_Status stays. An
unmasked pending vector sends its message once. A stalled function is reported with its cause. -/
def Obligations.PowerStatesWakeAndMessages : Prop :=
  (∀ (s : State) (f : Fin 1024), s.cfgThere f.val = true → (s.func f.val).dstate = .d0 →
    ∃ t, exec (.d3hotWrite f) s = .next t ∧ t.func f.val = { s.func f.val with dstate := .entering } ∧
      (∀ g, g ≠ f.val → t.func g = s.func g) ∧ s.keeps t [.funcs]) ∧
  (∀ (s : State) (f : Fin 1024), (s.func f.val).dstate = .entering →
    ∃ t, exec (.d3hotEntered f) s = .next t ∧ (t.func f.val).dstate = .d3) ∧
  (∀ (s : State) (f : Fin 1024), (s.func f.val).dstate = .enteringThenD0 →
    ∃ t, exec (.d3hotEntered f) s = .next t ∧ (t.func f.val).dstate = .d0) ∧
  (∀ (s : State) (f : Fin 1024), s.cfgThere f.val = true → (s.func f.val).dstate = .d3 →
    ∃ t, exec (.d0Write f) s = .next t ∧ t.func f.val = { s.func f.val with dstate := .d0 } ∧ s.keeps t [.funcs]) ∧
  (∀ (s : State) (f : Fin 1024), s.cfgThere f.val = true → (s.func f.val).dstate = .entering →
    ∃ t, exec (.d0Write f) s = .next t ∧ t.func f.val = { s.func f.val with dstate := .enteringThenD0 } ∧ s.keeps t [.funcs]) ∧
  (∀ s : State, s.host.link = .l0 → (s.func 0).cfg.aspmL1 = true →
    ∃ t, exec (.l1Entry 0) s = .next t ∧ t.host = { s.host with link := .l1 } ∧ s.keeps t [.host]) ∧
  (∀ s : State, s.host.link = .l0 → (s.func 0).cfg.aspmL1 = true → (s.func 0).cfg.l12 = true →
    ∃ t, exec (.l1Entry 2) s = .next t ∧ t.host = { s.host with link := .l12 } ∧ s.keeps t [.host]) ∧
  (∀ s : State, s.host.up = true → (s.func 0).cfg.ltrEnable = true → s.busy = true → s.host.ltrBusy ≠ some true →
    ∃ t, exec .ltrSend s = .next t ∧ t.out = .ltr (s.field .hlnk 0x54 15 0) :: s.out ∧ t.host.ltrBusy = some true ∧
      s.keeps t [.host, .out]) ∧
  (∀ s : State, s.host.up = true → (s.func 0).cfg.ltrEnable = true → s.busy = false → s.host.ltrBusy = some true →
    ∃ t, exec .ltrSend s = .next t ∧ t.out = .ltr (s.field .hlnk 0x54 31 16) :: s.out ∧ t.host.ltrBusy = some false ∧
      s.keeps t [.host, .out]) ∧
  (∀ (s : State) (k : Fin 4), bitOn (s.reg .hlnk 0x4C) 8 = true →
    ∃ t, exec (.pmeStatusSet 0 k) s = .next t ∧
      (∀ j : Fin 4, bitOn (s.reg .hlnk 0x4C) j.val = true → (t.pme j.val).status = true ∧
        ((s.pme j.val).status = false → (s.pme j.val).enable = true → s.host.up = true → Out.pmPme j.val ∈ t.out) ∧
        ((s.pme j.val).status = false → (s.pme j.val).enable = true → s.host.link = .down → bitOn (t.reg .hlnk 0x4C) 16 = true)) ∧
      s.keepsRegs t ((.hlnk, 0x4C) :: (.hlnk, 0x50) :: eventRegs .hlnk) ∧ s.keeps t [.regs, .log, .host, .out]) ∧
  (∀ (s : State) (k : Fin 4), (s.pme k.val).enable = true → (s.pme k.val).status = true → (s.pme k.val).sent = true →
    s.host.up = true →
    ∃ t, exec (.pmeResend k) s = .next t ∧ Out.pmPme k.val ∈ t.out ∧ bitOn (t.reg .hlnk 0x10) 5 = true ∧
      t.field .hlnk 0x50 15 0 = (s.field .hlnk 0x50 15 0 + 1) % 65536 ∧ s.keeps t [.regs, .log, .host, .out]) ∧
  (∀ (s : State) (f : Fin 1024) (v : Nat), 2048 * f.val + v ∈ s.host.pba → s.canSend f.val = true → (s.msix f.val v).masked = false →
    v < (s.func f.val).asg.vectors →
    ∃ t, exec (.msixUnmask f v) s = .next t ∧ t.out = .msix f.val v (s.func f.val).cfg.idoReq :: s.out ∧ 2048 * f.val + v ∉ t.host.pba ∧
      s.keeps t [.host, .out]) ∧
  (∀ (s : State) (f : Fin 1024), s.funcRuns f.val = true → s.hasWork f.val = true → bitOn (s.reg (.func f) 0x5C) 3 = false →
    ∃ t, exec (.funcStall f) s = .next t ∧ bitOn (t.reg (.func f) 0x5C) 3 = true ∧
      t.field (.func f) 0x5C 23 20 = s.stallCause f.val ∧ t.reg (.func 0) 0x64 = word f.val ∧
      bitOn (t.reg (.func f) 0x10) 1 = true ∧ bitOn (t.reg (.func 0) 0x10) 3 = true ∧
      t.queues = s.queues ∧ s.keeps t [.regs, .funcs, .log, .host, .out])

/-- BAR_ACCESS, READ_COMPLETION and COMPLETION_TIMEOUT complete for every target and every purpose of a read. BAR_ACCESS: a
request to a function that is not in D0 is answered as Unsupported Request. To one in D0 and no reset: a write of a page is
the write of the function's master there, one of the MSI-X table sets the entry's word, a doorbell rings its queue, one of
the record ring is refused, one that misses a window is counted, and the PBA, the aperture and offsets without a meaning
take none; a read answers the page's register, the MSI-X table's, PBA's, record ring's or aperture's bytes, else zeros, and
its completion follows. In reset a write has no effect (a doorbell is counted) and a read answers zeros. A poisoned write is
discarded and counted. READ_COMPLETION: while HOST does not run it is counted as late, an unknown one as unexpected; a good
one reduces what is outstanding and lets the next part go out; the last one ends the read, but for a poll, which
DESCRIPTOR_READ_RETURN ends. A poisoned one and COMPLETION_TIMEOUT end the whole read with its work: a poll is read again
later, a burst's cells return, an image WRITE or a key package ends with CODE 5, a table transfer, a darning visit and a
program load find their read failed; both are counted with their event, and a timeout is recorded by the function, by AER
where it has it, its late completions being unexpected. -/
def Obligations.BarAccessesAndHostReads : Prop :=
  (∀ (s : State) (f : Fin 1024) (bar off width : Nat) (w : Option (BitVec 64)) (poison : Bool), s.barThere f.val = true →
    (s.func f.val).dstate ≠ .d0 →
    ∃ t, exec (.barAccess f bar off width w poison) s = .next t ∧ t.out = .unsupported f.val :: s.out ∧ s.keeps t [.host, .out]) ∧
  (∀ (s : State) (f : Fin 1024) (v : BitVec 64), s.barThere f.val = true → (s.func f.val).dstate = .d0 →
    (s.func f.val).inReset = false → 4 ≤ f.val → s.grants (.func f) 0x108 (Master.ofFunc f) (v.setWidth 32) [] →
    ∃ t, exec (.barAccess f 0 0x108 4 (some v) false) s = .next t ∧ t.reg (.func f) 0x108 = v.setWidth 32 ∧
      s.keepsRegs t ((.func f, 0x108) :: (.func f, 0x2C) :: discardRegs (.func f)) ∧ s.keeps t [.regs, .log, .host, .out]) ∧
  (∀ (s : State) (f : Fin 1024) (bar off width : Nat) (v : BitVec 64) (p : Page) (o : Nat), s.barThere f.val = true →
    (s.func f.val).dstate = .d0 → (s.func f.val).inReset = false → s.barTarget f bar off = .page p o →
    exec (.barAccess f bar off width (some v) false) s =
      .next (s.settle p [{ master := Master.ofFunc f, off := BitVec.ofNat 12 o, width := width, kind := .write (v.setWidth 32) }])) ∧
  (∀ (s : State) (f : Fin 1024) (bar off : Nat) (v : BitVec 64) (k : Nat), s.barThere f.val = true → (s.func f.val).dstate = .d0 →
    (s.func f.val).inReset = false → s.barTarget f bar off = .msix (16 * k + 8) → k < (s.func f.val).asg.vectors →
    2048 * f.val + k ∉ s.host.pba →
    ∃ t, exec (.barAccess f bar off 4 (some v) false) s = .next t ∧
      t.msix f.val k = { s.msix f.val k with data := v.setWidth 32 } ∧ s.keeps t [.host]) ∧
  (∀ (s : State) (f : Fin 1024) (bar off : Nat) (v : BitVec 64) (k : Nat), s.barThere f.val = true → (s.func f.val).dstate = .d0 →
    (s.func f.val).inReset = false → s.barTarget f bar off = .msix (16 * k) → k < (s.func f.val).asg.vectors →
    2048 * f.val + k ∉ s.host.pba →
    ∃ t, exec (.barAccess f bar off 8 (some v) false) s = .next t ∧
      t.msix f.val k = { s.msix f.val k with addrLo := v.setWidth 32 &&& 0xFFFFFFFC, addrHi := (v >>> 32).setWidth 32 } ∧
      s.keeps t [.host]) ∧
  (∀ (s : State) (f : Fin 1024) (bar off : Nat) (v : BitVec 64) (k : Nat), s.barThere f.val = true → (s.func f.val).dstate = .d0 →
    (s.func f.val).inReset = false → s.barTarget f bar off = .msix (16 * k + 12) → k < (s.func f.val).asg.vectors →
    2048 * f.val + k ∈ s.host.pba → s.canSend f.val = true → bitOn (v.setWidth 32 : Word) 0 = false →
    ∃ t, exec (.barAccess f bar off 4 (some v) false) s = .next t ∧ t.msix f.val k = { s.msix f.val k with masked := false } ∧
      t.out = .msix f.val k (s.func f.val).cfg.idoReq :: s.out ∧ 2048 * f.val + k ∉ t.host.pba ∧ s.keeps t [.host, .out]) ∧
  (∀ (s : State) (f : Fin 1024) (bar off width : Nat) (v : BitVec 64) (q : Fin 256), s.barThere f.val = true →
    (s.func f.val).dstate = .d0 → (s.func f.val).inReset = false → s.barTarget f bar off = .doorbell (128 * q.val) →
    exec (.barAccess f bar off width (some v) false) s = exec (.wqDoorbell f q width (v.setWidth 32)) s) ∧
  (∀ (s : State) (f : Fin 1024) (bar off width : Nat) (v : BitVec 64) (q : Fin 256), s.barThere f.val = true →
    (s.func f.val).dstate = .d0 → (s.func f.val).inReset = false → s.barTarget f bar off = .doorbell (128 * q.val + 8) →
    exec (.barAccess f bar off width (some v) false) s = exec (.cqDoorbell f q width (v.setWidth 32)) s) ∧
  (∀ (s : State) (f : Fin 1024) (bar off width : Nat) (v : BitVec 64) (o : Nat), s.barThere f.val = true →
    (s.func f.val).dstate = .d0 → s.barTarget f bar off = .doorbell o →
    (s.func f.val).inReset = true ∨ (o % 128 ≠ 0 ∧ o % 128 ≠ 8) →
    ∃ t, exec (.barAccess f bar off width (some v) false) s = .next t ∧ t.reg .wq 0x44 = s.reg .wq 0x44 + 1 ∧
      s.keepsRegs t [(.wq, 0x44)] ∧ s.keeps t [.regs]) ∧
  (∀ (s : State) (f : Fin 1024) (bar off width : Nat) (v : BitVec 64) (o : Nat), s.barThere f.val = true →
    (s.func f.val).dstate = .d0 → (s.func f.val).inReset = false → s.barTarget f bar off = .ring o →
    ∃ t, exec (.barAccess f bar off width (some v) false) s = .next t ∧
      t.field .prec 0x64 31 0 = (s.field .prec 0x64 31 0 + 1) % 2 ^ 32 ∧
      s.keepsRegs t (discardRegs .met) ∧ s.keeps t [.regs, .log, .host, .out]) ∧
  (∀ (s : State) (f : Fin 1024) (bar off width : Nat) (v : BitVec 64) (o : Nat), s.barThere f.val = true →
    (s.func f.val).dstate = .d0 → s.barTarget f bar off ∈ [.pba o, .aperture o, .nothing] →
    exec (.barAccess f bar off width (some v) false) s = .next s) ∧
  (∀ (s : State) (f : Fin 1024) (bar off width : Nat) (v : BitVec 64), s.barThere f.val = true →
    (s.func f.val).dstate = .d0 → (s.func f.val).inReset = true → (∀ o : Nat, s.barTarget f bar off ≠ .doorbell o) →
    exec (.barAccess f bar off width (some v) false) s = .next s) ∧
  (∀ (s : State) (f : Fin 1024) (off : Nat), s.barThere f.val = true → (s.func f.val).dstate = .d0 →
    (s.func f.val).inReset = false → 4 ≤ f.val → off < 0x1000 → off % 4 = 0 → off ≠ 0x24 → s.takes .host →
    ∃ t, exec (.barAccess f 0 off 4 none false) s = .next t ∧
      t.out = .completion f.val (s.func f.val).cfg.idoCpl :: .data (Master.ofFunc f) (s.view (.func f) off) :: s.out ∧
      s.keeps t [.host, .out]) ∧
  (∀ (s : State) (f : Fin 1024) (bar off width : Nat) (poison : Bool) (p : Page) (o : Nat), s.barThere f.val = true →
    (s.func f.val).dstate = .d0 → (s.func f.val).inReset = false → s.barTarget f bar off = .page p o →
    exec (.barAccess f bar off width none poison) s =
      .next ((s.readBy p (Master.ofFunc f) o width).emit (.completion f.val (s.func f.val).cfg.idoCpl))) ∧
  (∀ (s : State) (f : Fin 1024) (bar off width o : Nat) (poison : Bool) (b : List Byte), s.barThere f.val = true →
    (s.func f.val).dstate = .d0 → (s.func f.val).inReset = false →
    (s.barTarget f bar off, b) ∈ [(.msix o, s.msixBytes f.val o width), (.pba o, s.pbaBytes f.val o width),
      (.ring o, s.ringBytes o width), (.doorbell o, List.replicate width 0), (.nothing, List.replicate width 0)] →
    ∃ t, exec (.barAccess f bar off width none poison) s = .next t ∧
      t.out = .completion f.val (s.func f.val).cfg.idoCpl :: ((wordsOf b).map (fun w => Out.data (Master.ofFunc f) w)).reverse ++ s.out ∧
      s.keeps t [.host, .out]) ∧
  (∀ (s : State) (f : Fin 1024) (bar off width o : Nat) (poison : Bool), s.barThere f.val = true →
    (s.func f.val).dstate = .d0 → (s.func f.val).inReset = false → s.barTarget f bar off = .aperture o → s.takes .tbl →
    ∃ t, exec (.barAccess f bar off width none poison) s = .next t ∧
      t.out = .completion f.val (s.func f.val).cfg.idoCpl ::
        ((wordsOf (s.apertureBytes o width)).map (fun w => Out.data (Master.ofFunc f) w)).reverse ++ s.out ∧
      s.keeps t [.host, .out]) ∧
  (∀ (s : State) (f : Fin 1024) (bar off width : Nat) (poison : Bool), s.barThere f.val = true →
    (s.func f.val).dstate = .d0 → (s.func f.val).inReset = true →
    ∃ t, exec (.barAccess f bar off width none poison) s = .next t ∧
      t.out = .completion f.val (s.func f.val).cfg.idoCpl ::
        ((wordsOf (List.replicate width 0)).map (fun w => Out.data (Master.ofFunc f) w)).reverse ++ s.out ∧
      s.keeps t [.host, .out]) ∧
  (∀ (s : State) (f : Fin 1024) (bar off width : Nat) (v : BitVec 64), s.barThere f.val = true → (s.func f.val).dstate = .d0 →
    (s.func f.val).inReset = false → s.barTarget f bar off = .miss →
    ∃ t, exec (.barAccess f bar off width (some v) false) s = .next t ∧ t.reg .hwin 0x204 = s.reg .hwin 0x204 + 1 ∧
      t.field .hwin 0x200 25 0 = off % 2 ^ 26 ∧ bitOn (t.reg .hwin 0x200) 29 = true ∧ bitOn (t.reg .hwin 0x10) 0 = true ∧
      s.keepsRegs t ((.hwin, 0x200) :: (.hwin, 0x204) :: eventRegs .hwin) ∧ s.keeps t [.regs, .log, .host, .out]) ∧
  (∀ (s : State) (f : Fin 1024) (bar off width : Nat) (poison : Bool), s.barThere f.val = true → (s.func f.val).dstate = .d0 →
    (s.func f.val).inReset = false → s.barTarget f bar off = .miss →
    ∃ t, exec (.barAccess f bar off width none poison) s = .next t ∧ t.reg .hwin 0x204 = s.reg .hwin 0x204 + 1 ∧
      t.field .hwin 0x200 25 0 = off % 2 ^ 26 ∧ bitOn (t.reg .hwin 0x200) 29 = false ∧ bitOn (t.reg .hwin 0x10) 0 = true ∧
      s.keepsRegs t ((.hwin, 0x200) :: (.hwin, 0x204) :: eventRegs .hwin) ∧ s.keeps t [.regs, .log, .host, .out]) ∧
  (∀ (s : State) (f : Fin 1024) (bar off width : Nat) (v : BitVec 64), s.barThere f.val = true → (s.func f.val).dstate = .d0 →
    ∃ t, exec (.barAccess f bar off width (some v) true) s = .next t ∧
      t.field .hlnk 0x48 31 16 = (s.field .hlnk 0x48 31 16 + 1) % 65536 ∧ bitOn (t.reg .hlnk 0x10) 4 = true ∧
      s.keepsRegs t ((.hlnk, 0x48) :: eventRegs .hlnk) ∧ s.keeps t [.regs, .log, .host, .out]) ∧
  (∀ (s : State) (id : Nat) (poison : Bool), s.runs .host = false →
    ∃ t, exec (.readCompletion id poison) s = .next t ∧ t.reg .isl 0x60 = s.reg .isl 0x60 + 1 ∧ t.host.reads = s.host.reads ∧
      s.keepsRegs t [(.isl, 0x60)] ∧ s.keeps t [.regs, .host]) ∧
  (∀ (s : State) (id : Nat) (poison : Bool), s.runs .host = true → s.readOf id = none →
    ∃ t, exec (.readCompletion id poison) s = .next t ∧
      t.field .hlnk 0x44 31 16 = (s.field .hlnk 0x44 31 16 + 1) % 65536 ∧ s.keepsRegs t [(.hlnk, 0x44)] ∧ s.keeps t [.regs, .host]) ∧
  (∀ (s : State) (id : Nat) (r : HostRead), s.runs .host = true → s.readOf id = some r → (∀ x ∈ s.host.reads, x.want = []) → 1 < r.out →
    exec (.readCompletion id false) s = .next { s with host := { s.host with
      reads := s.host.reads.map (fun (x : HostRead) => if x.id = id then { x with out := x.out - 1 } else x) } }) ∧
  (∀ (s : State) (id : Nat) (r : HostRead) (a n : Nat) (l : List (Nat × Nat)), s.runs .host = true → s.host.reads = [r] → r.id = id →
    r.want = (a, n) :: l → 0 < r.out → r.out ≤ s.readLimit r.f → r.out ≤ 2048 → s.mayRead r.f = true →
    ∃ t, exec (.readCompletion id false) s = .next t ∧ Out.hostRead r.f a n (s.func r.f).cfg.idoReq ∈ t.out ∧ s.keeps t [.host, .out]) ∧
  (∀ (s : State) (id q n : Nat) (r : HostRead), s.runs .host = true → s.readOf id = some r → r.use = .poll q n → r.want = [] → r.out = 1 →
    exec (.readCompletion id false) s = .next s) ∧
  (∀ (s : State) (id : Nat) (r : HostRead), s.runs .host = true → s.readOf id = some r → (∀ x ∈ s.host.reads, x.want = []) → r.out = 1 →
    (∀ q n, r.use ≠ .poll q n) → r.use ≠ .keys → (∀ a ∈ s.ham.granted, r.use = .burst a.id → a.op = none) →
    exec (.readCompletion id false) s = .next { s with host := { s.host with
      reads := s.host.reads.filter (fun (x : HostRead) => decide (x.id ≠ id)) } }) ∧
  (∀ (s : State) (id b : Nat) (r : HostRead), s.runs .host = true → s.readOf id = some r → r.want = [] → r.out = 1 →
    r.use = .burst b → (∃ a ∈ s.ham.granted, a.id = b) → (∀ a ∈ s.ham.granted, a.id = b → a.op ≠ none) →
    (∀ a ∈ s.ham.bursts, a.id ≠ b) → b < s.nextId → id < s.host.nextRead →
    ∃ t, exec (.readCompletion id false) s = .next t ∧ (∀ a ∈ t.ham.granted, a.id ≠ b) ∧ (∀ x ∈ t.host.reads, x.id ≠ id)) ∧
  (∀ (s : State) (id : Nat) (r : HostRead) (b : List Byte) (ok : Bool), s.runs .host = true → s.readOf id = some r → r.want = [] →
    r.out = 1 → r.use = .keys → s.keys.wait = some (b, ok) →
    ∃ t, exec (.readCompletion id false) s = .next t ∧ t.keys.wait = none ∧ (∀ x ∈ t.host.reads, x.id ≠ id) ∧
      bitOn (t.reg .img 0x10) 0 = true ∧ (s.inU2 = true → t.field .img 0x58 7 0 = 1)) ∧
  (∀ (s : State) (id q n : Nat) (r : HostRead) (w : WqSt), s.runs .host = true → s.readOf id = some r → r.use = .poll q n →
    s.wq r.f q = some w →
    ∃ t, exec (.readCompletion id true) s = .next t ∧
      t.wq r.f q = some { w with reading := none, empty := if w.spec then w.empty + 1 else w.empty,
                                 idle := w.idle || (w.spec && decide (64 ≤ w.empty + 1)) } ∧
      (∀ x ∈ t.host.reads, x.id = id → x.failed = true) ∧
      t.field .hlnk 0x48 15 0 = (s.field .hlnk 0x48 15 0 + 1) % 65536 ∧ bitOn (t.reg .hlnk 0x10) 4 = true) ∧
  (∀ (s : State) (id : Nat) (r : HostRead), s.runs .host = true → s.readOf id = some r → (∀ q n, r.use ≠ .poll q n) →
    ∃ t, exec (.readCompletion id true) s = .next t ∧
      (∀ b, r.use = .burst b → ∀ a ∈ t.ham.granted, a.id ≠ b) ∧
      (r.use ∈ [.table, .shadow] ∨ (∃ c, r.use = .program c) → { r with want := [], out := 0, failed := true } ∈ t.host.reads) ∧
      (r.use = .image → t.boot.write = none ∧ t.reg .img 0x58 = 5) ∧ (r.use = .keys → t.keys.wait = none ∧ t.reg .img 0x58 = 5) ∧
      (∀ x ∈ t.host.reads, x.id = id → x.failed = true) ∧
      t.field .hlnk 0x48 15 0 = (s.field .hlnk 0x48 15 0 + 1) % 65536 ∧ bitOn (t.reg .hlnk 0x10) 4 = true) ∧
  (∀ (s : State) (id q n : Nat) (r : HostRead) (w : WqSt), s.readOf id = some r → r.use = .poll q n → s.wq r.f q = some w →
    ∃ t, exec (.completionTimeout id) s = .next t ∧
      t.wq r.f q = some { w with reading := none, empty := if w.spec then w.empty + 1 else w.empty,
                                 idle := w.idle || (w.spec && decide (64 ≤ w.empty + 1)) } ∧
      (t.func r.f).timedOut = true ∧ (r.f < 4 → (t.func r.f).aerTimeout = true) ∧
      (4 ≤ r.f → (t.func r.f).aerTimeout = (s.func r.f).aerTimeout) ∧ id ∈ t.host.ended ∧
      t.field .hlnk 0x44 15 0 = (s.field .hlnk 0x44 15 0 + 1) % 65536 ∧ bitOn (t.reg .hlnk 0x10) 3 = true) ∧
  (∀ (s : State) (id : Nat) (r : HostRead), s.readOf id = some r → (∀ q n, r.use ≠ .poll q n) →
    ∃ t, exec (.completionTimeout id) s = .next t ∧
      (∀ b, r.use = .burst b → ∀ a ∈ t.ham.granted, a.id ≠ b) ∧
      (r.use ∈ [.table, .shadow] ∨ (∃ c, r.use = .program c) → { r with want := [], out := 0, failed := true } ∈ t.host.reads) ∧
      (r.use = .image → t.boot.write = none ∧ t.reg .img 0x58 = 5) ∧ (r.use = .keys → t.keys.wait = none ∧ t.reg .img 0x58 = 5) ∧
      (∀ x ∈ t.host.reads, x.id = id → x.failed = true) ∧ (t.func r.f).timedOut = true ∧ id ∈ t.host.ended ∧
      t.field .hlnk 0x44 15 0 = (s.field .hlnk 0x44 15 0 + 1) % 65536 ∧ bitOn (t.reg .hlnk 0x10) 3 = true) ∧
  (∀ (s : State) (id : Nat), s.readOf id = none → exec (.completionTimeout id) s = .next s)

/-- QUEUE_ENABLE, WQ_DOORBELL and CQ_DOORBELL. An applied FUNC_QCMD.ENABLE whose checks pass copies the staged base, size, kind
and completion queue into the selected queue and answers RESULT 1; an index beyond the function's range answers RESULT 2 and
enables nothing. A work-queue doorbell within the ring replaces the tail and leaves a poll pending, restarts the empty-poll
count of an idle queue, and counts as coalesced if a poll was pending; beyond the ring it is discarded and counted. A
completion-queue doorbell replaces the head; ARM arms an empty queue and sends its message at once where entries stand. -/
def Obligations.QueuesAreEnabledAndRungByDoorbells : Prop :=
  (∀ (s : State) (f : Fin 1024) (m : Master) (rivals : List Req), s.grants (.func f) 0x114 m (bit 0) rivals →
    bitOn (s.reg (.func f) 0x100) 15 = false → s.field (.func f) 0x100 7 0 < (s.func f.val).asg.wqCount →
    s.field (.func f) 0x10C 3 0 ≤ 10 → (s.cq f.val (s.field (.func f) 0x10C 15 8)).isSome = true →
    bitOn (s.reg (.func f) 0x10C) 6 = false → s.wq f.val (s.field (.func f) 0x100 7 0) = none →
    ∃ t w, exec (.queueEnable f m rivals) s = .next t ∧ t.wq f.val (s.field (.func f) 0x100 7 0) = some w ∧
      w.base = s.reg64 (.func f) 0x104 / 4096 * 4096 ∧ w.size = 64 * 2 ^ s.field (.func f) 0x10C 3 0 ∧
      w.kind = s.field (.func f) 0x10C 5 4 ∧ w.cq = s.field (.func f) 0x10C 15 8 ∧ w.fetch = 0 ∧ w.lap = true ∧ w.items = [] ∧
      t.field (.func f) 0x118 11 8 = 1 ∧
      s.keepsRegs t ((.func f, 0x118) :: (.func f, 0x2C) :: discardRegs (.func f)) ∧ s.keeps t [.regs, .queues, .log, .host, .out]) ∧
  (∀ (s : State) (f : Fin 1024) (m : Master) (rivals : List Req), s.grants (.func f) 0x114 m (bit 0) rivals →
    bitOn (s.reg (.func f) 0x100) 15 = true → s.field (.func f) 0x100 7 0 < (s.func f.val).asg.cqCount →
    s.field (.func f) 0x10C 3 0 ≤ 10 → s.cq f.val (s.field (.func f) 0x100 7 0) = none →
    ∃ t, exec (.queueEnable f m rivals) s = .next t ∧
      t.cq f.val (s.field (.func f) 0x100 7 0) = some
        { base := s.reg64 (.func f) 0x104 / 4096 * 4096, size := 64 * 2 ^ s.field (.func f) 0x10C 3 0,
          vector := s.field (.func f) 0x10C 26 16, prod := 0, lap := true, head := 0, armed := false } ∧ t.field (.func f) 0x118 11 8 = 1) ∧
  (∀ (s : State) (f : Fin 1024) (m : Master) (rivals : List Req), s.grants (.func f) 0x114 m (bit 0) rivals →
    bitOn (s.reg (.func f) 0x100) 15 = false → (s.func f.val).asg.wqCount ≤ s.field (.func f) 0x100 7 0 →
    ∃ t, exec (.queueEnable f m rivals) s = .next t ∧ t.queues = s.queues ∧ t.field (.func f) 0x118 11 8 = 2) ∧
  (∀ (s : State) (f : Fin 1024) (q : Fin 256) (width : Nat) (v : Word) (w : WqSt), s.barThere f.val = true →
    (s.func f.val).dstate = .d0 → (s.func f.val).inReset = false → width = 4 ∨ width = 8 → s.wq f.val q.val = some w →
    fld v 15 0 < w.size →
    ∃ t, exec (.wqDoorbell f q width v) s = .next t ∧
      t.wq f.val q.val = some { w with tail := fld v 15 0, pend := true, idle := false, empty := if w.idle then 0 else w.empty } ∧
      t.reg .wq 0x40 = (if w.pend then s.reg .wq 0x40 + 1 else s.reg .wq 0x40) ∧
      (∀ k, k ≠ 256 * f.val + q.val → Sparse.find t.queues.wq k = Sparse.find s.queues.wq k) ∧ t.queues.cq = s.queues.cq ∧
      s.keepsRegs t [(.wq, 0x40)] ∧ s.keeps t [.regs, .queues]) ∧
  (∀ (s : State) (f : Fin 1024) (q : Fin 256) (width : Nat) (v : Word) (w : WqSt), s.barThere f.val = true →
    (s.func f.val).dstate = .d0 → s.wq f.val q.val = some w → w.size ≤ fld v 15 0 →
    ∃ t, exec (.wqDoorbell f q width v) s = .next t ∧ t.reg .wq 0x44 = s.reg .wq 0x44 + 1 ∧ s.keepsRegs t [(.wq, 0x44)] ∧
      s.keeps t [.regs]) ∧
  (∀ (s : State) (f : Fin 1024) (q : Fin 256) (width : Nat) (v : Word) (c : CqSt), s.barThere f.val = true →
    (s.func f.val).dstate = .d0 → (s.func f.val).inReset = false → width = 4 ∨ width = 8 → s.cq f.val q.val = some c →
    fld v 15 0 < c.size →
    ∃ t, exec (.cqDoorbell f q width v) s = .next t ∧
      t.cq f.val q.val = some
        { c with head := fld v 15 0, armed := if bitOn v 31 then decide (fld v 15 0 = c.prod) else c.armed } ∧
      (bitOn v 31 = true → fld v 15 0 ≠ c.prod → c.vector < (s.func f.val).asg.vectors → s.canSend f.val = true →
        (s.msix f.val c.vector).masked = false → t.out = .msix f.val c.vector (s.func f.val).cfg.idoReq :: s.out) ∧
      (bitOn v 31 = false ∨ fld v 15 0 = c.prod → s.keeps t [.queues]) ∧ s.keeps t [.queues, .host, .out])

/-- WQ_POLL and DESCRIPTOR_READ_RETURN. An eligible queue whose turn it is in the round-robin order reads at most 32 descriptors
from its fetch point, a bounded one only up to its tail, and no more than the 8,192 items in flight leave room for: the read
is outstanding and the poll no longer pending. A queue whose turn it is not does nothing. Of the descriptors that return,
the leading owned ones are taken in order and move the fetch point; the rest are discarded and counted. -/
def Obligations.DescriptorsAreFetchedAndTaken : Prop :=
  (∀ (s : State) (f : Fin 1024) (q : Fin 256) (w : WqSt) (n : Nat), s.wq f.val q.val = some w → s.pollable f.val w = true →
    s.hasTurn f.val q.val = true → n = min (8192 - (s.itemsInFlight + s.pollsOut)) (min 32 (if w.spec then 32 else w.ahead)) → 0 < n →
    (∀ r ∈ s.host.reads, r.id ≠ s.host.nextRead) →
    ∃ t, exec (.wqPoll f q) s = .next t ∧
      t.wq f.val q.val = some { w with pend := false, reading := some s.host.nextRead } ∧
      (t.host.reads.getLast?.map (fun r => (r.id, r.f, r.use))) = some (s.host.nextRead, f.val, ReadFor.poll q.val n) ∧
      (s.host.reads = [] → s.mayRead f.val = true → (s.ringParts f.val w n).head?.all (fun x =>
        t.out.contains (Out.hostRead f.val x.1 x.2 (s.func f.val).cfg.idoReq)) = true) ∧
      t.host.nextRead = s.host.nextRead + 1 ∧ s.keeps t [.queues, .host, .out]) ∧
  (∀ (s : State) (f : Fin 1024) (q : Fin 256) (w : WqSt), s.wq f.val q.val = some w → s.pollable f.val w = true →
    s.hasTurn f.val q.val = false → exec (.wqPoll f q) s = .next s) ∧
  (∀ (s : State) (f : Fin 1024) (q : Fin 256) (w : WqSt), s.wq f.val q.val = some w → s.pollable f.val w = true →
    s.hasTurn f.val q.val = true → w.spec = false → w.ahead = 0 →
    ∃ t, exec (.wqPoll f q) s = .next t ∧ t.wq f.val q.val = some { w with pend := false } ∧ s.keeps t [.queues]) ∧
  (∀ (s : State) (id q n : Nat) (descs : List (List Byte)) (r : HostRead) (w : WqSt),
    s.host.reads.find? (fun r => r.id = id) = some r → r.use = .poll q n → r.want = [] → r.out = 1 →
    s.wq r.f q = some w → descs.length = n → s.runs .host = true → w.kind = 0 → w.aborting = false →
    ∃ t w', exec (.descriptorReadReturn id descs) s = .next t ∧ t.wq r.f q = some w' ∧
      w'.items = w.items ++ w.ownedRun 0 descs ∧ w'.fetch = (w.fetch + (w.ownedRun 0 descs).length) % w.size ∧ w'.reading = none ∧
      (∀ x ∈ t.host.reads, x.id ≠ id) ∧
      (w.spec = true → (w.ownedRun 0 descs).length ≠ n → t.reg .wq 0x48 = s.reg .wq 0x48 + 1) ∧
      (w.spec = false → (w.ownedRun 0 descs).length ≠ n → t.reg .wq 0x4C = s.reg .wq 0x4C + 1) ∧
      s.keeps t [.regs, .queues, .host, .funcs, .log, .out])

/-- TXD, NOP_DESCRIPTOR and COMPLETION_WRITE. The next frame of a transmit queue whose descriptors pass the checks asks for its
cells and then its data; once both are there it becomes a frame of its function in the dispatch queue of cluster f mod 8,
its bytes the gathered ones where no flag changes them; one that fails finishes with its status. A NOP that may start
finishes OK; inside an open crypto or storage operation it ends that operation with BAD_OP first. The next finished batch or
frame gets an entry: its 16 bytes are written to host memory at the producer of its completion queue, with the queue's
phase; the producer moves on and the covered descriptors leave the queue. -/
def Obligations.FramesAreSentAndEntriesWritten : Prop :=
  (∀ (s : State) (f : Fin 1024) (q : Fin 256) (data : List Byte) (w : WqSt) (run : List Item) (e : Item) (b : Burst),
    s.wq f.val q.val = some w → w.kind = 0 → s.funcReports f.val = true → w.nextRun (fun _ => true) = some run →
    lastOf run = some e → txFault run = none → s.grantOf f.val q.val e.idx = some b → s.reading (.burst b.id) = false →
    data.length = lenOf run →
    ∃ t x, exec (.txd f q data) s = .next t ∧ t.frames = s.frames ++ [x] ∧ x.id = s.nextId ∧ t.nextId = s.nextId + 1 ∧
      x.func = true ∧ x.src = f.val ∧ x.wq = q.val ∧ x.last = e.idx ∧ x.cells = b.cells ∧ x.loc = .dispatch (f.val % 8) 8 ∧
      (e.flags % 8 = 0 → bytesOf x.nonets = data) ∧ s.keeps t [.queues, .ham, .host, .frames, .nextId, .out]) ∧
  (∀ (s : State) (f : Fin 1024) (q : Fin 256) (data : List Byte) (w : WqSt) (run : List Item) (e : Item),
    s.wq f.val q.val = some w → w.kind = 0 → s.funcRuns f.val = true → w.nextRun (fun _ => true) = some run →
    lastOf run = some e → txFault run = none → s.grantOf f.val q.val e.idx = none → s.ham.bursts = [] →
    0 < bufCells (bufsOf run) → bufCells (bufsOf run) ≤ 64 → s.admits (funcChan f.val 0) (bufCells (bufsOf run)) = true →
    ∃ t, exec (.txd f q data) s = .next t ∧ (t.grantOf f.val q.val e.idx).map (fun b => (b.cells, b.bufs)) =
        some (bufCells (bufsOf run), bufsOf run) ∧
      t.heldBy (funcChan f.val 0) = s.heldBy (funcChan f.val 0) + bufCells (bufsOf run) ∧
      t.frames = s.frames ∧ s.keeps t [.queues, .ham, .host, .nextId, .out]) ∧
  (∀ (s : State) (f : Fin 1024) (q : Fin 256) (data : List Byte) (w : WqSt) (run : List Item) (e : Item) (st : Nat),
    s.wq f.val q.val = some w → w.kind = 0 → s.funcReports f.val = true → w.nextRun (fun _ => true) = some run →
    lastOf run = some e → txFault run = some st →
    ∃ t, exec (.txd f q data) s = .next t ∧ t.wq f.val q.val = some (w.finishFrame e.idx st 0) ∧ s.keeps t [.queues]) ∧
  (∀ (s : State) (f : Fin 1024) (q : Fin 256) (w : WqSt) (before : List Item) (n : Item), s.wq f.val q.val = some w →
    s.funcReports f.val = true → w.kind < 2 → firstNop [] w.items = some (before, n) →
    mayStart (w.items.takeWhile (fun i => decide (i.idx ≠ n.idx))) [n] = true →
    ∃ t, exec (.nopDescriptor f q) s = .next t ∧
      t.wq f.val q.val = some { w with items := w.items.map (fun (i : Item) =>
        if i.idx = n.idx then { i with fin := some 0, result := 0, busy := false } else i) } ∧ s.keeps t [.queues]) ∧
  (∀ (s : State) (f : Fin 1024) (q : Fin 256) (w : WqSt) (before : List Item) (n e : Item), s.wq f.val q.val = some w →
    s.funcReports f.val = true → 2 ≤ w.kind → firstNop [] w.items = some (before, n) → lastOf (openAt [] [] before).2 = some e →
    mayStart (openAt [] [] before).1 (openAt [] [] before).2 = true →
    ∃ t w', exec (.nopDescriptor f q) s = .next t ∧ t.wq f.val q.val = some w' ∧ w'.items.length = w.items.length ∧
      (∀ i ∈ w'.items, i.idx = e.idx → i.fin.isSome = true ∧ i.eop = true) ∧ s.keeps t [.queues]) ∧
  (∀ (s : State) (f : Fin 1024) (q : Fin 256) (w : WqSt) (c : CqSt) (skip n : Nat) (i : Item), s.funcReports f.val = true →
    s.wq f.val q.val = some w → s.cq f.val w.cq = some c → w.reportable = some (skip, n) → (c.prod + 1) % c.size ≠ c.head →
    (w.items.drop skip)[n - 1]? = some i → c.base % 4096 = 0 → 128 ≤ (s.func f.val).cfg.maxPayload →
    ∃ t, exec (.completionWrite f q) s = .next t ∧
      Out.hostWrite f.val (c.base + 16 * c.prod) (s.func f.val).cfg.idoReq
        (leBytes 2 q.val ++ leBytes 2 i.idx ++ leBytes 2 n ++ leBytes 2 i.tag ++ leBytes 4 i.result ++
          [BitVec.ofNat 8 (i.fin.getD 0), BitVec.ofNat 8 i.rxf, 0, if c.lap then 0x80 else 0]) ∈ t.out ∧
      t.cq f.val w.cq = some { c with prod := (c.prod + 1) % c.size, lap := c.lap ^^ decide (c.prod + 1 = c.size), armed := false } ∧
      t.wq f.val q.val = some { w with items := w.items.take skip ++ w.items.drop (skip + n) } ∧
      s.keepsRegs t [(.func f, 0x5C)] ∧ s.keeps t [.regs, .queues, .funcs, .host, .out]) ∧
  (∀ (s : State) (f : Fin 1024) (q : Fin 256) (w : WqSt) (c : CqSt), s.wq f.val q.val = some w → s.cq f.val w.cq = some c →
    (c.prod + 1) % c.size = c.head → exec (.completionWrite f q) s = .next s)

/-- RX_DELIVERY and RX_BUFFER_TIMEOUT. The frame at the head of a receive queue that finds enough consecutive buffers finishes
them and leaves, a damaged one counted in RX_ERR_DELIVERED; one that the pool has marked bad is dropped; one that waits
without enough buffers is dropped and counted in FUNC_RX_DISCARD. -/
def Obligations.ReceiveQueuesTakeFrames : Prop :=
  (∀ (s : State) (f : Fin 1024) (q : Fin 256) (w : WqSt) (x : Frame) (l : List Item), s.wq f.val q.val = some w →
    s.rxHead f.val q.val = some x → s.funcReports f.val = true → x.espPending = false → x.bad = false → w.rxFit x = some l →
    x.func = false →
    ∃ t w', exec (.rxDelivery f q) s = .next t ∧ t.wq f.val q.val = some w' ∧ t.frame x.id = none ∧
      w'.items.length = w.items.length ∧
      (∀ i ∈ w'.items, l.any (fun j => j.idx = i.idx) = true → i.fin.isSome = true) ∧
      (x.flags = 0 → s.keeps t [.queues, .frames, .ham, .host, .out]) ∧
      (x.flags ≠ 0 → t.reg (portPage x.src) 0x138 = s.reg (portPage x.src) 0x138 + 1) ∧
      s.keepsRegs t [(portPage x.src, 0x138)] ∧ s.keeps t [.regs, .queues, .frames, .ham, .host, .out]) ∧
  (∀ (s : State) (f : Fin 1024) (q : Fin 256) (w : WqSt) (x : Frame), s.wq f.val q.val = some w →
    s.rxHead f.val q.val = some x → s.funcReports f.val = true → x.espPending = false → x.bad = true → x.func = false →
    ∃ t, exec (.rxDelivery f q) s = .next t ∧ t.frame x.id = none ∧ t.queues = s.queues ∧ s.keeps t [.frames, .ham]) ∧
  (∀ (s : State) (f : Fin 1024) (q : Fin 256) (w : WqSt) (x : Frame), s.wq f.val q.val = some w →
    s.rxHead f.val q.val = some x → w.rxFit x = none →
    ∃ t, exec (.rxBufferTimeout f q) s = .next t ∧ t.frame x.id = none ∧ t.reg (.func f) 0x120 = s.reg (.func f) 0x120 + 1 ∧
      (x.flags = 0 → s.keepsRegs t [(.func f, 0x120)] ∧ s.keeps t [.regs, .queues, .frames, .ham]) ∧
      (x.flags ≠ 0 → t.reg (portPage x.src) 0x13C = s.reg (portPage x.src) 0x13C + 1 ∧ bitOn (t.reg (portPage x.src) 0x10) 5 = true))

/-- HAM_BURST_REQUEST, HAM_BURST_AGED, HAM_TRANSFER, CELL_RELEASE, HAM_SCRUB and HAM_CHAN_CFG_WRITE. A burst its channel admits
is granted all its cells, one it does not admit waits; a burst past its age limit is aged and counted once. A frame moved to
another channel takes its cells along, or is dropped and counted where the channel does not admit them. The last consumer's
release returns the cells. A scrub counts a corrected error, and a double-bit error marks the frame and every copy that
shares its cells. HAM_CHAN_CFG takes a value that keeps the committed minimums within 61,056 cells and their unused part
within the free cells (the second is the model's choice, log entry 107), else it keeps its own and raises MIN_REFUSED. -/
def Obligations.HamperGrantsMovesAndReleasesCells : Prop :=
  (∀ (s : State) (f : Fin 1024) (q : Fin 256) (idx cells k : Nat) (w : WqSt) (run : List Item) (bufs : List (Nat × Nat)),
    s.wq f.val q.val = some w → s.funcRuns f.val = true → w.runAt idx = some run → s.runReads f.val w.kind run = some bufs →
    cells = bufCells bufs → burstClass w.kind = some k → 0 < cells → cells ≤ 64 → s.grantOf f.val q.val idx = none →
    s.ham.bursts = [] → s.admits (funcChan f.val (chanClass w.kind)) cells = true →
    ∃ t, exec (.hamBurstRequest f q idx cells) s = .next t ∧
      (t.grantOf f.val q.val idx).map (fun b => (b.cells, b.bufs)) = some (cells, bufs) ∧
      t.heldBy (funcChan f.val (chanClass w.kind)) = s.heldBy (funcChan f.val (chanClass w.kind)) + cells ∧ t.ham.bursts = [] ∧
      s.keeps t [.queues, .ham, .host, .nextId, .out]) ∧
  (∀ (s : State) (f : Fin 1024) (q : Fin 256) (idx cells k : Nat) (w : WqSt) (run : List Item) (bufs : List (Nat × Nat)),
    s.wq f.val q.val = some w → s.funcRuns f.val = true → w.runAt idx = some run → s.runReads f.val w.kind run = some bufs →
    cells = bufCells bufs → burstClass w.kind = some k → 0 < cells → cells ≤ 64 → s.grantOf f.val q.val idx = none →
    s.ham.bursts = [] → s.admits (funcChan f.val (chanClass w.kind)) cells = false →
    ∃ t, exec (.hamBurstRequest f q idx cells) s = .next t ∧ (t.burstOf f.val q.val idx).isSome = true ∧
      t.ham.held = s.ham.held ∧ t.ham.granted = s.ham.granted ∧ s.keeps t [.queues, .ham, .nextId]) ∧
  (∀ (s : State) (id : Nat), s.ham.bursts.any (fun a => a.id = id && !a.aged) = true →
    ∃ t, exec (.hamBurstAged id) s = .next t ∧ (∀ a ∈ t.ham.bursts, a.id = id → a.aged = true) ∧
      t.reg .ham 0x70 = s.reg .ham 0x70 + 1 ∧ bitOn (t.reg .ham 0x10) 2 = true ∧
      s.keepsRegs t ((.ham, 0x70) :: eventRegs .ham) ∧ s.keeps t [.regs, .ham, .log, .host, .out]) ∧
  (∀ (s : State) (id c chan : Nat) (x : Frame), s.frame id = some x → x.cells ≠ 0 → x.part = .chan c → c ≠ chan → chan < 19 →
    (∀ y ∈ s.frames, y.id = id → y = x) → (s.giveBack (.chan c) x.cells).admits chan x.cells = true →
    ∃ t, exec (.hamTransfer id chan) s = .next t ∧ t.heldBy chan = s.heldBy chan + x.cells ∧
      t.heldBy c = s.heldBy c - x.cells ∧ t.frame id = some { x with part := .chan chan } ∧ s.keeps t [.ham, .frames]) ∧
  (∀ (s : State) (id c chan : Nat) (x : Frame), s.frame id = some x → x.cells ≠ 0 → x.part = .chan c → c ≠ chan → chan < 19 →
    (s.giveBack (.chan c) x.cells).admits chan x.cells = false →
    ∃ t, exec (.hamTransfer id chan) s = .next t ∧ t.frame id = none ∧ t.reg .ham 0x78 = s.reg .ham 0x78 + 1 ∧
      bitOn (t.reg .ham 0x10) 4 = true) ∧
  (∀ (s : State) (id : Nat) (x : Frame), s.frame id = some x → x.loc = .mgtIn → x.part = .mgt → x.func = false → x.cells ≠ 0 →
    s.frames.find? (fun y => decide (y.id ≠ id) && decide (y.group = x.group)) = none →
    ∃ t, exec (.cellRelease id) s = .next t ∧ t.frame id = none ∧ t.ham.mgt = s.ham.mgt - x.cells ∧ s.keeps t [.ham, .frames]) ∧
  (∀ (s : State) (fr : Option Nat),
    ∃ t, exec (.hamScrub 1 fr) s = .next t ∧ t.field .ham 0x74 15 0 = (s.field .ham 0x74 15 0 + 1) % 65536 ∧
      s.keepsRegs t [(.ham, 0x74)] ∧ s.keeps t [.regs]) ∧
  (∀ (s : State) (i : Nat),
    ∃ t, exec (.hamScrub 2 (some i)) s = .next t ∧ t.field .ham 0x74 31 16 = (s.field .ham 0x74 31 16 + 1) % 65536 ∧
      bitOn (t.reg .ham 0x10) 3 = true ∧ (∀ y, s.frame i = some y → ∀ x ∈ t.frames, x.group = y.group → x.bad = true) ∧
      s.keepsRegs t ((.ham, 0x74) :: eventRegs .ham) ∧ s.keeps t [.regs, .frames, .log, .host, .out]) ∧
  (∀ (s : State) (i : Fin 19) (m : Master) (v : Word) (rivals : List Req), s.grants .ham (0x100 + 8 * i.val) m v rivals →
    (s.setReg .ham (0x100 + 8 * i.val) v).minsFit = true →
    ∃ t, exec (.hamChanCfgWrite i m v rivals) s = .next t ∧ t.reg .ham (0x100 + 8 * i.val) = v ∧
      s.keepsRegs t ((.ham, 0x100 + 8 * i.val) :: (.ham, 0x2C) :: discardRegs .ham) ∧ s.keeps t [.regs, .log, .host, .out]) ∧
  (∀ (s : State) (i : Fin 19) (m : Master) (v : Word) (rivals : List Req), s.grants .ham (0x100 + 8 * i.val) m v rivals →
    (s.setReg .ham (0x100 + 8 * i.val) v).minsFit = false →
    ∃ t, exec (.hamChanCfgWrite i m v rivals) s = .next t ∧ t.reg .ham (0x100 + 8 * i.val) = s.reg .ham (0x100 + 8 * i.val) ∧
      bitOn (t.reg .ham 0x10) 5 = true ∧
      s.keepsRegs t ((.ham, 0x10) :: (.ham, 0x2C) :: discardRegs .ham) ∧ s.keeps t [.regs, .log, .host, .out])

/-- FRAME_INGRESS_DECIDE and FRAME_END_CHECK. A frame that ends before its 64th byte is counted as a runt. One that belongs to
no reserve is dropped and counted by the multicast filter, by steering or for want of a cluster, or takes the cells of the
largest frame from its ingress channel and stands at its port; without cells it is refused, its bytes and the drop counted.
At its end an undamaged frame gives back its surplus cells and goes to the place its routing names, one for MACsec with its
cells moved to CRY's channel; FEC counts the codewords it corrected and lost. A damaged frame that is not delivered flagged
ends, counted for each damage; one that may be delivered goes flagged to the back of the error queue's receive queue. -/
def Obligations.FramesArriveAtPorts : Prop :=
  (∀ (s : State) (p : Fin 4) (head : List Byte), s.linkUp p.val = true → s.runs (Page.port p).island = true → s.runs .fab = true →
    head.length < 64 →
    ∃ t, exec (.frameIngressDecide p head true) s = .next t ∧ t.reg (.port p) 0x12C = s.reg (.port p) 0x12C + 1 ∧
      s.keepsRegs t [(.port p, 0x12C)] ∧ s.keeps t [.regs]) ∧
  (∀ (s : State) (p : Fin 4) (head : List Byte) (whole : Bool) (k : Nat), s.linkUp p.val = true →
    s.runs (Page.port p).island = true → s.runs .fab = true → 64 ≤ head.length → beAt head 12 2 ≠ 0x8808 →
    s.reserveOf p.val head = none → s.mcastOk p.val head = true → s.steer p.val head = some k →
    s.clusterTakes (s.classCluster p.val k) = true → s.admits (2 * p.val) (cellsOf (s.maxFrame p.val)) = true →
    ∃ t x, exec (.frameIngressDecide p head whole) s = .next t ∧ t.frames = s.frames ++ [x] ∧ x.id = s.nextId ∧
      t.nextId = s.nextId + 1 ∧ x.loc = .ingress p.val ∧ x.part = .chan (2 * p.val) ∧ x.cells = cellsOf (s.maxFrame p.val) ∧
      x.dclass = k ∧ x.func = false ∧ x.src = p.val ∧ bytesOf x.nonets = head ∧
      t.heldBy (2 * p.val) = s.heldBy (2 * p.val) + cellsOf (s.maxFrame p.val) ∧
      t.reg64 (.port p) 0x100 = (s.reg64 (.port p) 0x100 + 1) % 2 ^ 64 ∧
      s.keepsRegs t [(.port p, 0x100), (.port p, 0x104)] ∧ s.keeps t [.regs, .ham, .frames, .nextId]) ∧
  (∀ (s : State) (p : Fin 4) (head : List Byte) (whole : Bool) (k : Nat), s.linkUp p.val = true →
    s.runs (Page.port p).island = true → s.runs .fab = true → 64 ≤ head.length → beAt head 12 2 ≠ 0x8808 →
    s.reserveOf p.val head = none → s.mcastOk p.val head = true → s.steer p.val head = some k →
    s.clusterTakes (s.classCluster p.val k) = true → s.admits (2 * p.val) (cellsOf (s.maxFrame p.val)) = false →
    ∃ t, exec (.frameIngressDecide p head whole) s = .next t ∧ t.reg .ham (0x60 + 4 * p.val) = s.reg .ham (0x60 + 4 * p.val) + 1 ∧
      bitOn (t.reg .ham 0x10) 0 = true ∧
      t.reg64 (.port p) 0x108 = (s.reg64 (.port p) 0x108 + head.length) % 2 ^ 64 ∧
      s.keepsRegs t ((.port p, 0x100) :: (.port p, 0x104) :: (.port p, 0x108) :: (.port p, 0x10C) :: (.ham, 0x60 + 4 * p.val) :: eventRegs .ham) ∧
      s.keeps t [.regs, .log, .host, .out]) ∧
  (∀ (s : State) (p : Fin 4) (head : List Byte) (whole : Bool), s.linkUp p.val = true → s.runs (Page.port p).island = true →
    s.runs .fab = true → 64 ≤ head.length → beAt head 12 2 ≠ 0x8808 → s.reserveOf p.val head = none →
    s.mcastOk p.val head = false →
    ∃ t, exec (.frameIngressDecide p head whole) s = .next t ∧ t.reg (.port p) 0x140 = s.reg (.port p) 0x140 + 1 ∧
      s.keepsRegs t [(.port p, 0x100), (.port p, 0x104), (.port p, 0x108), (.port p, 0x10C), (.port p, 0x140)] ∧
      s.keeps t [.regs]) ∧
  (∀ (s : State) (p : Fin 4) (head : List Byte) (whole : Bool), s.linkUp p.val = true → s.runs (Page.port p).island = true →
    s.runs .fab = true → 64 ≤ head.length → beAt head 12 2 ≠ 0x8808 → s.reserveOf p.val head = none →
    s.mcastOk p.val head = true → s.steer p.val head = none →
    ∃ t, exec (.frameIngressDecide p head whole) s = .next t ∧ t.reg (.port p) 0x144 = s.reg (.port p) 0x144 + 1 ∧
      s.keepsRegs t [(.port p, 0x100), (.port p, 0x104), (.port p, 0x108), (.port p, 0x10C), (.port p, 0x144)] ∧
      s.keeps t [.regs]) ∧
  (∀ (s : State) (p : Fin 4) (head : List Byte) (whole : Bool) (k : Nat), s.linkUp p.val = true →
    s.runs (Page.port p).island = true → s.runs .fab = true → 64 ≤ head.length → beAt head 12 2 ≠ 0x8808 →
    s.reserveOf p.val head = none → s.mcastOk p.val head = true → s.steer p.val head = some k →
    s.clusterTakes (s.classCluster p.val k) = false →
    ∃ t, exec (.frameIngressDecide p head whole) s = .next t ∧ t.reg (.port p) 0x148 = s.reg (.port p) 0x148 + 1 ∧
      s.keepsRegs t [(.port p, 0x100), (.port p, 0x104), (.port p, 0x108), (.port p, 0x10C), (.port p, 0x148)] ∧
      s.keeps t [.regs]) ∧
  (∀ (s : State) (id len p fec lost : Nat) (rest : List Byte) (fcsBad codeBad : Bool) (x : Frame) (l : Loc), s.frame id = some x →
    (∀ q, l ≠ .macsec q) → x.loc = .ingress p → s.damage p ((bytesOf x.nonets ++ rest).take x.dest) len x.dest fcsBad codeBad = 0 →
    s.routeIn { x with nonets := stitched (((bytesOf x.nonets ++ rest).take x.dest).take (((bytesOf x.nonets ++ rest).take x.dest).length - 4)) (boundaries (((bytesOf x.nonets ++ rest).take x.dest).take (((bytesOf x.nonets ++ rest).take x.dest).length - 4))), cells := cellsOf ((bytesOf x.nonets ++ rest).take x.dest).length, dest := 0 } p = some l →
    ∃ t y, exec (.frameEndCheck id rest len fcsBad ⟨codeBad, fec, lost⟩) s = .next t ∧ t.frame id = some y ∧ y.loc = l ∧
      bytesOf y.nonets = ((bytesOf x.nonets ++ rest).take x.dest).take (((bytesOf x.nonets ++ rest).take x.dest).length - 4) ∧ y.part = x.part ∧
      y.cells = cellsOf ((bytesOf x.nonets ++ rest).take x.dest).length ∧
      (∀ c, x.part = .chan c → t.heldBy c = s.heldBy c - (x.cells - y.cells)) ∧
      t.reg64 (portPage p) 0x108 = (s.reg64 (portPage p) 0x108 + len) % 2 ^ 64 ∧
      (s.field (portPage p) 0x40 5 4 ≠ 0 → t.reg (portPage p) 0x18C = s.reg (portPage p) 0x18C + word fec ∧
        t.reg (portPage p) 0x190 = s.reg (portPage p) 0x190 + word lost) ∧
      s.keepsRegs t [(portPage p, 0x108), (portPage p, 0x10C), (portPage p, 0x18C), (portPage p, 0x190)] ∧
      s.keeps t [.regs, .ham, .frames]) ∧
  (∀ (s : State) (id len p q fec lost : Nat) (rest : List Byte) (fcsBad codeBad : Bool) (x : Frame), s.frame id = some x →
    x.loc = .ingress p → s.damage p ((bytesOf x.nonets ++ rest).take x.dest) len x.dest fcsBad codeBad = 0 →
    s.routeIn { x with nonets := stitched (((bytesOf x.nonets ++ rest).take x.dest).take (((bytesOf x.nonets ++ rest).take x.dest).length - 4)) (boundaries (((bytesOf x.nonets ++ rest).take x.dest).take (((bytesOf x.nonets ++ rest).take x.dest).length - 4))), cells := cellsOf ((bytesOf x.nonets ++ rest).take x.dest).length, dest := 0 } p = some (.macsec q) →
    (bytesOf x.nonets ++ rest).take x.dest ≠ [] → x.part.reserve = false →
    ∃ t, exec (.frameEndCheck id rest len fcsBad ⟨codeBad, fec, lost⟩) s = .next t ∧
      (∀ y, t.frame id = some y → y.loc = .macsec q ∧ y.part = .chan 8) ∧
      (t.frame id = none → t.reg .ham 0x78 = s.reg .ham 0x78 + 1)) ∧
  (∀ (s : State) (id len p fec lost d : Nat) (rest : List Byte) (fcsBad codeBad : Bool) (x : Frame), s.frame id = some x →
    x.loc = .ingress p → d = s.damage p ((bytesOf x.nonets ++ rest).take x.dest) len x.dest fcsBad codeBad → d ≠ 0 →
    x.part.reserve = false → d &&& s.field (portPage p) 0x50 4 0 = d →
    s.rxOpen (s.field (portPage p) 0x50 31 22) (s.field (portPage p) 0x50 21 14) = true →
    ∃ t, exec (.frameEndCheck id rest len fcsBad ⟨codeBad, fec, lost⟩) s = .next t ∧
      (∀ y, t.frame id = some y → y.flags = d ∧ t.frames.getLast? = some y ∧
        y.loc = .rxq (s.field (portPage p) 0x50 31 22) (s.field (portPage p) 0x50 21 14)) ∧
      (t.frame id = none → t.reg .ham 0x78 = s.reg .ham 0x78 + 1)) ∧
  (∀ (s : State) (id len p fec lost : Nat) (rest : List Byte) (codeBad : Bool) (x : Frame), s.frame id = some x → x.func = false →
    x.loc = .ingress p → bitOn (s.reg (portPage p) 0x50) 0 = false →
    ∃ t, exec (.frameEndCheck id rest len true ⟨codeBad, fec, lost⟩) s = .next t ∧ t.frame id = none ∧
      t.reg (portPage p) 0x120 = s.reg (portPage p) 0x120 + 1 ∧
      s.keepsRegs t [(portPage p, 0x108), (portPage p, 0x10C), (portPage p, 0x120), (portPage p, 0x124), (portPage p, 0x128), (portPage p, 0x130), (portPage p, 0x134), (portPage p, 0x18C), (portPage p, 0x190)] ∧
      s.keeps t [.regs, .ham, .frames])

/-- PORT_CFG_WRITE, FLAP, STEER_WORD_A_WRITE, STEER_WORD_B_WRITE, MODULE_CHANGE and LINK_CHANGE. A port takes a setting it
offers, which takes the link down and, on a ring port, is kept in FRAM; one it does not offer leaves PORT_CFG as it was and
raises CFG_REFUSED. FLAP takes the link down and holds it. Word B of a steering rule is held until word A is written and
both apply. A module that comes or goes is reported with its identity, the link being down. The link is up while the PCS has
lock, neither end reports a fault, a good module is there and a speed is set. -/
def Obligations.PortSettingsAndLinks : Prop :=
  (∀ (s : State) (p : Fin 4) (m : Master) (v : Word) (rivals : List Req), s.grants (.port p) 0x40 m v rivals →
    speedOffered p.val (fld v 3 0) = true → fecAllowed (fld v 3 0) (fld v 5 4) = true →
    ∃ t, exec (.portCfgWrite p m v rivals) s = .next t ∧ t.reg (.port p) 0x40 &&& 0x7F = v &&& 0x7F ∧
      (t.reg (.port p) 0x40 ≠ s.reg (.port p) 0x40 → bitOn (t.reg (.port p) 0x48) 2 = false ∧ (t.port p.val).held = true) ∧
      (p.val < 2 → t.fram.portCfg.getD p.val 0 = t.reg (.port p) 0x40) ∧
      s.keepsRegs t ((.port p, 0x40) :: (.port p, 0x48) :: (.port p, 0x10) :: (.port p, 0x2C) :: (.ring, 0x10) :: discardRegs (.port p)) ∧
      s.keeps t [.regs, .fram, .ports, .tbl, .ring, .log, .host, .out]) ∧
  (∀ (s : State) (p : Fin 4) (m : Master) (v : Word) (rivals : List Req), s.grants (.port p) 0x40 m v rivals →
    speedOffered p.val (fld v 3 0) = false ∨ fecAllowed (fld v 3 0) (fld v 5 4) = false →
    ∃ t, exec (.portCfgWrite p m v rivals) s = .next t ∧ bitOn (t.reg (.port p) 0x10) 3 = true ∧
      s.keepsRegs t ((.port p, 0x10) :: (.port p, 0x2C) :: discardRegs (.port p)) ∧ s.keeps t [.regs, .log, .host, .out]) ∧
  (∀ (s : State) (p : Fin 4) (m : Master) (rivals : List Req), s.grants (.port p) 0x4C m (bit 0) rivals →
    ∃ t, exec (.flap p m rivals) s = .next t ∧ bitOn (t.reg (.port p) 0x48) 2 = false ∧ (t.port p.val).held = true ∧
      (s.linkUp p.val = true → bitOn (t.reg (.port p) 0x10) 1 = true) ∧
      s.keepsRegs t ((.port p, 0x48) :: (.port p, 0x10) :: (.port p, 0x2C) :: discardRegs (.port p)) ∧
      s.keeps t [.regs, .ports, .tbl, .log, .host, .out]) ∧
  (∀ (s : State) (p : Fin 4) (r : Fin 256) (m : Master) (v : Word) (rivals : List Req),
    s.grants (.port p) (0x804 + 8 * r.val) m v rivals →
    ∃ t, exec (.steerWordBWrite p r m v rivals) s = .next t ∧ Sparse.find (t.port p.val).wordB r.val = some (v &&& 0xFFFF) ∧
      (∀ r', r' ≠ r.val → Sparse.find (t.port p.val).wordB r' = Sparse.find (s.port p.val).wordB r') ∧
      s.keepsRegs t ((.port p, 0x2C) :: discardRegs (.port p)) ∧ s.keeps t [.regs, .ports, .log, .host, .out]) ∧
  (∀ (s : State) (p : Fin 4) (r : Fin 256) (m : Master) (v b : Word) (rivals : List Req),
    s.grants (.port p) (0x800 + 8 * r.val) m v rivals → Sparse.find (s.port p.val).wordB r.val = some b →
    ∃ t, exec (.steerWordAWrite p r m v rivals) s = .next t ∧
      t.reg (.port p) (0x800 + 8 * r.val) &&& 0xFF807FFF = v &&& 0xFF807FFF ∧ t.reg (.port p) (0x804 + 8 * r.val) = b ∧
      Sparse.find (t.port p.val).wordB r.val = none ∧
      s.keepsRegs t ((.port p, 0x800 + 8 * r.val) :: (.port p, 0x804 + 8 * r.val) :: (.port p, 0x2C) :: discardRegs (.port p)) ∧
      s.keeps t [.regs, .ports, .log, .host, .out]) ∧
  (∀ (s : State) (p : Fin 4) (m : Master) (v : Word) (r : Fin 256) (rivals : List Req),
    s.grants (.port p) (0x800 + 8 * r.val) m v rivals → Sparse.find (s.port p.val).wordB r.val = none →
    ∃ t, exec (.steerWordAWrite p r m v rivals) s = .next t ∧
      t.reg (.port p) (0x800 + 8 * r.val) &&& 0xFF807FFF = v &&& 0xFF807FFF ∧
      s.keepsRegs t ((.port p, 0x800 + 8 * r.val) :: (.port p, 0x2C) :: discardRegs (.port p)) ∧
      s.keeps t [.regs, .log, .host, .out]) ∧
  (∀ (s : State) (p : Fin 4) (present fault : Bool) (sff : BitVec 8) (ident : List Byte), bitOn (s.reg (.port p) 0x48) 3 ≠ present →
    ∃ t, exec (.moduleChange p present fault ⟨sff, ident⟩) s = .next t ∧
      Sparse.find t.sens.mods p.val = (if present then some (slice ident 0 48) else none) ∧ bitOn (t.reg (.port p) 0x48) 3 = present ∧
      bitOn (t.reg (.port p) 0x48) 2 = false ∧ bitOn (t.reg (.port p) 0x10) 4 = true ∧
      (present = true → t.field .mgt (0x100 + 4 * p.val) 15 8 = sff.toNat ∧ bitOn (t.reg .mgt (0x100 + 4 * p.val)) 0 = true ∧
        bitOn (t.reg .mgt (0x100 + 4 * p.val)) 1 = fault) ∧
      (present = false → t.reg .mgt (0x100 + 4 * p.val) = 0) ∧
      s.keepsRegs t ((.mgt, 0x100 + 4 * p.val) :: (.port p, 0x48) :: eventRegs (.port p)) ∧
      s.keeps t [.regs, .ports, .tbl, .sens, .log, .host, .out]) ∧
  (∀ (s : State) (p : Fin 4) (lock lf rf : Bool), p.val < 2 ∨ bitOn (s.reg .isl 0x68) 16 = false →
    s.runs (Page.port p).island = true →
    ∃ t, exec (.linkChange p lock lf rf) s = .next t ∧
      t.linkUp p.val = (lock && !lf && !rf && s.moduleGood p.val && decide (s.speed p.val ≠ 0)) ∧
      (t.linkUp p.val = true → s.linkUp p.val = false → bitOn (t.reg (.port p) 0x10) 0 = true) ∧
      (t.linkUp p.val = false → s.linkUp p.val = true → bitOn (t.reg (.port p) 0x10) 1 = true) ∧
      bitOn (t.reg (.port p) 0x48) 4 = lf ∧ bitOn (t.reg (.port p) 0x48) 5 = rf ∧ (t.port p.val).held = false ∧
      s.keepsRegs t ((.port p, 0x48) :: (.port p, 0x188) :: eventRegs (.port p)) ∧
      s.keeps t [.regs, .ports, .clk, .tbl, .log, .host, .out])

/-- PAUSE_RX, PAUSE_TIMER_EXPIRY, PAUSE_XOFF, PAUSE_REPEAT, PAUSE_XON and PAUSE_STORM. An obeyed PAUSE frame starts the link's
timer, or ends it with quanta 0, and is counted; a PFC frame does so for an enabled priority it names. A timer that expires
ends, and so does, once no timer runs, the continuous pause it stood for. XOFF cells send one pause frame with QUANTA,
repeated while they stand; XON cells send one with quanta 0. A storm is counted and reported once for each continuous pause,
and with STORM_IGNORE ends every timer. -/
def Obligations.PauseFramesStopAndStartTransmission : Prop :=
  (∀ (s : State) (p : Fin 4) (k : Fin 8) (n : BitVec 16), s.linkUp p.val = true → s.stormIgnoring p.val = false →
    s.obeys p.val false = true →
    ∃ t, exec (.pauseRx p false [(k, n)]) s = .next t ∧ t.reg (.port p) 0x14C = s.reg (.port p) 0x14C + 1 ∧
      (8 ∈ (t.port p.val).timers ↔ n ≠ 0) ∧ (∀ j, j ≠ 8 → (j ∈ (t.port p.val).timers ↔ j ∈ (s.port p.val).timers)) ∧
      s.keepsRegs t [(.port p, 0x14C)] ∧ s.keeps t [.regs, .ports]) ∧
  (∀ (s : State) (p : Fin 4) (k : Fin 8) (n : BitVec 16), s.linkUp p.val = true → s.stormIgnoring p.val = false →
    s.obeys p.val true = true → nbit (s.field (.port p) 0x58 15 8) k.val = true →
    ∃ t, exec (.pauseRx p true [(k, n)]) s = .next t ∧
      t.reg (.port p) (0x160 + 4 * k.val) = s.reg (.port p) (0x160 + 4 * k.val) + 1 ∧
      (k.val ∈ (t.port p.val).timers ↔ n ≠ 0) ∧
      (∀ j, j ≠ k.val → (j ∈ (t.port p.val).timers ↔ j ∈ (s.port p.val).timers)) ∧
      s.keepsRegs t [(.port p, 0x160 + 4 * k.val)] ∧ s.keeps t [.regs, .ports]) ∧
  (∀ (s : State) (p : Fin 4) (times : List (Fin 8 × BitVec 16)), s.linkUp p.val = true → s.stormIgnoring p.val = true →
    ∃ t, exec (.pauseRx p false times) s = .next t ∧ t.reg (.port p) 0x154 = s.reg (.port p) 0x154 + 1 ∧
      t.reg (.port p) 0x14C = s.reg (.port p) 0x14C + 1 ∧ s.keepsRegs t [(.port p, 0x14C), (.port p, 0x154)] ∧ s.keeps t [.regs]) ∧
  (∀ (s : State) (p : Fin 4) (k : Fin 9),
    ∃ t, exec (.pauseTimerExpiry p k) s = .next t ∧ k.val ∉ (t.port p.val).timers ∧
      (k.val ∉ (s.port p.val).timers → k.val ∉ (t.port p.val).standing ∧ k.val ∉ (t.port p.val).stormed) ∧
      (∀ j, j ≠ k.val → (j ∈ (t.port p.val).timers ↔ j ∈ (s.port p.val).timers)) ∧ s.keeps t [.ports]) ∧
  (∀ (s : State) (p : Fin 4) (k : Fin 9), s.pauses p.val k.val = true → k.val ∉ (s.port p.val).xoff →
    s.field (.port p) 0x5C 31 16 ≤ s.pauseCells p.val k.val →
    ∃ t, exec (.pauseXoff p k) s = .next t ∧
      t.out = .pause p.val (s.field (.port p) 0x58 31 16) (if k.val = 8 then 0 else 2 ^ k.val) :: s.out ∧
      k.val ∈ (t.port p.val).xoff ∧ (k.val = 8 → t.reg (.port p) 0x150 = s.reg (.port p) 0x150 + 1) ∧
      s.keepsRegs t [(.port p, 0x150)] ∧ s.keeps t [.regs, .ports, .out]) ∧
  (∀ (s : State) (p : Fin 4) (k : Fin 9), s.pauses p.val k.val = true → k.val ∈ (s.port p.val).xoff →
    s.field (.port p) 0x58 31 16 ≠ 0 → s.field (.port p) 0x5C 31 16 ≤ s.pauseCells p.val k.val →
    ∃ t, exec (.pauseRepeat p k) s = .next t ∧
      t.out = .pause p.val (s.field (.port p) 0x58 31 16) (if k.val = 8 then 0 else 2 ^ k.val) :: s.out ∧
      s.keepsRegs t [(.port p, 0x150)] ∧ s.keeps t [.regs, .out]) ∧
  (∀ (s : State) (p : Fin 4) (k : Fin 9), s.pauses p.val k.val = true → k.val ∈ (s.port p.val).xoff →
    s.pauseCells p.val k.val ≤ s.field (.port p) 0x5C 15 0 →
    ∃ t, exec (.pauseXon p k) s = .next t ∧ t.out = .pause p.val 0 (if k.val = 8 then 0 else 2 ^ k.val) :: s.out ∧
      k.val ∉ (t.port p.val).xoff ∧ s.keepsRegs t [(.port p, 0x150)] ∧ s.keeps t [.regs, .ports, .out]) ∧
  (∀ (s : State) (p : Fin 4), (∀ k ∈ (s.port p.val).standing, k ∈ (s.port p.val).stormed) → exec (.pauseStorm p) s = .next s) ∧
  (∀ (s : State) (p : Fin 4) (k : Nat), (s.port p.val).standing.find? (fun j => !(s.port p.val).stormed.contains j) = some k →
    ∃ t, exec (.pauseStorm p) s = .next t ∧ t.reg (.port p) 0x158 = s.reg (.port p) 0x158 + 1 ∧
      bitOn (t.reg (.port p) 0x10) 2 = true ∧
      (s.fcBit p.val 4 = true → bitOn (t.reg (.port p) 0x48) 7 = true ∧ (t.port p.val).timers = []) ∧
      (t.port p.val).stormed = (s.port p.val).stormed ++ [k] ∧ (∀ q, q ≠ p.val → t.port q = s.port q) ∧
      (s.fcBit p.val 4 = false → (t.port p.val).timers = (s.port p.val).timers ∧ t.reg (.port p) 0x48 = s.reg (.port p) 0x48) ∧
      s.keepsRegs t ((.port p, 0x48) :: (.port p, 0x158) :: eventRegs (.port p)) ∧ s.keeps t [.regs, .ports, .log, .host, .out])

/-- PTP_CFG_WRITE, PTP_STEP, PTP_MESSAGE_RX, ANNOUNCE_RECEIPT_TIMEOUT, PTP_TIME_READ and TXTS_POP. PTP_CFG takes its fields
unless CLOCK is 3, which leaves it as it was; CLOCK 0 clears STATE and ROLE, and a port that does not take part has ROLE 0.
A step moves the time by a signed number of nanoseconds while CLOCK is 0 and raises TIME_STEP. A message is discarded while
CLOCK is 0; on a slave port an offset of at most 1 ms is slewed (log entry 28) and a larger one stepped. The loss of the
master brings HOLDOVER. Reading PTP_TIME_NS latches the seconds. POP removes the oldest timestamp. -/
def Obligations.PrecisionTime : Prop :=
  (∀ (s : State) (m : Master) (v : Word) (rivals : List Req), s.grants .ptp 0x40 m v rivals → fld v 1 0 ≠ 3 →
    ∃ t, exec (.ptpCfgWrite m v rivals) s = .next t ∧ t.reg .ptp 0x40 &&& 0xFF03F3 = v &&& 0xFF03F3 ∧
      (fld v 1 0 = 0 → t.reg .ptp 0x44 = 0) ∧ (fld v 1 0 ≠ 0 → t.field .ptp 0x44 7 0 = s.field .ptp 0x44 7 0 ∧
        ∀ p : Fin 4, t.field .ptp 0x44 (9 + 2 * p.val) (8 + 2 * p.val) =
          (if t.ptpPort p.val then s.field .ptp 0x44 (9 + 2 * p.val) (8 + 2 * p.val) else 0)) ∧
      s.keepsRegs t ((.ptp, 0x40) :: (.ptp, 0x44) :: (.ptp, 0x2C) :: discardRegs .ptp) ∧ s.keeps t [.regs, .log, .host, .out]) ∧
  (∀ (s : State) (m : Master) (v : Word) (rivals : List Req), s.grants .ptp 0x40 m v rivals → fld v 1 0 = 3 →
    ∃ t, exec (.ptpCfgWrite m v rivals) s = .next t ∧ s.keepsRegs t ((.ptp, 0x2C) :: discardRegs .ptp) ∧
      s.keeps t [.regs, .log, .host, .out]) ∧
  (∀ (s : State) (m : Master) (v : Word) (rivals : List Req), s.grants .ptp 0x5C m v rivals → s.ptpClock = 0 →
    ∃ t, exec (.ptpStep m v rivals) s = .next t ∧ t.ptp = { s.ptp with time := ((s.ptp.time : Int) + v.toInt).toNat } ∧
      bitOn (t.reg .ptp 0x10) 0 = true ∧ s.keepsRegs t ((.ptp, 0x10) :: (.ptp, 0x2C) :: discardRegs .ptp) ∧
      s.keeps t [.regs, .clk, .ptp, .log, .host, .out]) ∧
  (∀ (s : State) (m : Master) (v : Word) (rivals : List Req), s.grants .ptp 0x5C m v rivals → s.ptpClock ≠ 0 →
    ∃ t, exec (.ptpStep m v rivals) s = .next t ∧ s.keepsRegs t ((.ptp, 0x2C) :: discardRegs .ptp) ∧
      s.keeps t [.regs, .log, .host, .out]) ∧
  (∀ (s : State) (p role : Fin 4) (offset : Int), s.ptpClock = 0 →
    ∃ t, exec (.ptpMessageRx p role offset) s = .next t ∧ t.ptp = { s.ptp with dropped := s.ptp.dropped + 1 } ∧ s.keeps t [.ptp]) ∧
  (∀ (s : State) (p : Fin 4) (offset : Int), s.ptpClock ≠ 0 → s.ptpPort p.val = true → offset.natAbs ≤ 1000000 →
    ∃ t, exec (.ptpMessageRx p 2 offset) s = .next t ∧ t.reg .ptp 0x54 = BitVec.ofInt 32 offset ∧
      t.reg .ptp 0x58 = Config.servo offset (s.reg .ptp 0x58) ∧ t.field .ptp 0x44 1 0 = 2 ∧
      t.field .ptp 0x44 (9 + 2 * p.val) (8 + 2 * p.val) = 2 ∧
      s.keepsRegs t ((.ptp, 0x44) :: (.ptp, 0x54) :: (.ptp, 0x58) :: eventRegs .ptp) ∧ s.keeps t [.regs, .log, .host, .out]) ∧
  (∀ (s : State) (p : Fin 4) (offset : Int), s.ptpClock ≠ 0 → s.ptpPort p.val = true → 1000000 < offset.natAbs →
    ∃ t, exec (.ptpMessageRx p 2 offset) s = .next t ∧ t.reg .ptp 0x54 = BitVec.ofInt 32 offset ∧
      t.ptp = { s.ptp with time := ((s.ptp.time : Int) - offset).toNat } ∧ t.field .ptp 0x44 1 0 = 1 ∧
      bitOn (t.reg .ptp 0x10) 0 = true ∧ s.keepsRegs t ((.ptp, 0x44) :: (.ptp, 0x54) :: eventRegs .ptp) ∧
      s.keeps t [.regs, .clk, .ptp, .log, .host, .out]) ∧
  (∀ s : State, s.ptpClock ≠ 0 → s.hasSlave = true → s.field .ptp 0x44 1 0 ≠ 3 →
    ∃ t, exec .announceReceiptTimeout s = .next t ∧ t.field .ptp 0x44 1 0 = 3 ∧ bitOn (t.reg .ptp 0x10) 1 = true ∧
      s.keepsRegs t ((.ptp, 0x44) :: eventRegs .ptp) ∧ s.keeps t [.regs, .log, .host, .out]) ∧
  (∀ (s : State) (m : Master), s.takes (Page.island .ptp) → s.reaches .ptp m = true → bitOn (s.reg .ptp 0x08) 1 = false →
    ∃ t, exec (.ptpTimeRead m) s = .next t ∧ t.ptp = { s.ptp with latch := s.ptp.time / 1000000000 } ∧
      t.out = .data m (word (s.ptp.time % 1000000000)) :: s.out ∧ s.keeps t [.ptp, .out]) ∧
  (∀ (s : State) (m : Master) (rivals : List Req), s.grants .ptp 0x80 m (bit 31) rivals →
    ∃ t, exec (.txtsPop m rivals) s = .next t ∧ t.ptp = { s.ptp with fifo := s.ptp.fifo.drop 1 } ∧
      s.keepsRegs t ((.ptp, 0x2C) :: discardRegs .ptp) ∧ s.keeps t [.regs, .ptp, .log, .host, .out])

/-- GATE_PEG_ADVANCE, ARM, DISARM, GATE_SWAP and GATE_PEG_DATA_ACCESS. The end of the part in force brings the next peg into
force. ARM arms a swap at PENDING_BASE where that lies at least 1 µs ahead, else at the first whole cycle after it that
does, a late arm being counted. DISARM cancels it. At the instant the pending list becomes active, the active one pending,
and the swap is counted; a safety list swaps by the same rule and is enabled while its LEN is not 0. An access to
GATE_PEG_DATA reaches the pending list at the index, which advances. -/
def Obligations.GateListsAndTheirSwaps : Prop :=
  (∀ (s : State) (p : Fin 4), s.runs .fab = true → (s.gate p.val).safOn = false →
    ∃ t, exec (.gatePegAdvance p) s = .next t ∧ t.ptp = { s.ptp with time := s.ptp.time + ((s.gate p.val).act.at s.ptp.time).1 } ∧
      t.gate p.val = { s.gate p.val with peg := ((s.gate p.val).act.at t.ptp.time).2.2, safPeg := 0 } ∧
      (∀ q, q ≠ p.val → t.gate q = s.gate q) ∧ s.keeps t [.ptp, .gates]) ∧
  (∀ (s : State) (p : Fin 4) (m : Master) (rivals : List Req), s.grants (.gate p) 0x68 m (bit 0) rivals →
    (s.gate p.val).armed = none → s.ptp.time + 1000 ≤ (s.gate p.val).pend.base →
    ∃ t, exec (.arm p m rivals) s = .next t ∧
      t.gate p.val = { s.gate p.val with armed := some (s.gate p.val).pend.base } ∧ (∀ q, q ≠ p.val → t.gate q = s.gate q) ∧
      s.keepsRegs t ((.gate p, 0x2C) :: discardRegs (.gate p)) ∧ s.keeps t [.regs, .gates, .log, .host, .out]) ∧
  (∀ (s : State) (p : Fin 4) (m : Master) (rivals : List Req), s.grants (.gate p) 0x68 m (bit 0) rivals →
    (s.gate p.val).armed = none → (s.gate p.val).pend.base < s.ptp.time + 1000 → 0 < (s.gate p.val).pend.cycle →
    ∃ t n, exec (.arm p m rivals) s = .next t ∧
      (t.gate p.val).armed = some ((s.gate p.val).pend.base + n * (s.gate p.val).pend.cycle) ∧
      s.ptp.time + 1000 ≤ (s.gate p.val).pend.base + n * (s.gate p.val).pend.cycle ∧
      (s.gate p.val).pend.base + n * (s.gate p.val).pend.cycle < s.ptp.time + 1000 + (s.gate p.val).pend.cycle ∧
      t.field (.gate p) 0x7C 15 0 = (s.field (.gate p) 0x7C 15 0 + 1) % 65536 ∧
      s.keepsRegs t ((.gate p, 0x7C) :: (.gate p, 0x2C) :: discardRegs (.gate p)) ∧ s.keeps t [.regs, .gates, .log, .host, .out]) ∧
  (∀ (s : State) (p : Fin 4) (m : Master) (rivals : List Req), s.grants (.gate p) 0x68 m (bit 1) rivals →
    ∃ t, exec (.disarm p m rivals) s = .next t ∧ t.gate p.val = { s.gate p.val with armed := none } ∧
      (∀ q, q ≠ p.val → t.gate q = s.gate q) ∧
      s.keepsRegs t ((.gate p, 0x2C) :: discardRegs (.gate p)) ∧ s.keeps t [.regs, .gates, .log, .host, .out]) ∧
  (∀ (s : State) (p : Fin 4) (w : Nat), (s.gate p.val).armed = some w → (s.gate p.val).safArmed = none →
    ∃ t, exec (.gateSwap p) s = .next t ∧ (t.gate p.val).act = (s.gate p.val).pend ∧ (t.gate p.val).pend = (s.gate p.val).act ∧
      (t.gate p.val).armed = none ∧ (t.gate p.val).bank = !(s.gate p.val).bank ∧ (t.gate p.val).saf = (s.gate p.val).saf ∧
      t.ptp = { s.ptp with time := max s.ptp.time w } ∧
      t.field (.gate p) 0x7C 31 16 = (s.field (.gate p) 0x7C 31 16 + 1) % 65536 ∧ (∀ q, q ≠ p.val → t.gate q = s.gate q) ∧
      s.keepsRegs t [(.gate p, 0x7C)] ∧ s.keeps t [.regs, .gates, .ptp]) ∧
  (∀ (s : State) (p : Fin 4) (w : Nat), (s.gate p.val).armed = none → (s.gate p.val).safArmed = some w →
    ∃ t, exec (.gateSwap p) s = .next t ∧ (t.gate p.val).saf = (s.gate p.val).safPend ∧
      (t.gate p.val).safPend = (s.gate p.val).saf ∧ (t.gate p.val).safArmed = none ∧
      (t.gate p.val).safOn = decide ((s.gate p.val).safPend.len ≠ 0) ∧ (t.gate p.val).act = (s.gate p.val).act ∧
      t.ptp = { s.ptp with time := max s.ptp.time w } ∧ s.keeps t [.gates, .ptp]) ∧
  (∀ (s : State) (p : Fin 4) (m : Master) (v : Word) (rivals : List Req), s.grants (.gate p) 0x70 m v rivals →
    (s.gate p.val).armed = none →
    ∃ t, exec (.gatePegDataAccess p m false (some v) rivals) s = .next t ∧
      (t.gate p.val).pend.peg (s.field (.gate p) 0x6C 9 0) = v ∧
      (∀ j, j ≠ s.field (.gate p) 0x6C 9 0 → (t.gate p.val).pend.peg j = (s.gate p.val).pend.peg j) ∧
      (t.gate p.val).act = (s.gate p.val).act ∧ t.field (.gate p) 0x6C 9 0 = (s.field (.gate p) 0x6C 9 0 + 1) % 1024 ∧
      s.keepsRegs t ((.gate p, 0x6C) :: (.gate p, 0x2C) :: discardRegs (.gate p)) ∧ s.keeps t [.regs, .gates, .log, .host, .out]) ∧
  (∀ (s : State) (p : Fin 4) (m : Master) (v : Word) (rivals : List Req), s.grants (.gate p) 0x70 m v rivals →
    (s.gate p.val).armed.isSome = true →
    ∃ t, exec (.gatePegDataAccess p m false (some v) rivals) s = .next t ∧
      t.field (.gate p) 0x6C 9 0 = (s.field (.gate p) 0x6C 9 0 + 1) % 1024 ∧ s.keeps t [.regs, .log, .host, .out]) ∧
  (∀ (s : State) (p : Fin 4) (m : Master), s.takes (Page.gate p).island → s.reaches (.gate p) m = true →
    bitOn (s.reg (.gate p) 0x08) 1 = false →
    ∃ t, exec (.gatePegDataAccess p m false none []) s = .next t ∧
      t.out = .data m ((s.gate p.val).pend.peg (s.field (.gate p) 0x6C 9 0)) :: s.out ∧
      t.field (.gate p) 0x6C 9 0 = (s.field (.gate p) 0x6C 9 0 + 1) % 1024 ∧ s.keepsRegs t [(.gate p, 0x6C)] ∧
      s.keeps t [.regs, .out]) ∧
  (∀ (s : State) (p : Fin 4) (m : Master), s.takes (Page.gate p).island → s.reaches (.gate p) m = true →
    bitOn (s.reg (.gate p) 0x08) 1 = false →
    ∃ t, exec (.gatePegDataAccess p m true none []) s = .next t ∧
      t.out = .data m ((s.gate p.val).act.peg (s.field (.gate p) 0x6C 9 0)) :: s.out ∧ s.keeps t [.out])

/-- RING_CFG_WRITE, HSR_SUPERVISION_TX, HSR_RX, DD_ENTRY_EXPIRE, PRP_RX, RING_OPEN and RING_CLOSED. RING_CFG is taken and kept,
or refused where it sets HSR_EN at two speeds. Supervision frames leave both ports whose links are up with one number,
counted as sent, while the management reserve has a cell. A ring frame of this unit is removed, a duplicate discarded, one
addressed to it delivered, another forwarded to the other ring port, each new one being remembered, in place of the oldest
of 1,024. The first of a PRP pair is delivered without its trailer, the second discarded. The oldest entry leaves its table
in time. A node is judged open once and closed again. -/
def Obligations.TheRingAndThePair : Prop :=
  (∀ (s : State) (m : Master) (v : Word) (rivals : List Req), s.grants .ring 0x40 m v rivals →
    bitOn v 0 = false ∨ s.speed 0 = s.speed 1 →
    ∃ t, exec (.ringCfgWrite m v rivals) s = .next t ∧ t.reg .ring 0x40 = v &&& 3 ∧ t.fram = { s.fram with ringCfg := v &&& 3 } ∧
      t.ring.suspended = false ∧ s.keepsRegs t ((.ring, 0x40) :: (.ring, 0x10) :: (.ring, 0x2C) :: discardRegs .ring) ∧
      s.keeps t [.regs, .fram, .ring, .log, .host, .out]) ∧
  (∀ (s : State) (m : Master) (v : Word) (rivals : List Req), s.grants .ring 0x40 m v rivals → bitOn v 0 = true →
    s.speed 0 ≠ s.speed 1 →
    ∃ t, exec (.ringCfgWrite m v rivals) s = .next t ∧ bitOn (t.reg .ring 0x10) 3 = true ∧
      s.keepsRegs t ((.ring, 0x10) :: (.ring, 0x2C) :: discardRegs .ring) ∧ s.keeps t [.regs, .log, .host, .out]) ∧
  (∀ s : State, s.mgtCell = false → exec .hsrSupervisionTx s = .next s) ∧
  (∀ s : State, s.mgtCell = true → s.hsr = true → s.runs .prg = true → s.prp = false → s.linkUp 0 = true → s.linkUp 1 = true →
    ∃ t, exec .hsrSupervisionTx s = .next t ∧
      t.out = .supervision 1 (s.field .ring 0x50 15 0) :: .supervision 0 (s.field .ring 0x50 15 0) :: s.out ∧
      t.field .ring 0x50 15 0 = (s.field .ring 0x50 15 0 + 1) % 65536 ∧
      (∀ p : Fin 2, t.reg64 (portPage p.val) 0x110 = (s.reg64 (portPage p.val) 0x110 + 1) % 2 ^ 64 ∧
        t.reg64 (portPage p.val) 0x118 = (s.reg64 (portPage p.val) 0x118 + 70) % 2 ^ 64) ∧
      s.keepsRegs t [(.ring, 0x50), (.port 0, 0x110), (.port 0, 0x114), (.port 0, 0x118), (.port 0, 0x11C),
        (.port 1, 0x110), (.port 1, 0x114), (.port 1, 0x118), (.port 1, 0x11C)] ∧ s.keeps t [.regs, .host, .out]) ∧
  (∀ s : State, s.mgtCell = true → s.hsr = true → s.runs .prg = true → s.prp = false → s.linkUp 0 = true → s.linkUp 1 = false →
    ∃ t, exec .hsrSupervisionTx s = .next t ∧ t.out = .supervision 0 (s.field .ring 0x50 15 0) :: s.out ∧
      t.reg (.port 1) 0x180 = s.reg (.port 1) 0x180 + 1) ∧
  (∀ s : State, s.mgtCell = true → s.hsr = false → s.prp = true → s.runs .pup = true → s.linkUp 2 = true → s.linkUp 3 = true →
    ∃ t, exec .hsrSupervisionTx s = .next t ∧ t.out = .supervision 3 s.ring.prpSeq :: .supervision 2 s.ring.prpSeq :: s.out ∧
      t.ring = { s.ring with prpSeq := (s.ring.prpSeq + 1) % 65536 } ∧
      s.keepsRegs t [(.port 2, 0x110), (.port 2, 0x114), (.port 2, 0x118), (.port 2, 0x11C),
        (.port 3, 0x110), (.port 3, 0x114), (.port 3, 0x118), (.port 3, 0x11C)] ∧ s.keeps t [.regs, .ring, .host, .out]) ∧
  (∀ (s : State) (id p : Nat) (x : Frame), s.frame id = some x → x.loc = .ringIn p → x.bad = false → x.func = false →
    s.hsr = true → srcAddr (bytesOf x.nonets) = s.ringMac →
    ∃ t, exec (.hsrRx id) s = .next t ∧ t.frame id = none ∧ t.reg .ring 0x54 = s.reg .ring 0x54 + 1 ∧
      s.keepsRegs t [(.ring, 0x54)] ∧ s.keeps t [.regs, .ham, .frames]) ∧
  (∀ (s : State) (id p i : Nat) (x : Frame), s.frame id = some x → x.loc = .ringIn p → x.bad = false → x.func = false →
    s.hsr = true → srcAddr (bytesOf x.nonets) ≠ s.ringMac → hsrPos (bytesOf x.nonets) = some i →
    inDd s.ring.dd (srcAddr (bytesOf x.nonets)) (hsrSeq (bytesOf x.nonets) i) = true →
    ∃ t, exec (.hsrRx id) s = .next t ∧ t.frame id = none ∧ t.reg .ring 0x58 = s.reg .ring 0x58 + 1 ∧
      s.keepsRegs t [(.ring, 0x58)] ∧ s.keeps t [.regs, .ham, .frames]) ∧
  (∀ (s : State) (id p i : Nat) (x : Frame), s.frame id = some x → x.loc = .ringIn p → x.bad = false →
    s.hsr = true → srcAddr (bytesOf x.nonets) ≠ s.ringMac → hsrPos (bytesOf x.nonets) = some i →
    inDd s.ring.dd (srcAddr (bytesOf x.nonets)) (hsrSeq (bytesOf x.nonets) i) = false →
    dstAddr (bytesOf x.nonets) = s.ringMac →
    ∃ t, exec (.hsrRx id) s = .next t ∧
      t.frame id = some { x with src := 0, gate := none, seq := none, loc := s.ringLocal x p } ∧
      t.ring.dd = (if s.ring.dd.length < 1024 then s.ring.dd else s.ring.dd.drop 1) ++
        [{ src := srcAddr (bytesOf x.nonets), seq := hsrSeq (bytesOf x.nonets) i }] ∧
      (s.ring.dd.length < 1024 → s.keeps t [.ring, .frames, .nextId]) ∧
      (1024 ≤ s.ring.dd.length → t.reg .ring 0x60 = s.reg .ring 0x60 + 1 ∧ bitOn (t.reg .ring 0x10) 2 = true) ∧
      s.keepsRegs t ((.ring, 0x60) :: eventRegs .ring) ∧ s.keeps t [.regs, .ring, .frames, .nextId, .log, .host, .out]) ∧
  (∀ (s : State) (id p i : Nat) (x : Frame), s.frame id = some x → x.loc = .ringIn p → x.bad = false → x.part = .ring →
    x.cells ≠ 0 → s.hsr = true → s.ring.dd.length < 1024 → srcAddr (bytesOf x.nonets) ≠ s.ringMac →
    hsrPos (bytesOf x.nonets) = some i →
    inDd s.ring.dd (srcAddr (bytesOf x.nonets)) (hsrSeq (bytesOf x.nonets) i) = false →
    dstAddr (bytesOf x.nonets) ≠ s.ringMac → isGroup (dstAddr (bytesOf x.nonets)) = false →
    s.protectSa { x with src := 0, gate := none, seq := none, loc := .egress (1 - p) } (1 - p) = none →
    s.egressEnd { x with src := 0, gate := none, seq := none, loc := .egress (1 - p) } (1 - p) none = none →
    ∃ t, exec (.hsrRx id) s = .next t ∧
      t.frame id = some { x with src := 0, gate := none, seq := none, loc := .egress (1 - p) } ∧
      s.keeps t [.ring, .frames, .nextId]) ∧
  (∀ (s : State) (prp : Bool),
    ∃ t, exec (.ddEntryExpire prp) s = .next t ∧ (if prp then t.ring.ddPrp else t.ring.dd) = (if prp then s.ring.ddPrp else s.ring.dd).drop 1 ∧
      (if prp then t.ring.dd else t.ring.ddPrp) = (if prp then s.ring.dd else s.ring.ddPrp) ∧ s.keeps t [.ring]) ∧
  (∀ (s : State) (id p seq lan : Nat) (x : Frame), s.frame id = some x → x.loc = .prpIn p → x.bad = false →
    rct x.body = some (seq, lan) → inDd s.ring.ddPrp (srcAddr x.body) seq = false → s.ring.ddPrp.length < 1024 →
    ∃ t, exec (.prpRx id) s = .next t ∧
      t.frame id = some { x with nonets := x.nonets.take (x.body.length - 6), gate := none, seq := none, loc := s.ringLocal x p } ∧
      t.ring.ddPrp = s.ring.ddPrp ++ [{ src := srcAddr x.body, seq := seq }] ∧
      (lan ≠ (if p = 2 then 10 else 11) → t.reg .ring 0x64 = s.reg .ring 0x64 + 1) ∧
      (lan = (if p = 2 then 10 else 11) → t.regs = s.regs) ∧
      s.keepsRegs t [(.ring, 0x64)] ∧ s.keeps t [.regs, .ring, .frames, .nextId]) ∧
  (∀ (s : State) (id p seq lan : Nat) (x : Frame), s.frame id = some x → x.loc = .prpIn p → x.bad = false → x.func = false →
    rct x.body = some (seq, lan) → inDd s.ring.ddPrp (srcAddr x.body) seq = true →
    ∃ t, exec (.prpRx id) s = .next t ∧ t.frame id = none ∧ t.reg .ring 0x5C = s.reg .ring 0x5C + 1 ∧
      s.keepsRegs t [(.ring, 0x5C)] ∧ s.keeps t [.regs, .ham, .frames]) ∧
  (∀ (s : State) (n : BitVec 48), s.hsr = true → n.toNat ∉ s.ring.opened →
    ∃ t, exec (.ringOpen n) s = .next t ∧ t.ring = { s.ring with opened := s.ring.opened ++ [n.toNat] } ∧
      bitOn (t.reg .ring 0x10) 0 = true ∧ s.keepsRegs t (eventRegs .ring) ∧ s.keeps t [.regs, .ring, .log, .host, .out]) ∧
  (∀ (s : State) (n : BitVec 48), n.toNat ∈ s.ring.opened →
    ∃ t, exec (.ringClosed n) s = .next t ∧ n.toNat ∉ t.ring.opened ∧ bitOn (t.reg .ring 0x10) 1 = true ∧
      s.keepsRegs t (eventRegs .ring) ∧ s.keeps t [.regs, .ring, .log, .host, .out])

/-- ORDER_GATE_RELEASE and FRAME_TRANSMIT. An emitted frame waits for every earlier frame of its order gate, then goes, a ring
frame without its HSR tag, where its destination code says: to the management controller, to an uplink with its cells moved
to the egress channel, or nowhere. A frame that TX protection is for is sealed by CRY before its port's queue. The first
frame of its class starts when its gate stays open to its last bit and it is not paused: it leaves on the wire and is
counted. A down link, a frame longer than the port's M, and a gate it can never pass drop it, each counted. -/
def Obligations.FramesLeaveClustersAndPorts : Prop :=
  (∀ (s : State) (id c : Nat) (x : Frame), s.frame id = some x → x.loc = .gated c → gateClear id x.gate s.frames = false →
    exec (.orderGateRelease id) s = .next s) ∧
  (∀ (s : State) (id c : Nat) (x : Frame), s.frame id = some x → x.loc = .gated c → gateClear id x.gate s.frames = true →
    x.bad = false → x.dest = 4 * 2 ^ 29 →
    ∃ t, exec (.orderGateRelease id) s = .next t ∧ t.frame id = some { x.untagHsr with gate := none, loc := .mgtIn, seq := none } ∧
      s.keeps t [.frames, .nextId]) ∧
  (∀ (s : State) (id c : Nat) (x : Frame), s.frame id = some x → x.loc = .gated c → gateClear id x.gate s.frames = true →
    x.bad = false → x.func = false → x.dest = 0 →
    ∃ t, exec (.orderGateRelease id) s = .next t ∧ t.frame id = none ∧ s.keeps t [.frames, .ham]) ∧
  (∀ (s : State) (id c k : Nat) (p : Fin 2) (x : Frame), s.frame id = some x → x.loc = .gated c →
    gateClear id x.gate s.frames = true → x.bad = false → x.dest = 2 ^ 29 + (p.val + 2) → x.cells ≠ 0 → x.part = .chan k →
    k ≠ 2 * (p.val + 2) + 1 → (s.giveBack (.chan k) x.cells).admits (2 * (p.val + 2) + 1) x.cells = true →
    s.protectSa { x.untagHsr with gate := none, loc := .egress (p.val + 2), seq := none } (p.val + 2) = none →
    s.egressEnd { x.untagHsr with gate := none, loc := .egress (p.val + 2), seq := none } (p.val + 2) none = none →
    ∃ t, exec (.orderGateRelease id) s = .next t ∧
      t.frame id = some { x.untagHsr with gate := none, loc := .egress (p.val + 2), seq := none, part := .chan (2 * (p.val + 2) + 1) } ∧
      t.heldBy (2 * (p.val + 2) + 1) = s.heldBy (2 * (p.val + 2) + 1) + x.cells ∧ t.heldBy k = s.heldBy k - x.cells ∧
      s.keeps t [.frames, .nextId, .ham]) ∧
  (∀ (s : State) (id p : Nat) (x : Frame), s.frame id = some x → x.loc = .egress p → x.func = false → x.bad = false →
    s.runs (portPage p).island = true → s.egressEnd x p none = none →
    s.gateNoFit p (s.txClass x p) (s.wireTime p (s.wireLen x none)) = false → s.notFirst x p (s.txClass x p) s.frames = false →
    x.part = .safety ∨ s.paused p (s.txClass x p) = false → s.gateFits p (s.txClass x p) (s.wireTime p (s.wireLen x none)) = true →
    ∃ t, exec (.frameTransmit id) s = .next t ∧ t.frame id = none ∧
      t.out = .wire p (s.txClass x p) x.seq ((s.oneStep p x.body).map (fun b => nonet b false)) :: s.out ∧
      (bitOn (s.reg .ptp 0x40) (8 + p) = false → s.oneStep p x.body = x.body) ∧ (t.port p).timers = (s.port p).timers ∧
      t.reg64 (portPage p) 0x110 = (s.reg64 (portPage p) 0x110 + 1) % 2 ^ 64 ∧
      t.reg64 (portPage p) 0x118 = (s.reg64 (portPage p) 0x118 + s.wireLen x none) % 2 ^ 64 ∧
      s.keepsRegs t [(portPage p, 0x110), (portPage p, 0x114), (portPage p, 0x118), (portPage p, 0x11C), (gatePage p, 0x80)] ∧
      s.keeps t [.regs, .ports, .ham, .frames, .host, .out]) ∧
  (∀ (s : State) (id p i : Nat) (x : Frame), s.frame id = some x → x.loc = .protect p → x.bad = false → s.runs .cry = true →
    s.frames.find? (fun y => decide (y.loc = .protect p)) = some x → s.protectSa x p = some i → s.egressEnd x p (some i) = none →
    ∃ t, exec (.frameTransmit id) s = .next t ∧ t.out = s.out ∧
      (∀ y, t.frame id = some y → y.loc = .egress p ∧ y.prot = true ∧ y.seq = none)) ∧
  (∀ (s : State) (id p : Nat) (x : Frame), s.frame id = some x → x.loc = .egress p → x.bad = false →
    s.runs (portPage p).island = true → s.egressEnd x p none = none →
    s.gateNoFit p (s.txClass x p) (s.wireTime p (s.wireLen x none)) = false →
    s.gateFits p (s.txClass x p) (s.wireTime p (s.wireLen x none)) = false ∨
      (x.part ≠ .safety ∧ s.paused p (s.txClass x p) = true) ∨ s.notFirst x p (s.txClass x p) s.frames = true →
    exec (.frameTransmit id) s = .next s) ∧
  (∀ (s : State) (id p : Nat) (x : Frame), s.frame id = some x → x.loc = .egress p → x.func = false → x.bad = false →
    s.runs (portPage p).island = true → s.kptBlocked x = false → s.linkUp p = false →
    ∃ t, exec (.frameTransmit id) s = .next t ∧ t.frame id = none ∧ t.reg (portPage p) 0x180 = s.reg (portPage p) 0x180 + 1 ∧
      s.keepsRegs t [(portPage p, 0x180)] ∧ s.keeps t [.regs, .ham, .frames]) ∧
  (∀ (s : State) (id p : Nat) (x : Frame), s.frame id = some x → x.loc = .egress p → x.func = false → x.bad = false →
    s.runs (portPage p).island = true → s.kptBlocked x = false → s.linkUp p = true →
    s.field (portPage p) 0x44 15 0 < s.wireLen x none →
    ∃ t, exec (.frameTransmit id) s = .next t ∧ t.frame id = none ∧ t.reg (portPage p) 0x184 = s.reg (portPage p) 0x184 + 1 ∧
      s.keepsRegs t [(portPage p, 0x184)] ∧ s.keeps t [.regs, .ham, .frames]) ∧
  (∀ (s : State) (id p : Nat) (x : Frame), s.frame id = some x → x.loc = .egress p → x.func = false → x.bad = false →
    s.runs (portPage p).island = true → s.egressEnd x p none = none →
    s.gateNoFit p (s.txClass x p) (s.wireTime p (s.wireLen x none)) = true →
    ∃ t, exec (.frameTransmit id) s = .next t ∧ t.frame id = none ∧ t.reg (gatePage p) 0x78 = s.reg (gatePage p) 0x78 + 1 ∧
      s.keepsRegs t [(gatePage p, 0x78)] ∧ s.keeps t [.regs, .ham, .frames])

/-- MAC_LEARN and AGEING_TICK. An unknown source address takes a free way of its bucket as a learned entry with DEST and AGE,
counted; in a full bucket the failure is counted and raised. A known dynamic entry moves to the new DEST, counted, a static
one stays and the attempt is counted. With LEARN off, the table held, a WRING of that port running or a Nyate request for
the table waiting nothing is learned. The ageing walk clears HIT, counts AGE down, and deletes an entry whose AGE runs out;
static entries and a held table stay. -/
def Obligations.LearningAndAgeing : Prop :=
  (∀ (s : State) (p : Fin 4) (vid : BitVec 12) (src : BitVec 48) (i : Nat), bitOn (s.reg .swt (0x60 + 4 * p.val)) 1 = true →
    s.tblHolder 0 = none → s.runs .tbl = true → s.wringPauses p.val = false → s.treqWaits 0 = false → s.tbl.bad = [] →
    s.search 0 (learnedEntry src.toNat vid.toNat (s.learnDest p.val) (s.field .swt 0x44 7 0)) 0 = none →
    s.freeWay 0 (learnedEntry src.toNat vid.toNat (s.learnDest p.val) (s.field .swt 0x44 7 0)) = some i →
    ∃ t, exec (.macLearn p vid src) s = .next t ∧
      t.entry 0 i = learnedEntry src.toNat vid.toNat (s.learnDest p.val) (s.field .swt 0x44 7 0) ∧
      (∀ j, j ≠ i → t.entry 0 j = s.entry 0 j) ∧ (∀ k, k ≠ 0 → t.tbl.entries k = s.tbl.entries k) ∧
      t.reg .swt 0x80 = s.reg .swt 0x80 + 1 ∧ s.keepsRegs t [(.swt, 0x80)] ∧ s.keeps t [.regs, .tbl]) ∧
  (∀ (s : State) (p : Fin 4) (vid : BitVec 12) (src : BitVec 48), bitOn (s.reg .swt (0x60 + 4 * p.val)) 1 = true →
    s.tblHolder 0 = none → s.runs .tbl = true → s.wringPauses p.val = false → s.treqWaits 0 = false → s.tbl.bad = [] →
    s.search 0 (learnedEntry src.toNat vid.toNat (s.learnDest p.val) (s.field .swt 0x44 7 0)) 0 = none →
    s.freeWay 0 (learnedEntry src.toNat vid.toNat (s.learnDest p.val) (s.field .swt 0x44 7 0)) = none →
    ∃ t, exec (.macLearn p vid src) s = .next t ∧ t.reg .swt 0x84 = s.reg .swt 0x84 + 1 ∧ bitOn (t.reg .swt 0x10) 0 = true ∧
      s.keepsRegs t ((.swt, 0x84) :: eventRegs .swt) ∧ s.keeps t [.regs, .log, .host, .out]) ∧
  (∀ (s : State) (p : Fin 4) (vid : BitVec 12) (src : BitVec 48) (i : Nat), bitOn (s.reg .swt (0x60 + 4 * p.val)) 1 = true →
    s.tblHolder 0 = none → s.runs .tbl = true → s.wringPauses p.val = false → s.treqWaits 0 = false → s.tbl.bad = [] →
    s.search 0 (learnedEntry src.toNat vid.toNat (s.learnDest p.val) (s.field .swt 0x44 7 0)) 0 = some i →
    isStatic 0 (s.entry 0 i) = false → leAt (s.entry 0 i) 8 4 ≠ s.learnDest p.val →
    ∃ t, exec (.macLearn p vid src) s = .next t ∧ leAt (t.entry 0 i) 8 4 = s.learnDest p.val ∧
      byteAt (t.entry 0 i) 15 = s.field .swt 0x44 7 0 ∧ (∀ j, j ≠ i → t.entry 0 j = s.entry 0 j) ∧
      t.reg .swt 0x88 = s.reg .swt 0x88 + 1 ∧ s.keepsRegs t [(.swt, 0x88)] ∧ s.keeps t [.regs, .tbl]) ∧
  (∀ (s : State) (p : Fin 4) (vid : BitVec 12) (src : BitVec 48) (i : Nat), bitOn (s.reg .swt (0x60 + 4 * p.val)) 1 = true →
    s.tblHolder 0 = none → s.runs .tbl = true → s.wringPauses p.val = false → s.treqWaits 0 = false → s.tbl.bad = [] →
    s.search 0 (learnedEntry src.toNat vid.toNat (s.learnDest p.val) (s.field .swt 0x44 7 0)) 0 = some i →
    isStatic 0 (s.entry 0 i) = true → leAt (s.entry 0 i) 8 4 ≠ s.learnDest p.val →
    ∃ t, exec (.macLearn p vid src) s = .next t ∧ t.reg .swt 0x8C = s.reg .swt 0x8C + 1 ∧ s.keepsRegs t [(.swt, 0x8C)] ∧
      s.keeps t [.regs]) ∧
  (∀ (s : State) (p : Fin 4) (vid : BitVec 12) (src : BitVec 48),
    bitOn (s.reg .swt (0x60 + 4 * p.val)) 1 = false ∨ (s.tblHolder 0).isSome = true ∨ s.wringPauses p.val = true ∨ s.treqWaits 0 = true →
    exec (.macLearn p vid src) s = .next s) ∧
  (∀ (s : State) (i : Nat) (e : List Byte), s.runs .tbl = true → s.tblHolder 0 = none → Sparse.sorted s.tbl.mac = true →
    Sparse.find s.tbl.mac i = some e →
    ∃ t, exec .ageingTick s = .next t ∧
      (validEntry 0 e = true → isStatic 0 e = false → nbit (flagsOf 0 e) 3 = true →
        t.entry 0 i = setByte e 14 (flagsOf 0 e &&& 0xF7)) ∧
      (validEntry 0 e = true → isStatic 0 e = false → nbit (flagsOf 0 e) 3 = false → byteAt e 15 ≤ 1 →
        t.entry 0 i = List.replicate 16 0) ∧
      (validEntry 0 e = true → isStatic 0 e = false → nbit (flagsOf 0 e) 3 = false → 1 < byteAt e 15 →
        t.entry 0 i = setByte e 15 (byteAt e 15 - 1)) ∧
      (validEntry 0 e = false ∨ isStatic 0 e = true → t.entry 0 i = e) ∧
      s.keepsRegs t [(.swt, 0x90)] ∧ s.keeps t [.regs, .tbl]) ∧
  (∀ (s : State), s.runs .tbl = true → (s.tblHolder 0).isSome = true → (s.tblHolder 1).isSome = true → exec .ageingTick s = .next s)

/-- SEARCH, NEXT, INSERT, DELETE, WRING and CMD_DONE. SEARCH shows the valid entry of the key and its index and marks a MAC or
flow entry as hit; NEXT shows the first valid entry at or after the index. INSERT stores a new entry in a free way, or at
the index, within the quota; DELETE clears the entry; WRING clears the entries of a port and tells how many. A held table
and a full quota stop INSERT by their status; an entry on the way that ECC cannot correct ends a command with status ECC,
the entry emptied. A command while one runs is counted. CMD_DONE places the result and raises the event. -/
def Obligations.TableCommands : Prop :=
  (∀ (s : State) (m : Master) (v : Word) (rivals : List Req) (j : Nat), s.grants .tbl 0x40 m (tblWord v 1) rivals →
    s.tbl.cmd = none → s.tbl.bad = [] → entryOk (fld v 17 16) (s.stagedEntry (fld v 17 16)) (s.field .tbl 0x44 19 0) = true →
    s.search (fld v 17 16) (s.stagedEntry (fld v 17 16)) (s.field .tbl 0x44 19 0) = some j →
    ∃ t, exec (.tblSearch m v rivals) s = .next t ∧ t.tbl.cmd = some { status := 0, count := 0, port := none } ∧ t.reg .tbl 0x44 = word j ∧
      (∀ w, w < 16 → t.reg .tbl (0x80 + 4 * w) = word (leAt (t.entry (fld v 17 16) j) (4 * w) 4)) ∧
      (fld v 17 16 < 2 → nbit (flagsOf (fld v 17 16) (t.entry (fld v 17 16) j)) 3 = true) ∧
      (2 ≤ fld v 17 16 → t.entry (fld v 17 16) j = s.entry (fld v 17 16) j) ∧
      (∀ i, i ≠ j → t.entry (fld v 17 16) i = s.entry (fld v 17 16) i) ∧
      (∀ k, k < 4 → k ≠ fld v 17 16 → t.tbl.entries k = s.tbl.entries k) ∧
      s.keepsRegs t ((List.range 16).map (fun w => (Page.tbl, 0x80 + 4 * w)) ++ (.tbl, 0x44) :: (.tbl, 0x2C) :: discardRegs .tbl) ∧
      s.keeps t [.regs, .tbl, .log, .host, .out]) ∧
  (∀ (s : State) (m : Master) (v : Word) (rivals : List Req), s.grants .tbl 0x40 m (tblWord v 1) rivals →
    s.tbl.cmd = none → s.tbl.bad = [] → entryOk (fld v 17 16) (s.stagedEntry (fld v 17 16)) (s.field .tbl 0x44 19 0) = true →
    s.search (fld v 17 16) (s.stagedEntry (fld v 17 16)) (s.field .tbl 0x44 19 0) = none →
    ∃ t, exec (.tblSearch m v rivals) s = .next t ∧ t.tbl = { s.tbl with cmd := some { status := 1, count := 0, port := none } } ∧
      s.keepsRegs t ((.tbl, 0x2C) :: discardRegs .tbl) ∧ s.keeps t [.regs, .tbl, .log, .host, .out]) ∧
  (∀ (s : State) (m : Master) (v : Word) (rivals : List Req), s.grants .tbl 0x40 m (tblWord v 1) rivals →
    s.tbl.cmd = none → entryOk (fld v 17 16) (s.stagedEntry (fld v 17 16)) (s.field .tbl 0x44 19 0) = true →
    s.badRead (fld v 17 16) (s.stagedEntry (fld v 17 16)) (s.field .tbl 0x44 19 0) ≠ [] →
    ∃ t, exec (.tblSearch m v rivals) s = .next t ∧ t.tbl.cmd = some { status := 0x0A, count := 0, port := none } ∧
      (∀ j ∈ s.badRead (fld v 17 16) (s.stagedEntry (fld v 17 16)) (s.field .tbl 0x44 19 0),
        t.entry (fld v 17 16) j = emptyEntry (fld v 17 16)) ∧ bitOn (t.reg .tbl 0x10) 3 = true) ∧
  (∀ (s : State) (m : Master) (v : Word) (rivals : List Req), s.grants .tbl 0x40 m (tblWord v 1) rivals →
    s.tbl.cmd.isSome = true →
    ∃ t, exec (.tblSearch m v rivals) s = .next t ∧ t.reg .tbl 0x100 = s.reg .tbl 0x100 + 1 ∧
      s.keepsRegs t ((.tbl, 0x100) :: (.tbl, 0x2C) :: discardRegs .tbl) ∧ s.keeps t [.regs, .log, .host, .out]) ∧
  (∀ (s : State) (m : Master) (v : Word) (rivals : List Req) (j : Nat), s.grants .tbl 0x40 m (tblWord v 2) rivals →
    s.tbl.cmd = none → s.tbl.bad = [] → bitOn v 10 = false → s.field .tbl 0x44 19 0 < tableSize (fld v 17 16) →
    s.nextFrom (fld v 17 16) (s.field .tbl 0x44 19 0) none = some j → j < s.field .tbl 0x44 19 0 + 65536 →
    ∃ t, exec (.tblNext m v rivals) s = .next t ∧ t.tbl = { s.tbl with cmd := some { status := 0, count := 0, port := none } } ∧
      t.reg .tbl 0x44 = word j ∧ (∀ w, w < 16 → t.reg .tbl (0x80 + 4 * w) = word (leAt (s.entry (fld v 17 16) j) (4 * w) 4)) ∧
      s.keepsRegs t ((List.range 16).map (fun w => (Page.tbl, 0x80 + 4 * w)) ++ (.tbl, 0x44) :: (.tbl, 0x2C) :: discardRegs .tbl) ∧
      s.keeps t [.regs, .tbl, .log, .host, .out]) ∧
  (∀ (s : State) (m : Master) (v : Word) (rivals : List Req) (j : Nat), s.grants .tbl 0x40 m (tblWord v 3) rivals →
    s.tbl.cmd = none → s.tbl.bad = [] → fld v 17 16 < 2 →
    entryOk (fld v 17 16) (s.stagedEntry (fld v 17 16)) (s.field .tbl 0x44 19 0) = true →
    s.bindOk (boundTo (fld v 17 16) (s.stagedEntry (fld v 17 16))) = true → s.lockedFor (fld v 17 16) m = false →
    s.search (fld v 17 16) (s.stagedEntry (fld v 17 16)) (s.field .tbl 0x44 19 0) = none →
    s.freeWay (fld v 17 16) (s.stagedEntry (fld v 17 16)) = some j →
    s.quotaOk (fld v 17 16) j (s.stagedEntry (fld v 17 16)) = true →
    ∃ t, exec (.tblInsert m v rivals) s = .next t ∧ t.tbl.cmd = some { status := 0, count := 0, port := none } ∧
      t.entry (fld v 17 16) j =
        s.stored (fld v 17 16) (s.entry (fld v 17 16) j) (s.stagedEntry (fld v 17 16)) false ∧
      validEntry (fld v 17 16) (t.entry (fld v 17 16) j) = true ∧
      (∀ i, i ≠ j → t.entry (fld v 17 16) i = s.entry (fld v 17 16) i) ∧
      (∀ k, k < 4 → k ≠ fld v 17 16 → t.tbl.entries k = s.tbl.entries k) ∧
      s.keepsRegs t ((.tbl, 0x2C) :: discardRegs .tbl) ∧ s.keeps t [.regs, .tbl, .log, .host, .out]) ∧
  (∀ (s : State) (m : Master) (v : Word) (rivals : List Req), s.grants .tbl 0x40 m (tblWord v 3) rivals →
    s.tbl.cmd = none → 2 ≤ fld v 17 16 → s.field .tbl 0x44 19 0 < 65536 →
    entryOk (fld v 17 16) (s.stagedEntry (fld v 17 16)) (s.field .tbl 0x44 19 0) = true →
    windowOk (fld v 17 16) (s.stagedEntry (fld v 17 16)) = true → s.tbl.bad = [] →
    s.bindOk (boundTo (fld v 17 16) (s.stagedEntry (fld v 17 16))) = true → s.lockedFor (fld v 17 16) m = false →
    s.search (fld v 17 16) (s.stagedEntry (fld v 17 16)) (s.field .tbl 0x44 19 0) = none →
    validEntry (fld v 17 16) (s.entry (fld v 17 16) (s.field .tbl 0x44 19 0)) = false →
    s.quotaOk (fld v 17 16) (s.field .tbl 0x44 19 0) (s.stagedEntry (fld v 17 16)) = true →
    ∃ t, exec (.tblInsert m v rivals) s = .next t ∧ t.tbl.cmd = some { status := 0, count := 0, port := none } ∧
      t.entry (fld v 17 16) (s.field .tbl 0x44 19 0) =
        s.stored (fld v 17 16) (s.entry (fld v 17 16) (s.field .tbl 0x44 19 0)) (s.stagedEntry (fld v 17 16)) false ∧
      (∀ i, i ≠ s.field .tbl 0x44 19 0 → t.entry (fld v 17 16) i = s.entry (fld v 17 16) i) ∧
      s.keepsRegs t ((.tbl, 0x2C) :: discardRegs .tbl) ∧ s.keeps t [.regs, .tbl, .cry, .log, .host, .out]) ∧
  (∀ (s : State) (m : Master) (v : Word) (rivals : List Req), s.grants .tbl 0x40 m (tblWord v 3) rivals →
    s.tbl.cmd = none → s.tbl.bad = [] → fld v 17 16 < 2 →
    entryOk (fld v 17 16) (s.stagedEntry (fld v 17 16)) (s.field .tbl 0x44 19 0) = true →
    s.bindOk (boundTo (fld v 17 16) (s.stagedEntry (fld v 17 16))) = true → s.lockedFor (fld v 17 16) m = true →
    ∃ t, exec (.tblInsert m v rivals) s = .next t ∧ t.tbl = { s.tbl with cmd := some { status := 5, count := 0, port := none } } ∧
      s.keepsRegs t ((.tbl, 0x2C) :: discardRegs .tbl) ∧ s.keeps t [.regs, .tbl, .log, .host, .out]) ∧
  (∀ (s : State) (m : Master) (v : Word) (rivals : List Req) (j : Nat), s.grants .tbl 0x40 m (tblWord v 3) rivals →
    s.tbl.cmd = none → s.tbl.bad = [] → fld v 17 16 < 2 →
    entryOk (fld v 17 16) (s.stagedEntry (fld v 17 16)) (s.field .tbl 0x44 19 0) = true →
    s.bindOk (boundTo (fld v 17 16) (s.stagedEntry (fld v 17 16))) = true → s.lockedFor (fld v 17 16) m = false →
    s.search (fld v 17 16) (s.stagedEntry (fld v 17 16)) (s.field .tbl 0x44 19 0) = none →
    s.freeWay (fld v 17 16) (s.stagedEntry (fld v 17 16)) = some j →
    s.quotaOk (fld v 17 16) j (s.stagedEntry (fld v 17 16)) = false →
    ∃ t, exec (.tblInsert m v rivals) s = .next t ∧ t.tbl = { s.tbl with cmd := some { status := 4, count := 0, port := none } } ∧
      s.keepsRegs t ((.tbl, 0x2C) :: discardRegs .tbl) ∧ s.keeps t [.regs, .tbl, .log, .host, .out]) ∧
  (∀ (s : State) (m : Master) (v : Word) (rivals : List Req) (j : Nat), s.grants .tbl 0x40 m (tblWord v 4) rivals →
    s.tbl.cmd = none → s.tbl.bad = [] → entryOk (fld v 17 16) (s.stagedEntry (fld v 17 16)) (s.field .tbl 0x44 19 0) = true → s.lockedFor (fld v 17 16) m = false →
    s.search (fld v 17 16) (s.stagedEntry (fld v 17 16)) (s.field .tbl 0x44 19 0) = some j →
    ∃ t, exec (.tblDelete m v rivals) s = .next t ∧ t.tbl.cmd = some { status := 0, count := 0, port := none } ∧
      t.entry (fld v 17 16) j = emptyEntry (fld v 17 16) ∧
      (∀ i, i ≠ j → t.entry (fld v 17 16) i = s.entry (fld v 17 16) i) ∧
      (∀ k, k < 4 → k ≠ fld v 17 16 → t.tbl.entries k = s.tbl.entries k) ∧
      (∀ x, fld v 17 16 = 3 → Sparse.find s.cry.slots j = some x → Sparse.find t.cry.slots j = some { x with wiping := true }) ∧
      (fld v 17 16 < 3 → t.cry = s.cry ∧ t.frames = s.frames) ∧
      s.keepsRegs t ((.tbl, 0x2C) :: discardRegs .tbl) ∧ s.keeps t [.regs, .tbl, .cry, .frames, .log, .host, .out]) ∧
  (∀ (s : State) (m : Master) (v : Word) (rivals : List Req), s.grants .tbl 0x40 m (tblWord v 5) rivals →
    s.tbl.cmd = none → s.tbl.bad = [] → s.lockedFor 0 m = false → s.lockedFor 1 m = false →
    ∃ t, exec (.tblWring m v rivals) s = .next t ∧
      t.tbl.cmd = some
        { status := 0, count := (s.wringSet 0 (s.field .tbl 0x48 2 0) (bitOn v 8)).length + (s.wringSet 1 (s.field .tbl 0x48 2 0) (bitOn v 8)).length,
          port := some (s.field .tbl 0x48 2 0) } ∧
      (∀ k i, k < 2 → i ∈ s.wringSet k (s.field .tbl 0x48 2 0) (bitOn v 8) → t.entry k i = emptyEntry k) ∧
      (∀ k i, k < 2 → i ∉ s.wringSet k (s.field .tbl 0x48 2 0) (bitOn v 8) → t.entry k i = s.entry k i) ∧
      t.tbl.tun = s.tbl.tun ∧ t.tbl.sa = s.tbl.sa ∧
      s.keepsRegs t ((.tbl, 0x2C) :: discardRegs .tbl) ∧ s.keeps t [.regs, .tbl, .log, .host, .out]) ∧
  (∀ (s : State) (c : TblCmd), s.tbl.cmd = some c →
    ∃ t, exec .cmdDone s = .next t ∧ t.tbl = { s.tbl with cmd := none } ∧ t.reg .tbl 0x4C = word (c.count * 2 ^ 11 + c.status) ∧
      bitOn (t.reg .tbl 0x10) 0 = true ∧ s.keepsRegs t ((.tbl, 0x4C) :: eventRegs .tbl) ∧ s.keeps t [.regs, .tbl, .log, .host, .out])

/-- TBL_DMA_LOCK_WRITE, TBL_DMA_START, DMA_DONE and TBL_LOCK_BREAK. An overseer takes the free bits it writes as 1 and clears
any it writes as 0; another master clears only its own. A transfer on a table its master holds starts with STATE 1, one into
the table with its host reads; one it does not hold ends at once with STATE 5. A transfer that ends has STATE 2, or 4 after
a host read error, and raises DMA_DONE; an image entry that is valid and in its place is stored. A bit held too long is
broken, counted and raised; a transfer on its table ends with STATE 3 and the entries done by then. -/
def Obligations.DirectAccessToTables : Prop :=
  (∀ (s : State) (m : Master) (v : Word) (rivals : List Req), s.grants .tbl 0xC0 m v rivals →
    ∃ t, exec (.tblDmaLockWrite m v rivals) s = .next t ∧
      (∀ k, k < 4 → m.overseer = true →
        t.tblHolder k = (if bitOn v k then some ((s.tblHolder k).getD m) else none)) ∧
      (∀ k, k < 4 → m.overseer = false →
        t.tblHolder k = (if bitOn v k = false ∧ s.tblHolder k = some m then none else s.tblHolder k)) ∧
      (∀ k, t.tbl.entries k = s.tbl.entries k) ∧ t.tbl.dma = s.tbl.dma ∧
      s.keepsRegs t ((.tbl, 0x2C) :: discardRegs .tbl) ∧ s.keeps t [.regs, .tbl, .log, .host, .out]) ∧
  (∀ (s : State) (m : Master) (v : Word) (rivals : List Req), s.grants .tbl 0xCC m (v ||| bit 31) rivals → s.tbl.dma = none →
    s.tblHolder (fld v 25 24) = some m → s.field .tbl 0xD0 19 0 + fld v 20 0 ≤ tableSize (fld v 25 24) →
    ∃ t, exec (.tblDmaStart m v rivals) s = .next t ∧
      t.tbl.dma = some
        { table := fld v 25 24, toTbl := bitOn v 29, merge := bitOn v 28, first := s.field .tbl 0xD0 19 0, count := fld v 20 0,
          addr := s.reg64 .tbl 0xC4 / 64 * 64, m := m } ∧
      { t.tbl with dma := none } = s.tbl ∧
      (bitOn v 29 = true → 0 < fld v 20 0 → (∀ r ∈ s.host.reads, r.id ≠ s.host.nextRead) → t.reading .table = true) ∧
      (bitOn v 29 = false → t.host.reads = s.host.reads) ∧
      t.reg .tbl 0xD4 = 0x10000000 ∧ t.reg .tbl 0xD8 = 0 ∧
      s.keepsRegs t ((.tbl, 0xCC) :: (.tbl, 0xD4) :: (.tbl, 0xD8) :: (.tbl, 0x2C) :: discardRegs .tbl) ∧
      s.keeps t [.regs, .tbl, .log, .host, .out]) ∧
  (∀ (s : State) (m : Master) (v : Word) (rivals : List Req), s.grants .tbl 0xCC m (v ||| bit 31) rivals → s.tbl.dma = none →
    s.tblHolder (fld v 25 24) ≠ some m →
    ∃ t, exec (.tblDmaStart m v rivals) s = .next t ∧ t.tbl = s.tbl ∧ t.reg .tbl 0xD4 = 0x50000000 ∧
      bitOn (t.reg .tbl 0x10) 1 = true ∧
      s.keepsRegs t ((.tbl, 0xCC) :: (.tbl, 0xD4) :: (.tbl, 0x10) :: (.tbl, 0x2C) :: discardRegs .tbl) ∧
      s.keeps t [.regs, .tbl, .log, .host, .out]) ∧
  (∀ (s : State) (image : List (List Byte)) (bad : Bool) (d : TblDma), s.tbl.dma = some d → d.toTbl = false →
    ∃ t, exec (.dmaDone image bad) s = .next t ∧ t.tbl = { s.tbl with dma := none } ∧
      t.reg .tbl 0xD4 = word (2 * 2 ^ 28 + d.count) ∧ bitOn (t.reg .tbl 0x10) 1 = true ∧ (s.dmaOut d d.count).out <:+ t.out ∧
      s.keepsRegs t ((.tbl, 0xD4) :: eventRegs .tbl) ∧ s.keeps t [.regs, .tbl, .log, .host, .out]) ∧
  (∀ (s : State) (e : List Byte) (d : TblDma), s.tbl.dma = some d → d.toTbl = true → d.count = 1 → d.table < 2 →
    s.readFailed .table = false → s.reading .table = false →
    validEntry d.table (slice e 0 (entrySize d.table)) = true →
    d.first / 8 = bucketOf d.table (slice e 0 (entrySize d.table)) →
    s.search d.table (slice e 0 (entrySize d.table)) d.first = none →
    s.quotaOk d.table d.first (slice e 0 (entrySize d.table)) = true →
    ∃ t, exec (.dmaDone [e] false) s = .next t ∧ t.entry d.table d.first = slice e 0 (entrySize d.table) ∧
      (∀ i, i ≠ d.first → t.entry d.table i = s.entry d.table i) ∧ t.tbl.dma = none ∧ t.reg .tbl 0xD4 = word (2 * 2 ^ 28 + 1) ∧
      bitOn (t.reg .tbl 0x10) 1 = true ∧ s.keepsRegs t ((.tbl, 0xD4) :: eventRegs .tbl) ∧ s.keeps t [.regs, .tbl, .log, .host, .out]) ∧
  (∀ (s : State) (image : List (List Byte)) (d : TblDma), s.tbl.dma = some d → d.toTbl = true → s.readFailed .table = false →
    s.reading .table = true → exec (.dmaDone image false) s = .next s) ∧
  (∀ (s : State) (bad : Bool) (d : TblDma), s.tbl.dma = some d → d.toTbl = true → bad = true ∨ s.readFailed .table = true →
    ∃ t, exec (.dmaDone [] bad) s = .next t ∧ t.tbl = { s.tbl with dma := none } ∧ t.reg .tbl 0xD4 = word (4 * 2 ^ 28) ∧
      bitOn (t.reg .tbl 0x10) 1 = true ∧ s.keepsRegs t ((.tbl, 0xD4) :: eventRegs .tbl) ∧ s.keeps t [.regs, .tbl, .log, .host, .out]) ∧
  (∀ (s : State) (k : Fin 4) (image : List (List Byte)) (h : Master), s.tblHolder k.val = some h → s.tbl.dma = none →
    ∃ t, exec (.tblLockBreak ⟨k, image⟩) s = .next t ∧ t.tblHolder k.val = none ∧ (∀ j, j ≠ k.val → t.tblHolder j = s.tblHolder j) ∧
      t.reg .tbl 0xDC = s.reg .tbl 0xDC + 1 ∧ bitOn (t.reg .tbl 0x10) 2 = true ∧
      s.keepsRegs t ((.tbl, 0xDC) :: eventRegs .tbl) ∧ s.keeps t [.regs, .tbl, .log, .host, .out]) ∧
  (∀ (s : State) (k : Fin 4) (image : List (List Byte)) (h : Master) (d : TblDma), s.tblHolder k.val = some h → s.tbl.dma = some d →
    d.table = k.val →
    ∃ t, exec (.tblLockBreak ⟨k, image⟩) s = .next t ∧ t.tblHolder k.val = none ∧ t.tbl.dma = none ∧
      t.reg .tbl 0xD4 = word (3 * 2 ^ 28 + (image.take d.count).length) ∧
      (d.toTbl = false ∨ image = [] → ∀ j, t.tbl.entries j = s.tbl.entries j) ∧
      bitOn (t.reg .tbl 0x10) 1 = true ∧ bitOn (t.reg .tbl 0x10) 2 = true ∧
      s.keepsRegs t ((.tbl, 0xD4) :: (.tbl, 0xD8) :: (.tbl, 0xDC) :: eventRegs .tbl) ∧
      s.keeps t [.regs, .tbl, .cry, .frames, .log, .host, .out])

/-- DARN_VISIT, DARN_RECHECK and TBL_SCRUB. A visit of an index that has a shadow entry first reads it from host memory. A visit
that agrees moves the pass to the next index, a full walk being counted and raised; one that disagrees is kept for a
recheck. A mismatch that stands is reported in host memory at the producer's place, which moves on; with no room left the
report is lost and counted. A scrub counts a corrected error; an uncorrectable entry is emptied, counted, recorded and
raised. -/
def Obligations.DarningAndScrubbing : Prop :=
  (∀ (s : State) (shadow : Option (List Byte)) (h : List Byte), s.tbl.dTab = s.darnTable → s.darnOn s.darnTable = true →
    s.tbl.check = none → s.reading .shadow = false → s.readFailed .shadow = false →
    s.tbl.asked = true ∨ s.field .darn (0x5C + 4 * s.darnTable) 20 0 ≤ s.tbl.dIdx.getD s.darnTable 0 → s.runs .tbl = true → s.shadowAt s.darnTable (s.tbl.dIdx.getD s.darnTable 0) shadow = some h →
    mismatch s.darnTable (s.entry s.darnTable (s.tbl.dIdx.getD s.darnTable 0)) h = 0 →
    s.tbl.dIdx.getD s.darnTable 0 + 1 < tableSize s.darnTable →
    ∃ t, exec (.darnVisit shadow) s = .next t ∧ t.tbl.dIdx.getD s.darnTable 0 = s.tbl.dIdx.getD s.darnTable 0 + 1 ∧
      t.tbl.dTab = s.darnTable ∧ t.tbl.check = none ∧ (∀ k, t.tbl.entries k = s.tbl.entries k) ∧ s.keeps t [.tbl, .host]) ∧
  (∀ (s : State) (shadow : Option (List Byte)) (h : List Byte), s.tbl.dTab = s.darnTable → s.darnOn s.darnTable = true →
    s.tbl.check = none → s.reading .shadow = false → s.readFailed .shadow = false →
    s.tbl.asked = true ∨ s.field .darn (0x5C + 4 * s.darnTable) 20 0 ≤ s.tbl.dIdx.getD s.darnTable 0 → s.runs .tbl = true → s.shadowAt s.darnTable (s.tbl.dIdx.getD s.darnTable 0) shadow = some h →
    mismatch s.darnTable (s.entry s.darnTable (s.tbl.dIdx.getD s.darnTable 0)) h = 0 →
    tableSize s.darnTable ≤ s.tbl.dIdx.getD s.darnTable 0 + 1 → s.darnNext s.darnTable ≤ s.darnTable →
    ∃ t, exec (.darnVisit shadow) s = .next t ∧ t.tbl.dIdx.getD s.darnTable 0 = 0 ∧ t.tbl.dTab = s.darnNext s.darnTable ∧
      t.reg .darn 0x80 = s.reg .darn 0x80 + 1 ∧ bitOn (t.reg .darn 0x10) 1 = true ∧
      s.keepsRegs t ((.darn, 0x80) :: eventRegs .darn) ∧ s.keeps t [.regs, .tbl, .log, .host, .out]) ∧
  (∀ (s : State) (shadow : Option (List Byte)) (h : List Byte), s.tbl.dTab = s.darnTable → s.darnOn s.darnTable = true →
    s.tbl.check = none → s.reading .shadow = false → s.readFailed .shadow = false →
    s.tbl.asked = true ∨ s.field .darn (0x5C + 4 * s.darnTable) 20 0 ≤ s.tbl.dIdx.getD s.darnTable 0 → s.runs .tbl = true → s.shadowAt s.darnTable (s.tbl.dIdx.getD s.darnTable 0) shadow = some h →
    mismatch s.darnTable (s.entry s.darnTable (s.tbl.dIdx.getD s.darnTable 0)) h ≠ 0 →
    ∃ t, exec (.darnVisit shadow) s = .next t ∧
      t.tbl.check = some { table := s.darnTable, index := s.tbl.dIdx.getD s.darnTable 0 } ∧ t.tbl.dIdx = s.tbl.dIdx ∧
      (∀ k, t.tbl.entries k = s.tbl.entries k) ∧ s.keeps t [.tbl, .host]) ∧
  (∀ (s : State) (shadow : Option (List Byte)), s.tbl.dTab = s.darnTable → s.darnOn s.darnTable = true → s.tbl.check = none →
    s.reading .shadow = false → s.tbl.asked = false → s.runs .tbl = true →
    s.tbl.dIdx.getD s.darnTable 0 < s.field .darn (0x5C + 4 * s.darnTable) 20 0 → (∀ r ∈ s.host.reads, r.id ≠ s.host.nextRead) →
    0 < entrySize s.darnTable →
    ∃ t, exec (.darnVisit shadow) s = .next t ∧ t.tbl = { s.tbl with asked := true } ∧ t.reading .shadow = true ∧
      s.keeps t [.tbl, .host, .out]) ∧
  (∀ (s : State) (shadow : Option (List Byte)) (h : List Byte) (c : Recheck), s.tbl.check = some c → s.darnOn c.table = true →
    s.runs .tbl = true → s.reading .shadow = false → s.readFailed .shadow = false →
    s.tbl.asked = true ∨ s.field .darn (0x5C + 4 * c.table) 20 0 ≤ c.index →
    s.shadowAt c.table c.index shadow = some h → mismatch c.table (s.entry c.table c.index) h ≠ 0 →
    c.table < 256 → c.index < 2 ^ 32 → 16 ≤ (s.func 0).cfg.maxPayload →
    (s.field .darn 0x74 15 0 + 1) % (64 * 2 ^ s.field .darn 0x70 3 0) ≠ s.field .darn 0x78 15 0 % (64 * 2 ^ s.field .darn 0x70 3 0) →
    ∃ t b, exec (.darnRecheck shadow) s = .next t ∧
      Out.hostWrite 0 (s.reg64 .darn 0x68 / 4096 * 4096 + 16 * s.field .darn 0x74 15 0) (s.func 0).cfg.idoReq b ∈ t.out ∧
      b.length = 16 ∧ leAt b 0 4 = c.index ∧ byteAt b 4 = c.table ∧ byteAt b 5 = mismatch c.table (s.entry c.table c.index) h ∧
      t.field .darn 0x74 15 0 = (s.field .darn 0x74 15 0 + 1) % (64 * 2 ^ s.field .darn 0x70 3 0) % 65536 ∧
      bitOn (t.reg .darn 0x10) 0 = true ∧ t.tbl.check = none ∧
      s.keepsRegs t ((.darn, 0x74) :: (.darn, 0x80) :: eventRegs .darn) ∧ s.keeps t [.regs, .tbl, .log, .host, .out]) ∧
  (∀ (s : State) (shadow : Option (List Byte)) (h : List Byte) (c : Recheck), s.tbl.check = some c → s.darnOn c.table = true →
    s.runs .tbl = true → s.reading .shadow = false → s.readFailed .shadow = false →
    s.tbl.asked = true ∨ s.field .darn (0x5C + 4 * c.table) 20 0 ≤ c.index →
    s.shadowAt c.table c.index shadow = some h → mismatch c.table (s.entry c.table c.index) h ≠ 0 →
    (s.field .darn 0x74 15 0 + 1) % (64 * 2 ^ s.field .darn 0x70 3 0) = s.field .darn 0x78 15 0 % (64 * 2 ^ s.field .darn 0x70 3 0) →
    ∃ t, exec (.darnRecheck shadow) s = .next t ∧ t.reg .darn 0x7C = s.reg .darn 0x7C + 1 ∧ bitOn (t.reg .darn 0x10) 2 = true ∧
      t.reg .darn 0x74 = s.reg .darn 0x74 ∧ s.keeps t [.regs, .tbl, .log, .host, .out]) ∧
  (∀ (s : State) (k : Fin 4) (i : Nat), i < tableSize k.val → s.runs .tbl = true →
    ∃ t, exec (.tblScrub k i 1) s = .next t ∧ t.field .tbl 0xE4 15 0 = (s.field .tbl 0xE4 15 0 + 1) % 65536 ∧
      s.keepsRegs t [(.tbl, 0xE4)] ∧ s.keeps t [.regs]) ∧
  (∀ (s : State) (k : Fin 4) (i : Nat), i < tableSize k.val → s.runs .tbl = true →
    ∃ t, exec (.tblScrub k i 2) s = .next t ∧ t.entry k.val i = emptyEntry k.val ∧
      (∀ j, j ≠ i → t.entry k.val j = s.entry k.val j) ∧ (∀ j, j < 4 → j ≠ k.val → t.tbl.entries j = s.tbl.entries j) ∧
      t.field .tbl 0xE4 31 16 = (s.field .tbl 0xE4 31 16 + 1) % 65536 ∧ t.reg .tbl 0xE8 = word (k.val * 2 ^ 24 + i) ∧
      bitOn (t.reg .tbl 0x10) 3 = true ∧ s.keepsRegs t ((.tbl, 0xE4) :: (.tbl, 0xE8) :: eventRegs .tbl) ∧
      s.keeps t [.regs, .tbl, .cry, .log, .host, .out]) ∧
  (∀ (s : State) (k : Fin 4) (i errs : Nat), i < tableSize k.val → s.runs .tbl = true → 3 ≤ errs →
    ∃ t, exec (.tblScrub k i errs) s = .next t ∧ (k.val, i) ∈ t.tbl.bad ∧ (∀ j, t.tbl.entries j = s.tbl.entries j) ∧ s.keeps t [.tbl])

/-- TUN_ENC_WRITE, TUN_ENC_READ and TUNNEL_DECAP. WRITE replaces the record at the index by the staged one where it is
acceptable and answers 1, else answers 2 and keeps the record; READ copies the record to the staging registers. A frame
handed to TUN for decapsulation goes on as its inner frame and is counted; one that fails a check ends and is counted in the
counter of that check; a Geneve OAM frame goes to TUN_OAM.DEST. -/
def Obligations.TunnelRecordsAndDecapsulation : Prop :=
  (∀ (s : State) (m : Master) (rivals : List Req), s.grants .tun 0x4C m (bit 0) rivals →
    s.encOk (s.field .tun 0x48 15 0) s.stagedEnc = true →
    ∃ t, exec (.tunEncWrite m rivals) s = .next t ∧ t.encRec (s.field .tun 0x48 15 0) = s.stagedEnc ∧
      (∀ j, j ≠ s.field .tun 0x48 15 0 → t.encRec j = s.encRec j) ∧ t.reg .tun 0x50 = 1 ∧
      s.keepsRegs t ((.tun, 0x50) :: (.tun, 0x2C) :: discardRegs .tun) ∧ s.keeps t [.regs, .tun, .log, .host, .out]) ∧
  (∀ (s : State) (m : Master) (rivals : List Req), s.grants .tun 0x4C m (bit 0) rivals →
    s.encOk (s.field .tun 0x48 15 0) s.stagedEnc = false →
    ∃ t, exec (.tunEncWrite m rivals) s = .next t ∧ t.reg .tun 0x50 = 2 ∧
      s.keepsRegs t ((.tun, 0x50) :: (.tun, 0x2C) :: discardRegs .tun) ∧ s.keeps t [.regs, .log, .host, .out]) ∧
  (∀ (s : State) (m : Master) (rivals : List Req), s.grants .tun 0x4C m (bit 1) rivals →
    ∃ t, exec (.tunEncRead m rivals) s = .next t ∧
      (∀ w, w < 32 → t.reg .tun (0x80 + 4 * w) = word (leAt (s.encRec (s.field .tun 0x48 15 0)) (4 * w) 4)) ∧
      t.reg .tun 0x50 = 1 ∧
      s.keepsRegs t ((List.range 32).map (fun w => (Page.tun, 0x80 + 4 * w)) ++ (.tun, 0x50) :: (.tun, 0x2C) :: discardRegs .tun) ∧
      s.keeps t [.regs, .log, .host, .out]) ∧
  (∀ (s : State) (id c th ops : Nat) (csumBad : Bool) (x : Frame) (b : List Byte), s.frame id = some x →
    x.loc = .engine c th ops true → nbit ops 2 = true → nbit ops 3 = false → s.runs .tun = true → x.bad = false →
    s.decap x.body csumBad = .inner b → (x.cells = 0 ∨ cellsOf (stitched b (boundaries b)).length = x.cells) →
    ∃ t, exec (.tunnelDecap id csumBad) s = .next t ∧
      t.frame id = some { x with nonets := stitched b (boundaries b), loc := .gated c } ∧
      t.reg .tun 0x104 = s.reg .tun 0x104 + 1 ∧ s.keepsRegs t [(.tun, 0x104)] ∧ s.keeps t [.regs, .frames]) ∧
  (∀ (s : State) (id c th ops : Nat) (csumBad : Bool) (x : Frame) (b : List Byte), s.frame id = some x →
    x.loc = .engine c th ops true → nbit ops 2 = true → nbit ops 3 = true → s.runs .tun = true → x.bad = false →
    s.decap x.body csumBad = .inner b → (x.cells = 0 ∨ cellsOf (stitched b (boundaries b)).length = x.cells) →
    ∃ t, exec (.tunnelDecap id csumBad) s = .next t ∧
      t.frame id = some { x with nonets := stitched b (boundaries b), loc := .engine c th 8 true } ∧
      t.reg .tun 0x104 = s.reg .tun 0x104 + 1 ∧ s.keepsRegs t [(.tun, 0x104)] ∧ s.keeps t [.regs, .frames]) ∧
  (∀ (s : State) (id c th ops : Nat) (csumBad : Bool) (x : Frame) (b : List Byte), s.frame id = some x →
    x.loc = .engine c th ops true → nbit ops 2 = true → s.runs .tun = true → x.bad = false →
    s.decap x.body csumBad = .inner b →
    exec (.tunnelDecap id csumBad) s = .next ((s.setFitted { x with
      nonets := stitched b (boundaries b), loc := if nbit ops 3 then .engine c th 8 true else .gated c }).count .tun 0x104)) ∧
  (∀ (s : State) (id c th ops k : Nat) (csumBad : Bool) (x : Frame), s.frame id = some x → x.func = false →
    x.loc = .engine c th ops true → nbit ops 2 = true → s.runs .tun = true → x.bad = false →
    s.decap x.body csumBad = .drop k →
    ∃ t, exec (.tunnelDecap id csumBad) s = .next t ∧ t.frame id = none ∧ t.reg .tun k = s.reg .tun k + 1 ∧
      s.keepsRegs t [(.tun, k)] ∧ s.keeps t [.regs, .frames, .ham]) ∧
  (∀ (s : State) (id c th ops : Nat) (csumBad : Bool) (x : Frame), s.frame id = some x →
    x.loc = .engine c th ops true → nbit ops 2 = true → s.runs .tun = true → x.bad = false →
    s.decap x.body csumBad = .oam → (s.reg .tun 0x44).toNat / 2 ^ 29 ≠ 0 →
    ∃ t, exec (.tunnelDecap id csumBad) s = .next t ∧
      t.frame id = some { x with loc := .gated c, dest := (s.reg .tun 0x44).toNat } ∧
      t.reg .tun 0x118 = s.reg .tun 0x118 + 1 ∧ s.keepsRegs t [(.tun, 0x118)] ∧ s.keeps t [.regs, .frames])

/-- MACSEC_RX_VERIFY and ESP_INBOUND. A frame with a SecTAG whose SA is usable and whose ICV verifies, its number not being
late, is delivered without the tag and counted; with a bad ICV, a late number or no SA it ends, counted in the counter of
that case. An ESP packet queued to a function with no SA of its own is delivered as it is and counted; one opened under its
SA goes back to its queue; one opened for a thread goes to its order gate, or ends with its engine code. -/
def Obligations.ReceivedFramesAreVerified : Prop :=
  (∀ (s : State) (id p i : Nat) (plain : List Byte) (x : Frame), s.frame id = some x → x.loc = .macsec p → p < 4 →
    s.runs .cry = true → x.bad = false → x.old = none → s.tbl.bad = [] → s.rxSa p (bytesOf x.nonets) = some i →
    s.saFault i 2 = none → s.isLate i (recoverPn (s.entry 3 i) (beAt (bytesOf x.nonets) 16 4)) = false →
    (x.cells = 0 ∨ cellsOf (stitched (slice (bytesOf x.nonets) 0 12 ++ plain)
      (boundaries (slice (bytesOf x.nonets) 0 12 ++ plain))).length = x.cells) →
    ∃ t y, exec (.macsecRxVerify id true plain) s = .next t ∧ t.frame id = some y ∧
      bytesOf y.nonets = slice (bytesOf x.nonets) 0 12 ++ plain ∧ y.loc = s.afterMacsec p y ∧ y.cells = x.cells ∧
      t.reg .cry (0x100 + 32 * p) = s.reg .cry (0x100 + 32 * p) + 1 ∧ (t.live i).ok = (s.live i).ok + 1 ∧
      s.keepsRegs t ((.cry, 0x100 + 32 * p) :: (.cry, 0x74) :: eventRegs .cry) ∧
      s.keeps t [.regs, .tbl, .cry, .frames, .log, .host, .out]) ∧
  (∀ (s : State) (id p i : Nat) (plain : List Byte) (x : Frame), s.frame id = some x → x.func = false → x.loc = .macsec p →
    p < 4 → s.runs .cry = true → x.bad = false → x.old = none → s.tbl.bad = [] → s.rxSa p (bytesOf x.nonets) = some i →
    s.saFault i 2 = none →
    ∃ t, exec (.macsecRxVerify id false plain) s = .next t ∧ t.frame id = none ∧ (t.live i).icv = (s.live i).icv + 1 ∧
      t.reg .cry (0x104 + 32 * p) = s.reg .cry (0x104 + 32 * p) + 1 ∧ s.keepsRegs t [(.cry, 0x104 + 32 * p)] ∧
      s.keeps t [.regs, .cry, .frames, .ham]) ∧
  (∀ (s : State) (id p i : Nat) (plain : List Byte) (x : Frame), s.frame id = some x → x.func = false → x.loc = .macsec p →
    p < 4 → s.runs .cry = true → x.bad = false → x.old = none → s.tbl.bad = [] → s.rxSa p (bytesOf x.nonets) = some i →
    s.saFault i 2 = none → s.isLate i (recoverPn (s.entry 3 i) (beAt (bytesOf x.nonets) 16 4)) = true →
    ∃ t, exec (.macsecRxVerify id true plain) s = .next t ∧ t.frame id = none ∧ (t.live i).late = (s.live i).late + 1 ∧
      t.reg .cry (0x10C + 32 * p) = s.reg .cry (0x10C + 32 * p) + 1 ∧ s.keepsRegs t [(.cry, 0x10C + 32 * p)] ∧
      s.keeps t [.regs, .cry, .frames, .ham]) ∧
  (∀ (s : State) (id p : Nat) (icvOk : Bool) (plain : List Byte) (x : Frame), s.frame id = some x → x.func = false →
    x.loc = .macsec p → p < 4 → s.runs .cry = true → x.bad = false → x.old = none → s.tbl.bad = [] →
    s.rxSa p (bytesOf x.nonets) = none →
    ∃ t, exec (.macsecRxVerify id icvOk plain) s = .next t ∧ t.frame id = none ∧
      t.reg .cry (0x108 + 32 * p) = s.reg .cry (0x108 + 32 * p) + 1 ∧ s.keepsRegs t [(.cry, 0x108 + 32 * p)] ∧
      s.keeps t [.regs, .frames, .ham]) ∧
  (∀ (s : State) (id p i c : Nat) (icvOk : Bool) (plain : List Byte) (x : Frame), s.frame id = some x → x.func = false →
    x.loc = .macsec p → p < 4 → s.runs .cry = true → x.bad = false → x.old = none → s.tbl.bad = [] →
    s.rxSa p (bytesOf x.nonets) = some i → s.saFault i 2 = some c →
    ∃ t, exec (.macsecRxVerify id icvOk plain) s = .next t ∧ t.frame id = none ∧
      t.reg .cry (0x104 + 32 * p) = s.reg .cry (0x104 + 32 * p) + 1 ∧ s.keepsRegs t [(.cry, 0x104 + 32 * p)] ∧
      s.keeps t [.regs, .frames, .ham]) ∧
  (∀ (s : State) (id p : Nat) (icvOk : Bool) (plain e : List Byte) (x : Frame), s.frame id = some x → x.func = false →
    x.loc = .macsec p → p < 4 → s.runs .cry = true → x.bad = false → x.old = some e → s.tbl.bad = [] →
    s.judgeOld x.sa e (recoverPn e (beAt x.body 16 4)) icvOk = .bad →
    ∃ t, exec (.macsecRxVerify id icvOk plain) s = .next t ∧ t.frame id = none ∧
      t.reg .cry (0x104 + 32 * p) = s.reg .cry (0x104 + 32 * p) + 1 ∧ s.keepsRegs t [(.cry, 0x104 + 32 * p)] ∧
      s.keeps t [.regs, .frames, .ham]) ∧
  (∀ (s : State) (id f q l3 : Nat) (v6 icvOk : Bool) (plain : List Byte) (x : Frame), s.frame id = some x → x.loc = .rxq f q →
    s.runs .cry = true → x.espPending = true → ipAt x.body = some (v6, l3) → s.tbl.bad = [] →
    (s.espSa x.body v6 l3).filter (fun i => decide (boundTo 3 (s.entry 3 i) = some f)) = none →
    ∃ t, exec (.espInbound id icvOk plain) s = .next t ∧ t.frame id = some { x with esp := true } ∧
      t.reg .cry 0x180 = s.reg .cry 0x180 + 1 ∧ s.keepsRegs t [(.cry, 0x180)] ∧ s.keeps t [.regs, .frames]) ∧
  (∀ (s u : State) (id f q l3 i : Nat) (v6 icvOk : Bool) (plain : List Byte) (x z : Frame), s.frame id = some x →
    x.loc = .rxq f q → s.runs .cry = true → x.espPending = true → ipAt x.body = some (v6, l3) → s.tbl.bad = [] →
    s.espSa x.body v6 l3 = some i → boundTo 3 (s.entry 3 i) = some f → x.part = .chan 8 → x.cells ≠ 0 → x.bad = false →
    s.espOpen x i icvOk plain = (u, .ok z) →
    exec (.espInbound id icvOk plain) s =
      .next ((u.setFitted { z with loc := .rxq f q }).onFrame id (fun v w => v.moveOrDrop w (funcChan f 1)))) ∧
  (∀ (s u : State) (id c th : Nat) (icvOk : Bool) (plain : List Byte) (x z : Frame), s.frame id = some x →
    x.loc = .engine c th 8 true → s.runs .cry = true → x.part = .chan 8 → x.cells ≠ 0 → x.bad = false →
    s.espOpen x x.sa icvOk plain = (u, .ok z) →
    exec (.espInbound id icvOk plain) s = .next (u.setFitted { z with loc := .gated c })) ∧
  (∀ (s : State) (id c th : Nat) (icvOk : Bool) (plain : List Byte) (x : Frame), s.frame id = some x →
    x.loc = .engine c th 8 true → s.runs .cry = true → x.part = .chan 8 → x.cells ≠ 0 → x.bad = false → x.fragment = true →
    ∃ t, exec (.espInbound id icvOk plain) s = .next t ∧ s.keeps t [.frames, .ham]) ∧
  (∀ (s u : State) (id c th : Nat) (icvOk : Bool) (plain : List Byte) (x : Frame) (e : FrameEnd), s.frame id = some x →
    x.loc = .engine c th 8 true → s.runs .cry = true → x.part = .chan 8 → x.cells ≠ 0 → x.bad = false →
    s.espOpen x x.sa icvOk plain = (u, .error e) → exec (.espInbound id icvOk plain) s = .next (u.endFrame x e))

/-- LOAD, KEY_STAGE_TIMEOUT, KEY_SLOT_ZEROISED, PN_WARN, SA_EXHAUSTED and CRY_NOTE_POP. LOAD by an overseer copies the staged
key and salt into the slot and answers 1, unless the SA is valid (2) or the slot is being zeroised (3); the staged words are
then 0, as they are after the stage time. A slot being zeroised becomes empty. An SA whose numbers have fallen to the
threshold warns once, one beyond its last is exhausted: its STATE, a note and an event tell so. POP removes the oldest note. -/
def Obligations.KeysNumbersAndNotes : Prop :=
  (∀ (s : State) (m : Master) (v : Word) (rivals : List Req), s.grants .cry 0xB0 m (v ||| bit 0) rivals → m.overseer = true →
    validEntry 3 (s.entry 3 (s.field .cry 0xAC 15 0)) = false → (s.keySlot (s.field .cry 0xAC 15 0)).wiping = false →
    ∃ t, exec (.keyLoad m v rivals) s = .next t ∧
      t.keySlot (s.field .cry 0xAC 15 0) =
        { key := s.cry.key, salt := s.cry.salt, k256 := bitOn v 1, loaded := true, wiping := false } ∧
      (∀ j, j ≠ s.field .cry 0xAC 15 0 → t.keySlot j = s.keySlot j) ∧ t.cry.result = 1 ∧
      t.cry.key = List.replicate 8 0 ∧ t.cry.salt = List.replicate 3 0 ∧ t.cry.live = s.cry.live ∧ t.cry.notes = s.cry.notes ∧
      s.keepsRegs t ((.cry, 0x2C) :: discardRegs .cry) ∧ s.keeps t [.regs, .cry, .log, .host, .out]) ∧
  (∀ (s : State) (m : Master) (v : Word) (rivals : List Req), s.grants .cry 0xB0 m (v ||| bit 0) rivals → m.overseer = true →
    validEntry 3 (s.entry 3 (s.field .cry 0xAC 15 0)) = true ∨ (s.keySlot (s.field .cry 0xAC 15 0)).wiping = true →
    ∃ t, exec (.keyLoad m v rivals) s = .next t ∧ t.cry.slots = s.cry.slots ∧
      t.cry.result = (if validEntry 3 (s.entry 3 (s.field .cry 0xAC 15 0)) then 2 else 3) ∧
      t.cry.key = List.replicate 8 0 ∧ t.cry.salt = List.replicate 3 0 ∧
      s.keepsRegs t ((.cry, 0x2C) :: discardRegs .cry) ∧ s.keeps t [.regs, .cry, .log, .host, .out]) ∧
  (∀ s : State,
    ∃ t, exec .keyStageTimeout s = .next t ∧
      t.cry = { s.cry with key := List.replicate 8 0, salt := List.replicate 3 0 } ∧ s.keeps t [.cry]) ∧
  (∀ (s : State) (i : BitVec 16), s.slotUsed i.toNat = true → exec (.keySlotZeroised i) s = .next s) ∧
  (∀ (s : State) (i : BitVec 16), (s.keySlot i.toNat).wiping = true → s.slotUsed i.toNat = false →
    ∃ t, exec (.keySlotZeroised i) s = .next t ∧ Sparse.find t.cry.slots i.toNat = none ∧
      (∀ j, j ≠ i.toNat → t.keySlot j = s.keySlot j) ∧ s.keeps t [.cry]) ∧
  (∀ (s : State) (i : BitVec 16), validEntry 3 (s.entry 3 i.toNat) = true → saState (s.entry 3 i.toNat) = 0 →
    pnMax (s.entry 3 i.toNat) - nextPn (s.entry 3 i.toNat) ≤ s.warnRemain (s.entry 3 i.toNat) → s.cry.notes.length < 64 →
    ∃ t, exec (.pnWarn i) s = .next t ∧ t.entry 3 i.toNat = setByte (s.entry 3 i.toNat) 60 1 ∧
      (∀ j, j ≠ i.toNat → t.entry 3 j = s.entry 3 j) ∧ t.cry.notes = s.cry.notes ++ [(1, i.toNat)] ∧
      bitOn (t.reg .cry 0x10) 0 = true ∧ s.keepsRegs t (eventRegs .cry) ∧ s.keeps t [.regs, .tbl, .cry, .log, .host, .out]) ∧
  (∀ (s : State) (i : BitVec 16), saState (s.entry 3 i.toNat) ≠ 0 → exec (.pnWarn i) s = .next s) ∧
  (∀ (s : State) (i : BitVec 16), validEntry 3 (s.entry 3 i.toNat) = true → saState (s.entry 3 i.toNat) ≠ 2 →
    pnMax (s.entry 3 i.toNat) < nextPn (s.entry 3 i.toNat) → s.cry.notes.length < 64 →
    ∃ t, exec (.saExhausted i) s = .next t ∧ t.entry 3 i.toNat = setByte (s.entry 3 i.toNat) 60 2 ∧
      (∀ j, j ≠ i.toNat → t.entry 3 j = s.entry 3 j) ∧ t.cry.notes = s.cry.notes ++ [(2, i.toNat)] ∧
      bitOn (t.reg .cry 0x10) 1 = true ∧ s.keepsRegs t (eventRegs .cry) ∧ s.keeps t [.regs, .tbl, .cry, .log, .host, .out]) ∧
  (∀ (s : State) (m : Master) (rivals : List Req), s.grants .cry 0x74 m (bit 31) rivals →
    ∃ t, exec (.cryNotePop m rivals) s = .next t ∧ t.cry = { s.cry with notes := s.cry.notes.drop 1 } ∧
      s.keepsRegs t ((.cry, 0x2C) :: discardRegs .cry) ∧ s.keeps t [.regs, .cry, .log, .host, .out])

/-- SEAL and OPEN. The next operation of a crypto queue whose descriptors pass the checks and whose burst is granted and read
finishes OK with the length of its data, its buffers written and its burst ended. OPEN with a wrong tag writes nothing and
finishes with AUTH_FAIL. An operation that fails a check finishes with its status and code before any read. -/
def Obligations.CryptoOperationsFinish : Prop :=
  (∀ (s : State) (f : Fin 1024) (q : Fin 256) (cipher tag : List Byte) (w : WqSt) (run : List Item) (e : Item) (b : Burst),
    s.wq f.val q.val = some w → w.kind = 2 → s.funcReports f.val = true → s.runs .cry = true →
    w.nextRun (cryServes 1) = some run → lastOf run = some e → e.part ≠ 0 →
    s.grantOf f.val q.val e.idx = some b → s.burstRead b = true → (burstsOf (cryReads 1 run)).length ≤ e.part →
    ∃ t, exec (.seal f q cipher tag) s = .next t ∧ t.wq f.val q.val = some (w.finishFrame e.idx 0 (roleLen 2 run)) ∧
      t.out = ((s.fillBuffers f.val (slice cipher 0 (roleLen 2 run)) (run.filter (fun i => i.role = 3))).fillBuffers f.val (slice tag 0 16) (run.filter (fun i => i.role = 4))).out ∧
      (∀ a ∈ t.ham.granted, a.id ≠ b.id) ∧ s.keeps t [.queues, .ham, .host, .out]) ∧
  (∀ (s : State) (f : Fin 1024) (q : Fin 256) (plain : List Byte) (w : WqSt) (run : List Item) (e : Item) (b : Burst),
    s.wq f.val q.val = some w → w.kind = 2 → s.funcReports f.val = true → s.runs .cry = true →
    w.nextRun (cryServes 2) = some run → lastOf run = some e → e.part ≠ 0 →
    s.grantOf f.val q.val e.idx = some b → s.burstRead b = true → (burstsOf (cryReads 2 run)).length ≤ e.part →
    ∃ t, exec (.cryOpen f q plain true) s = .next t ∧ t.wq f.val q.val = some (w.finishFrame e.idx 0 (roleLen 2 run)) ∧
      t.out = (s.fillBuffers f.val (slice plain 0 (roleLen 2 run)) (run.filter (fun i => i.role = 3))).out ∧
      (∀ a ∈ t.ham.granted, a.id ≠ b.id) ∧ s.keeps t [.queues, .ham, .host, .out]) ∧
  (∀ (s : State) (f : Fin 1024) (q : Fin 256) (plain : List Byte) (w : WqSt) (run : List Item) (e : Item) (b : Burst),
    s.wq f.val q.val = some w → w.kind = 2 → s.funcReports f.val = true → s.runs .cry = true →
    w.nextRun (cryServes 2) = some run → lastOf run = some e → e.part ≠ 0 →
    s.grantOf f.val q.val e.idx = some b → s.burstRead b = true → (burstsOf (cryReads 2 run)).length ≤ e.part →
    ∃ t, exec (.cryOpen f q plain false) s = .next t ∧ t.wq f.val q.val = some (w.finishFrame e.idx 7 6) ∧
      (∀ a ∈ t.ham.granted, a.id ≠ b.id) ∧ s.keeps t [.queues, .ham, .host]) ∧
  (∀ (s : State) (f : Fin 1024) (q : Fin 256) (cipher tag : List Byte) (w : WqSt) (run : List Item) (e : Item) (st res : Nat),
    s.wq f.val q.val = some w → w.kind = 2 → s.funcReports f.val = true → s.runs .cry = true →
    w.nextRun (cryServes 1) = some run → lastOf run = some e → s.funcRuns f.val = true → s.admitsWork .cry = true →
    e.part = 0 → s.cryFault f.val 1 run = some (st, res) →
    ∃ t, exec (.seal f q cipher tag) s = .next t ∧ t.wq f.val q.val = some (w.finishFrame e.idx st res) ∧ s.keeps t [.queues]) ∧
  (∀ (s : State) (f : Fin 1024) (q : Fin 256) (plain : List Byte) (tagOk : Bool) (w : WqSt) (run : List Item) (e : Item)
    (st res : Nat), s.wq f.val q.val = some w → w.kind = 2 → s.funcReports f.val = true → s.runs .cry = true →
    w.nextRun (cryServes 2) = some run → lastOf run = some e → s.funcRuns f.val = true → s.admitsWork .cry = true →
    e.part = 0 → s.cryFault f.val 2 run = some (st, res) →
    ∃ t, exec (.cryOpen f q plain tagOk) s = .next t ∧ t.wq f.val q.val = some (w.finishFrame e.idx st res) ∧ s.keeps t [.queues]) ∧
  (∀ (s u : State) (f : Fin 1024) (q : Fin 256) (data tag : List Byte) (tagOk : Bool) (op : Nat) (w : WqSt) (run : List Item) (e : Item),
    s.wq f.val q.val = some w → w.kind = 2 → s.funcReports f.val = true → s.runs .cry = true → (op = 1 ∨ op = 2) →
    w.nextRun (cryServes op) = some run → lastOf run = some e → s.funcRuns f.val = true → s.admitsWork .cry = true →
    e.part = 0 → s.cryFault f.val op run = none → s.grantOf f.val q.val e.idx = none →
    u = (s.setWq f.val q.val (some (w.asked run 1))).requestBurst f.val q.val e.idx 2 ((burstsOf (cryReads op run)).getD 0 []) none →
    (op = 1 → exec (.seal f q data tag) s = .next u) ∧ (op = 2 → exec (.cryOpen f q data tagOk) s = .next u)) ∧
  (∀ (s u : State) (f : Fin 1024) (q : Fin 256) (data tag : List Byte) (tagOk : Bool) (op : Nat) (w : WqSt) (run : List Item) (e : Item)
    (b : Burst), s.wq f.val q.val = some w → w.kind = 2 → s.funcReports f.val = true → s.runs .cry = true → (op = 1 ∨ op = 2) →
    w.nextRun (cryServes op) = some run → lastOf run = some e → e.part ≠ 0 →
    s.grantOf f.val q.val e.idx = some b → s.burstRead b = true → e.part < (burstsOf (cryReads op run)).length →
    u = ((s.endBurst b).setWq f.val q.val (some (w.asked run (e.part + 1)))).requestBurst f.val q.val e.idx 2
      ((burstsOf (cryReads op run)).getD e.part []) none →
    (op = 1 → exec (.seal f q data tag) s = .next u) ∧ (op = 2 → exec (.cryOpen f q data tagOk) s = .next u)) ∧
  (∀ (s u : State) (f : Fin 1024) (q : Fin 256) (data tag : List Byte) (tagOk : Bool) (op : Nat) (w : WqSt) (run : List Item) (e : Item)
    (b : Burst), s.wq f.val q.val = some w → w.kind = 2 → s.funcReports f.val = true → s.runs .cry = true → (op = 1 ∨ op = 2) →
    w.nextRun (cryServes op) = some run → lastOf run = some e → e.part ≠ 0 →
    s.grantOf f.val q.val e.idx = some b → s.burstRead b = false → u = s →
    (op = 1 → exec (.seal f q data tag) s = .next u) ∧ (op = 2 → exec (.cryOpen f q data tagOk) s = .next u))

/-- STO_CONN_WRITE, STO_CONN_READ, STO_CONN_OPEN, STO_CONN_CLOSE, ICRESP_RX, CLOSE_WAIT_END and FIN_ACK_TIMEOUT. WRITE replaces
a context's written fields where it is acceptable and answers 1, else answers 2; READ shows it. OPEN of an idle or failed
connection makes it OPENING and sends SYN and ICReq. An acceptable ICResp opens it and records its values; one that refuses
a digest or is malformed fails it. CLOSE begins a closing, which ends with FIN, or with RST where operations are left. A FIN
not acknowledged is followed by RST. -/
def Obligations.StorageConnections : Prop :=
  (∀ (s : State) (m : Master) (rivals : List Req), s.grants .sto 0x44 m (bit 0) rivals → m.overseer = true →
    s.connOk (s.field .sto 0x40 11 0) s.stagedConn = true →
    ∃ t, exec (.stoConnWrite m rivals) s = .next t ∧
      t.conn (s.field .sto 0x40 11 0) = mergeConn (s.conn (s.field .sto 0x40 11 0)) s.stagedConn ∧
      (∀ d, d ≠ s.field .sto 0x40 11 0 → t.conn d = s.conn d) ∧ t.reg .sto 0x48 = 1 ∧ t.sto.ops = s.sto.ops ∧
      s.keepsRegs t ((.sto, 0x48) :: (.sto, 0x2C) :: discardRegs .sto) ∧ s.keeps t [.regs, .sto, .log, .host, .out]) ∧
  (∀ (s : State) (m : Master) (rivals : List Req), s.grants .sto 0x44 m (bit 0) rivals → m.overseer = true →
    s.connOk (s.field .sto 0x40 11 0) s.stagedConn = false →
    ∃ t, exec (.stoConnWrite m rivals) s = .next t ∧ t.reg .sto 0x48 = 2 ∧
      s.keepsRegs t ((.sto, 0x48) :: (.sto, 0x2C) :: discardRegs .sto) ∧ s.keeps t [.regs, .log, .host, .out]) ∧
  (∀ (s : State) (m : Master) (rivals : List Req), s.grants .sto 0x44 m (bit 1) rivals → m.overseer = true →
    ∃ t, exec (.stoConnRead m rivals) s = .next t ∧
      (∀ w, w < 32 → t.reg .sto (0x80 + 4 * w) = word (leAt (s.conn (s.field .sto 0x40 11 0)) (4 * w) 4)) ∧
      s.keepsRegs t ((List.range 32).map (fun w => (Page.sto, 0x80 + 4 * w)) ++ (.sto, 0x2C) :: discardRegs .sto) ∧
      s.keeps t [.regs, .log, .host, .out]) ∧
  (∀ (s : State) (m : Master) (rivals : List Req), s.grants .sto 0x44 m (bit 2) rivals → m.overseer = true →
    connState (s.conn (s.field .sto 0x40 11 0)) = 1 ∨ connState (s.conn (s.field .sto 0x40 11 0)) = 5 →
    ∃ t, exec (.stoConnOpen m rivals) s = .next t ∧ connState (t.conn (s.field .sto 0x40 11 0)) = 2 ∧
      byteAt (t.conn (s.field .sto 0x40 11 0)) 78 = 0 ∧ (∀ d, d ≠ s.field .sto 0x40 11 0 → t.conn d = s.conn d) ∧
      (Out.pdu (s.field .sto 0x40 11 0) 1 0 [] :: Out.pdu (s.field .sto 0x40 11 0) 0 0 [] :: s.out) <:+ t.out ∧
      t.sto.ops = s.sto.ops ∧ s.field .sto 0x40 11 0 ∉ t.sto.finWait ∧
      s.keepsRegs t ((.sto, 0x2C) :: discardRegs .sto) ∧ s.keeps t [.regs, .sto, .ham, .log, .host, .out]) ∧
  (∀ (s : State) (m : Master) (rivals : List Req), s.grants .sto 0x44 m (bit 3) rivals → m.overseer = true →
    connState (s.conn (s.field .sto 0x40 11 0)) = 3 →
    ∃ t, exec (.stoConnClose m rivals) s = .next t ∧ connState (t.conn (s.field .sto 0x40 11 0)) = 4 ∧
      (∀ k, 1 ≤ k → byteAt (t.conn (s.field .sto 0x40 11 0)) k = byteAt (s.conn (s.field .sto 0x40 11 0)) k) ∧
      (∀ d, d ≠ s.field .sto 0x40 11 0 → t.conn d = s.conn d) ∧ t.sto.ops = s.sto.ops ∧
      s.keepsRegs t ((.sto, 0x2C) :: discardRegs .sto) ∧ s.keeps t [.regs, .sto, .log, .host, .out]) ∧
  (∀ (s : State) (c : Fin 4096) (cpda : BitVec 8) (hd dd : Bool) (mx : Word), s.connLive c.val = true →
    connState (s.conn c.val) = 2 → (nbit (byteAt (s.conn c.val) 1) 2 = true → hd = true) →
    (nbit (byteAt (s.conn c.val) 1) 3 = true → dd = true) → cpda.toNat ≤ 31 → 4096 ≤ mx.toNat →
    ∃ t, exec (.icrespRx c 0 cpda hd dd mx) s = .next t ∧ connState (t.conn c.val) = 3 ∧ leAt (t.conn c.val) 72 4 = mx.toNat ∧
      byteAt (t.conn c.val) 76 = cpda.toNat ∧ byteAt (t.conn c.val) 77 = hd.toNat + dd.toNat * 2 ∧
      (∀ d, d ≠ c.val → t.conn d = s.conn d) ∧ t.sto.ops = s.sto.ops ∧ bitOn (t.reg .sto 0x10) 0 = true ∧
      s.keepsRegs t (eventRegs .sto) ∧ s.keeps t [.regs, .sto, .log, .host, .out]) ∧
  (∀ (s : State) (c : Fin 4096) (pfv cpda : BitVec 8) (dd : Bool) (mx : Word), s.connLive c.val = true →
    connState (s.conn c.val) = 2 → nbit (byteAt (s.conn c.val) 1) 2 = true →
    ∃ t, exec (.icrespRx c pfv cpda false dd mx) s = .next t ∧ s.connFailed t c.val 3) ∧
  (∀ (s : State) (c : Fin 4096) (pfv cpda : BitVec 8) (mx : Word), s.connLive c.val = true → connState (s.conn c.val) = 2 →
    pfv ≠ 0 ∨ 31 < cpda.toNat ∨ mx.toNat < 4096 →
    ∃ t, exec (.icrespRx c pfv cpda true true mx) s = .next t ∧ s.connFailed t c.val 4) ∧
  (∀ (s : State) (c : Fin 4096), s.connLive c.val = true → connState (s.conn c.val) = 4 → s.openOps c.val = [] →
    ∃ t, exec (.closeWaitEnd c) s = .next t ∧ connState (t.conn c.val) = 1 ∧ t.out = .pdu c.val 5 0 [] :: s.out ∧
      c.val ∈ t.sto.finWait ∧ (∀ d, d ≠ c.val → t.conn d = s.conn d) ∧ s.keeps t [.sto, .ham, .out]) ∧
  (∀ (s : State) (c : Fin 4096), s.connLive c.val = true → connState (s.conn c.val) = 4 → s.openOps c.val ≠ [] →
    ∃ t, exec (.closeWaitEnd c) s = .next t ∧ connState (t.conn c.val) = 1 ∧ t.out = .pdu c.val 6 0 [] :: s.out ∧
      (∀ o ∈ t.sto.ops, o.conn ≠ c.val) ∧ (∀ d, d ≠ c.val → t.conn d = s.conn d) ∧ s.keepsRegs t [(.sto, 0x100)] ∧
      s.keeps t [.regs, .queues, .sto, .ham, .host, .out]) ∧
  (∀ (s : State) (c : Fin 4096), s.runs .sto = true → c.val ∈ s.sto.finWait →
    ∃ t, exec (.finAckTimeout c) s = .next t ∧ t.out = .pdu c.val 6 0 [] :: s.out ∧ c.val ∉ t.sto.finWait ∧
      t.sto.ctx = s.sto.ctx ∧ t.sto.ops = s.sto.ops ∧ s.keeps t [.sto, .out])

/-- STO_OPEN_TIMEOUT, TCP_RETRANSMIT_TIMEOUT, TCP_SEGMENT_RX, RST_RX, FIN_RX, C2HTERMREQ_RX and STO_CMD_TIMEOUT. An open that
takes too long fails as TCP_TIMEOUT, a reset as TCP_REFUSED or PEER_RESET, a FIN as PEER_CLOSED, a C2HTermReq as TARGET_TERM
with its status, an expired operation as reason 10. A segment is sent again until its retransmissions are used up, which
fails the connection. A segment in order moves the stream on and is acknowledged; one ahead of it waits in cells; one with a
wrong digest or PDU fails the connection. -/
def Obligations.ConnectionsFailAndSegmentsArrive : Prop :=
  (∀ (s : State) (c : Fin 4096), s.connLive c.val = true → connState (s.conn c.val) = 2 →
    ∃ t, exec (.stoOpenTimeout c) s = .next t ∧ s.connFailed t c.val 2) ∧
  (∀ (s : State) (c : Fin 4096), s.connLive c.val = true → Sparse.get 0 s.sto.retry c.val < byteAt (s.conn c.val) 70 →
    ∃ t, exec (.tcpRetransmitTimeout c) s = .next t ∧ t.out = .pdu c.val 8 0 [] :: s.out ∧
      Sparse.get 0 t.sto.retry c.val = Sparse.get 0 s.sto.retry c.val + 1 ∧
      leAt (t.conn c.val) 84 4 = (leAt (s.conn c.val) 84 4 + 1) % 2 ^ 32 ∧ connState (t.conn c.val) = connState (s.conn c.val) ∧
      (∀ d, d ≠ c.val → t.conn d = s.conn d) ∧ t.sto.ops = s.sto.ops ∧ s.keeps t [.sto, .out]) ∧
  (∀ (s : State) (c : Fin 4096), s.connLive c.val = true → byteAt (s.conn c.val) 70 ≤ Sparse.get 0 s.sto.retry c.val →
    ∃ t, exec (.tcpRetransmitTimeout c) s = .next t ∧ s.connFailed t c.val 2) ∧
  (∀ (s : State) (c : Fin 4096) (seq len : Nat), s.connLive c.val = true → seq ≤ Sparse.get 0 s.sto.expect c.val →
    (∀ x ∈ s.sto.oos, x.1 ≠ c.val) →
    ∃ t, exec (.tcpSegmentRx c seq len true true) s = .next t ∧
      Sparse.get 0 t.sto.expect c.val = max (Sparse.get 0 s.sto.expect c.val) (seq + len) ∧ t.out = .pdu c.val 7 0 [] :: s.out ∧
      Sparse.get 0 t.sto.retry c.val = 0 ∧ t.sto.oos = s.sto.oos ∧ t.sto.ctx = s.sto.ctx ∧ t.sto.ops = s.sto.ops ∧
      s.keeps t [.sto, .ham, .out]) ∧
  (∀ (s : State) (c : Fin 4096) (seq len : Nat) (pduOk hdrOk : Bool), s.connLive c.val = true →
    Sparse.get 0 s.sto.expect c.val < seq → seq + len ≤ Sparse.get 0 s.sto.expect c.val + 262144 →
    s.admits 10 (cellsOf len) = true →
    ∃ t, exec (.tcpSegmentRx c seq len pduOk hdrOk) s = .next t ∧ t.sto = { s.sto with oos := s.sto.oos ++ [(c.val, seq, len)] } ∧
      t.heldBy 10 = s.heldBy 10 + cellsOf len ∧ t.out = .pdu c.val 7 0 [] :: s.out ∧ s.keeps t [.sto, .ham, .out]) ∧
  (∀ (s : State) (c : Fin 4096) (seq len : Nat) (pduOk hdrOk : Bool), s.connLive c.val = true →
    Sparse.get 0 s.sto.expect c.val < seq → Sparse.get 0 s.sto.expect c.val + 262144 < seq + len →
    ∃ t, exec (.tcpSegmentRx c seq len pduOk hdrOk) s = .next t ∧ t.out = .pdu c.val 7 0 [] :: s.out ∧ s.keeps t [.out]) ∧
  (∀ (s : State) (c : Fin 4096) (seq len : Nat) (pduOk hdrOk : Bool), s.connLive c.val = true →
    Sparse.get 0 s.sto.expect c.val < seq → seq + len ≤ Sparse.get 0 s.sto.expect c.val + 262144 →
    s.admits 10 (cellsOf len) = false →
    ∃ t, exec (.tcpSegmentRx c seq len pduOk hdrOk) s = .next t ∧ t.reg .ham 0x78 = s.reg .ham 0x78 + 1 ∧
      bitOn (t.reg .ham 0x10) 4 = true ∧ s.keepsRegs t ((.ham, 0x78) :: eventRegs .ham) ∧ s.keeps t [.regs, .log, .host, .out]) ∧
  (∀ (s : State) (c : Fin 4096) (seq len : Nat) (pduOk : Bool), s.connLive c.val = true → seq ≤ Sparse.get 0 s.sto.expect c.val →
    ∃ t, exec (.tcpSegmentRx c seq len pduOk false) s = .next t ∧ s.connFailed t c.val 5) ∧
  (∀ (s : State) (c : Fin 4096) (seq len : Nat), s.connLive c.val = true → seq ≤ Sparse.get 0 s.sto.expect c.val →
    ∃ t, exec (.tcpSegmentRx c seq len false true) s = .next t ∧ s.connFailed t c.val 6) ∧
  (∀ (s : State) (c : Fin 4096), s.connLive c.val = true →
    ∃ t, exec (.rstRx c) s = .next t ∧ s.connFailed t c.val (if connState (s.conn c.val) = 2 then 1 else 8)) ∧
  (∀ (s : State) (c : Fin 4096), s.connLive c.val = true → ∃ t, exec (.finRx c) s = .next t ∧ s.connFailed t c.val 9) ∧
  (∀ (s : State) (c : Fin 4096) (fes : BitVec 8), s.connLive c.val = true →
    ∃ t, exec (.c2htermreqRx c fes) s = .next t ∧ s.connFailed t c.val 7 ∧ byteAt (t.conn c.val) 79 = fes.toNat) ∧
  (∀ (s : State) (c : Fin 4096) (cid : Nat), s.connLive c.val = true → (s.stoOp c.val cid).isSome = true →
    leAt (s.conn c.val) 66 2 ≠ 0 →
    ∃ t, exec (.stoCmdTimeout c cid) s = .next t ∧ s.connFailed t c.val 10) ∧
  (∀ (s : State) (c : Fin 4096) (cid : Nat), leAt (s.conn c.val) 66 2 = 0 → exec (.stoCmdTimeout c cid) s = .next s)

/-- STO_OP_START, C2HDATA_RX, CAPSULERESP_RX and PDU_R2T_RX. The next operation that passes its checks asks for the cells of its
reads; once they have ended it opens under a command identifier no other operation of its connection has, and its capsule
leaves; one that fails a check finishes with its status and code. Read data go to the host buffers at their offset; the last
ends the operation OK; a wrong data digest spoils it and is counted. A response places its CQE and ends the operation. An
R2T adds its data to the work of its operation, which is read in bursts of at most 16,384 bytes; each is sent as H2CData of
at most MAXH2CDATA bytes. Data for no open operation, or beyond the length, fail the connection. -/
def Obligations.StorageOperations : Prop :=
  (∀ (s : State) (f : Fin 1024) (q : Fin 256) (sqe : List Byte) (w : WqSt) (i e : Item) (r : List Item),
    s.wq f.val q.val = some w → w.kind = 3 → s.funcRuns f.val = true → s.admitsWork .sto = true →
    w.nextRun (s.stoReady f.val) = some (i :: r) → lastOf (i :: r) = some e → s.stoFault f.val (i :: r) = none →
    s.grantOf f.val q.val e.idx = none →
    exec (.stoOpStart f q sqe) s = .next ((s.setWq f.val q.val (some (w.asked (i :: r) 1))).requestBurst f.val q.val e.idx 3
      ((i.addr, 64) :: (if i.dir = 2 ∧ 0 < lenOf r ∧ lenOf r ≤ leAt (s.conn i.conn) 64 2 then r.map (fun j => (j.addr, j.len)) else [])) none)) ∧
  (∀ (s : State) (f : Fin 1024) (q : Fin 256) (sqe : List Byte) (w : WqSt) (i e : Item) (r : List Item) (b : Burst),
    s.wq f.val q.val = some w → w.kind = 3 → s.funcReports f.val = true → s.runs .sto = true →
    w.nextRun (s.stoReady f.val) = some (i :: r) → lastOf (i :: r) = some e → s.stoFault f.val (i :: r) = none →
    s.grantOf f.val q.val e.idx = some b → s.burstRead b = true → sqe.length = 64 → (s.openOps i.conn).length ≤ 1024 →
    ∃ t o, exec (.stoOpStart f q sqe) s = .next t ∧ t.sto.ops = s.sto.ops ++ [o] ∧ o.conn = i.conn ∧ o.f = f.val ∧
      o.q = q.val ∧ o.last = e.idx ∧ o.dir = i.dir ∧ o.total = lenOf r ∧ o.cid = leAt sqe 2 2 ∧ o.bytes = 0 ∧ o.work = [] ∧
      (∀ x ∈ s.openOps i.conn, x.id ≠ o.id) ∧ t.out = .pdu i.conn 2 (if s.inCapsule i (lenOf r) then lenOf r else 0)
        (sentSqe sqe o.id (lenOf r) (s.inCapsule i (lenOf r))) :: s.out ∧ (∀ a ∈ t.ham.granted, a.id ≠ b.id) ∧
      leAt (t.conn i.conn) 80 2 = (s.openOps i.conn).length + 1 ∧ t.wq f.val q.val = some (w.start (i :: r)) ∧
      s.keeps t [.queues, .sto, .ham, .host, .out]) ∧
  (∀ (s : State) (f : Fin 1024) (q : Fin 256) (sqe : List Byte) (w : WqSt) (i e : Item) (r : List Item) (b : Burst),
    s.wq f.val q.val = some w → w.kind = 3 → w.nextRun (s.stoReady f.val) = some (i :: r) → lastOf (i :: r) = some e →
    s.stoFault f.val (i :: r) = none → s.grantOf f.val q.val e.idx = some b → s.burstRead b = false →
    exec (.stoOpStart f q sqe) s = .next s) ∧
  (∀ (s : State) (f : Fin 1024) (q : Fin 256) (sqe : List Byte) (w : WqSt) (i e : Item) (r : List Item) (st res : Nat),
    s.wq f.val q.val = some w → w.kind = 3 → s.funcReports f.val = true → s.runs .sto = true →
    w.nextRun (s.stoReady f.val) = some (i :: r) → lastOf (i :: r) = some e → s.stoFault f.val (i :: r) = some (st, res) →
    ((s.funcRuns f.val = true ∧ s.admitsWork .sto = true) ∨ e.part ≠ 0) →
    ∃ t, exec (.stoOpStart f q sqe) s = .next t ∧ t.wq f.val q.val = some (w.finishFrame e.idx st res) ∧
      t.reg .sto 0x100 = s.reg .sto 0x100 + 1 ∧ t.grantOf f.val q.val e.idx = none ∧
      s.keepsRegs t [(.sto, 0x100)] ∧ s.keeps t [.regs, .queues, .ham, .host]) ∧
  (∀ (s : State) (c : Fin 4096) (cid off : Nat) (data : List Byte) (digestOk lastOk : Bool) (o : StoOp),
    s.connLive c.val = true → s.stoOp c.val cid = some o → o.dir = 1 → off + data.length ≤ o.total → s.stoServes o.f = true →
    o.digest = false →
    ∃ t, exec (.c2hdataRx c cid off data false digestOk lastOk) s = .next t ∧ t.out = (s.place o.f off data o.bufs).out ∧
      t.stoOp c.val cid = some { o with bytes := o.bytes + data.length } ∧ t.sto.ctx = s.sto.ctx ∧
      s.keeps t [.sto, .host, .out]) ∧
  (∀ (s : State) (c : Fin 4096) (cid off : Nat) (data : List Byte) (o : StoOp) (w : WqSt),
    s.connLive c.val = true → s.stoOp c.val cid = some o → o.dir = 1 → off + data.length ≤ o.total → s.stoServes o.f = true →
    o.digest = false → s.wq o.f o.q = some w →
    ∃ t, exec (.c2hdataRx c cid off data true true true) s = .next t ∧
      t.wq o.f o.q = some (w.finishFrame o.last 0 o.total) ∧ t.stoOp c.val cid = none ∧
      t.reg .sto 0x100 = s.reg .sto 0x100 + 1 ∧ s.keepsRegs t [(.sto, 0x100)] ∧ s.keeps t [.regs, .queues, .sto, .ham, .host, .out]) ∧
  (∀ (s : State) (c : Fin 4096) (cid off : Nat) (data : List Byte) (o : StoOp),
    s.connLive c.val = true → s.stoOp c.val cid = some o → o.dir = 1 → off + data.length ≤ o.total → s.stoServes o.f = true →
    o.digest = false → nbit (byteAt (s.conn c.val) 77) 1 = true →
    ∃ t, exec (.c2hdataRx c cid off data true false false) s = .next t ∧
      t.stoOp c.val cid = some { o with bytes := o.bytes + data.length, digest := true } ∧
      leAt (t.conn c.val) 88 4 = (leAt (s.conn c.val) 88 4 + 1) % 2 ^ 32 ∧ t.reg .sto 0x104 = s.reg .sto 0x104 + 1 ∧
      bitOn (t.reg .sto 0x10) 2 = true ∧ s.keepsRegs t ((.sto, 0x104) :: eventRegs .sto) ∧
      s.keeps t [.regs, .sto, .log, .host, .out]) ∧
  (∀ (s : State) (c : Fin 4096) (cid off : Nat) (data : List Byte) (pduEnd digestOk lastOk : Bool), s.connLive c.val = true →
    s.stoOp c.val cid = none →
    ∃ t, exec (.c2hdataRx c cid off data pduEnd digestOk lastOk) s = .next t ∧ s.connFailed t c.val 6 ∧
      byteAt (t.conn c.val) 79 = 2) ∧
  (∀ (s : State) (c : Fin 4096) (cid off : Nat) (data : List Byte) (pduEnd digestOk lastOk : Bool) (o : StoOp),
    s.connLive c.val = true → s.stoOp c.val cid = some o → o.dir = 1 → o.total < off + data.length →
    ∃ t, exec (.c2hdataRx c cid off data pduEnd digestOk lastOk) s = .next t ∧ s.connFailed t c.val 6 ∧
      byteAt (t.conn c.val) 79 = 4) ∧
  (∀ (s : State) (c : Fin 4096) (cid : Nat) (cqe : List Byte) (o : StoOp) (w : WqSt), s.connLive c.val = true →
    s.stoOp c.val cid = some o → s.stoServes o.f = true → o.digest = false → s.wq o.f o.q = some w →
    ∃ t, exec (.capsulerespRx c cid cqe) s = .next t ∧ t.wq o.f o.q = some (w.finishFrame o.last 0 o.total) ∧
      t.out = (s.dmaWrite o.f o.resp (splice (slice cqe 0 16) 12 (leBytes 2 o.cid))).out ∧ t.stoOp c.val cid = none ∧
      t.reg .sto 0x100 = s.reg .sto 0x100 + 1 ∧ s.keepsRegs t [(.sto, 0x100)] ∧ s.keeps t [.regs, .queues, .sto, .ham, .host, .out]) ∧
  (∀ (s : State) (c : Fin 4096) (cid : Nat) (cqe : List Byte), s.connLive c.val = true → s.stoOp c.val cid = none →
    ∃ t, exec (.capsulerespRx c cid cqe) s = .next t ∧ s.connFailed t c.val 6) ∧
  (∀ (s : State) (c : Fin 4096) (cid off len : Nat) (o : StoOp), s.connLive c.val = true → s.stoOp c.val cid = some o →
    o.dir = 2 → off + len ≤ o.total → s.funcRuns o.f = true → 0 < len →
    ∃ t, exec (.pduR2tRx c cid off len) s = .next t ∧ t.stoOp c.val cid = some { o with work := o.work ++ [(off, len)] } ∧
      t.sto.ctx = s.sto.ctx ∧ s.keeps t [.sto, .ham, .nextId, .host, .out]) ∧
  (∀ (s : State) (c : Fin 4096) (cid off len : Nat) (o : StoOp), s.connLive c.val = true → s.stoOp c.val cid = some o →
    o.dir = 2 → off + len ≤ o.total → s.funcRuns o.f = true → 0 < len → o.work = [] →
    exec (.pduR2tRx c cid off len) s = .next ((s.setOp { o with work := [(off, len)] }).requestBurst o.f o.q o.last 3
      (bufSlice off (min len 16384) o.bufs) (some (c.val, o.id)))) ∧
  (∀ (s : State) (id c oid off n : Nat) (l : List (Nat × Nat)) (r : HostRead) (b : Burst) (o : StoOp), s.runs .host = true →
    s.readOf id = some r → r.want = [] → r.out = 1 → r.use = .burst b.id →
    s.ham.granted.find? (fun (a : Burst) => a.id = b.id) = some b → b.op = some (c, oid) → s.stoOp c oid = some o →
    o.work = (off, n) :: l → 0 < leAt (s.conn c) 72 4 →
    ∃ (t : State) (p : List Nat), exec (.readCompletion id false) s = .next t ∧ p.sum = min n 16384 ∧
      (∀ k ∈ p, 0 < k ∧ k ≤ leAt (s.conn c) 72 4) ∧ ((p.map (fun k => Out.pdu c 3 k [])).reverse ++ s.out) <:+ t.out ∧
      t.stoOp c oid = some { o with work := if n ≤ 16384 then l else (off + 16384, n - 16384) :: l }) ∧
  (∀ (s : State) (c : Fin 4096) (cid off len : Nat) (o : StoOp), s.connLive c.val = true → s.stoOp c.val cid = some o →
    o.dir = 2 → o.total < off + len →
    ∃ t, exec (.pduR2tRx c cid off len) s = .next t ∧ s.connFailed t c.val 6 ∧ byteAt (t.conn c.val) 79 = 4)

/-- FRAME_DISPATCH, WINDOW_ROOM, HOLD_LIMIT, SLEEP_EXPIRY, TABLE_ANSWER and ENGINE_ACCEPT. A frame dispatched to a class the
base image does not serve (log entry 87) takes its order-gate place at the end of its class and is mapped at once for the
thread that has waited longest, if any; a full class, a cluster that takes none and a spoofed source drop it, each counted.
A frame that waited for room is mapped for the first thread parked so. A thread that holds frames too long faults. A
sleeping thread wakes. A table answer wakes its thread with the status. An accepted frame leaves its slot and its thread
runs on; the frame is encapsulated or enciphered, or waits in its engine. -/
def Obligations.FramesReachThreads : Prop :=
  (∀ (s : State) (id c k : Nat) (x : Frame), s.frame id = some x → x.loc = .dispatch c k → x.gate = none → s.dispatchWaits x = false → s.tbl.bad = [] →
    s.clusterTakes c = true → s.admitsWork (nycIsland c) = true → x.bad = false → s.spoofed x = false →
    s.queued c k < classRoom k → x.part = .chan (11 + c) → x.cells ≠ 0 → s.baseServes c k = false →
    s.takerFor c k = none →
    ∃ t, exec (.frameDispatch id) s = .next t ∧
      t.frames = s.frames.filter (fun z => z.id ≠ id) ++ [{ x with gate := some x.gateKey, dclass := k }] ∧
      s.keeps t [.frames]) ∧
  (∀ (s : State) (id c k u : Nat) (x : Frame), s.frame id = some x → x.loc = .dispatch c k → x.gate = none → s.dispatchWaits x = false → s.tbl.bad = [] →
    s.clusterTakes c = true → s.admitsWork (nycIsland c) = true → x.bad = false → s.spoofed x = false →
    s.queued c k < classRoom k → x.part = .chan (11 + c) → x.cells ≠ 0 → s.baseServes c k = false →
    s.takerFor c k = some u → s.windowRoom c x = true →
    ∃ t, exec (.frameDispatch id) s = .next t ∧
      t.frame id = some { x with gate := some x.gateKey, dclass := k, loc := .held c u (s.thread c u).slot, room := 0 } ∧
      t.thread c u = { s.thread c u with regs := setAt 0 (s.thread c u).regs (s.thread c u).rd (BitVec.ofNat 18 x.nonets.length), pc := (s.thread c u).pc + 1, st := .runnable, park := 0, slots := setAt none (s.thread c u).slots (s.thread c u).slot (some id) } ∧
      u ∉ (t.cluster c).takers ∧ (∀ c' k', 128 * c' + k' ≠ 128 * c + u → t.thread c' k' = s.thread c' k') ∧
      s.keeps t [.frames, .nyate]) ∧
  (∀ (s : State) (id c k : Nat) (x : Frame), s.frame id = some x → x.loc = .dispatch c k → x.gate = none → s.dispatchWaits x = false → s.tbl.bad = [] →
    s.clusterTakes c = true → s.admitsWork (nycIsland c) = true → x.bad = false → x.func = false → s.spoofed x = false →
    classRoom k ≤ s.queued c k →
    ∃ t, exec (.frameDispatch id) s = .next t ∧ t.frame id = none ∧ t.reg (nycPage c) 0xC4 = s.reg (nycPage c) 0xC4 + 1 ∧
      bitOn (t.reg (nycPage c) 0x10) 3 = true ∧ s.keepsRegs t ((nycPage c, 0xC4) :: eventRegs (nycPage c)) ∧
      s.keeps t [.regs, .ham, .frames, .log, .host, .out]) ∧
  (∀ (s : State) (id c k : Nat) (x : Frame), s.frame id = some x → x.loc = .dispatch c k → x.gate = none → s.dispatchWaits x = false → s.tbl.bad = [] →
    s.clusterTakes c = true → s.admitsWork (nycIsland c) = true → x.bad = false → s.spoofed x = true →
    ∃ t, exec (.frameDispatch id) s = .next t ∧ t.frame id = none ∧ t.reg .swt 0x9C = s.reg .swt 0x9C + 1 ∧
      s.keepsRegs t [(.swt, 0x9C)] ∧ s.keeps t [.regs, .ham, .frames, .queues]) ∧
  (∀ (s : State) (id c k : Nat) (x : Frame), s.frame id = some x → x.loc = .dispatch c k → x.gate = none → x.func = false →
    s.dispatchWaits x = false → s.clusterTakes c = false →
    ∃ t, exec (.frameDispatch id) s = .next t ∧ t.frame id = none ∧
      t.reg (portPage x.src) 0x148 = s.reg (portPage x.src) 0x148 + 1 ∧ s.keepsRegs t [(portPage x.src, 0x148)] ∧
      s.keeps t [.regs, .ham, .frames]) ∧
  (∀ (s : State) (id c k : Nat) (x : Frame), s.frame id = some x → x.loc = .dispatch c k → x.gate = none →
    s.dispatchWaits x = true → exec (.frameDispatch id) s = .next s) ∧
  (∀ (s : State) (id c k g : Nat) (x : Frame), s.frame id = some x → x.loc = .dispatch c k → x.gate = some g →
    s.baseServes c k = true → s.admitsWork (nycIsland c) = true → x.bad = false →
    exec (.frameDispatch id) s = .next (s.baseForward x.untagHsr c)) ∧
  (∀ (s : State) (c : Fin 8) (k : Fin 128) (x : Frame), (s.thread c.val k.val).st = .parked → (s.thread c.val k.val).park = 3 →
    (s.cluster c.val).takers.find? (fun u => decide ((s.thread c.val u).park = 3)) = some k.val → (s.cluster c.val).halt = 0 →
    s.frames.find? (fun x => decide (x.loc = .taking c.val k.val (s.thread c.val k.val).slot)) = some x →
    s.windowRoom c.val x = true →
    ∃ t, exec (.windowRoom c k) s = .next t ∧
      t.frame x.id = some { x with loc := .held c.val k.val (s.thread c.val k.val).slot, room := 0 } ∧
      (t.thread c.val k.val).r (s.thread c.val k.val).rd = BitVec.ofNat 18 x.nonets.length ∧
      (t.thread c.val k.val).st = .runnable ∧ (t.thread c.val k.val).pc = (s.thread c.val k.val).pc + 1 ∧
      (t.thread c.val k.val).slots = setAt none (s.thread c.val k.val).slots (s.thread c.val k.val).slot (some x.id) ∧
      k.val ∉ (t.cluster c.val).takers ∧ s.onlyThread t c k ∧ s.keeps t [.frames, .nyate]) ∧
  (∀ (s : State) (c : Fin 8) (k : Fin 128) (us : Nat), s.field (.nyc c) 0x4C 15 0 < us → us < 262144 →
    (s.thread c.val k.val).slots.any (·.isSome) = true → (s.thread c.val k.val).st ≠ .halted →
    (s.thread c.val k.val).st ≠ .idle → s.runs (.nyc c) = true → s.faultsAlone c k →
    ∃ t, exec (.holdLimit c k us) s = .next t ∧ s.faulted t c k 8 us) ∧
  (∀ (s : State) (c : Fin 8) (k : Fin 128) (us : Nat), us ≤ s.field (.nyc c) 0x4C 15 0 →
    exec (.holdLimit c k us) s = .next s) ∧
  (∀ (s : State) (c : Fin 8) (k : Fin 128), (s.thread c.val k.val).st = .parked → (s.thread c.val k.val).park = 5 →
    ∃ t, exec (.sleepExpiry c k) s = .next t ∧ t.thread c.val k.val = { s.thread c.val k.val with st := .runnable, park := 0 } ∧
      s.onlyThread t c k ∧ { t.nyate with threads := s.nyate.threads } = s.nyate ∧ s.keeps t [.nyate]) ∧
  (∀ (s : State) (c : Fin 8) (r : TReq), s.nyate.treqs.find? (fun q => decide (q.c = c.val)) = some r →
    s.treqHeads.any (fun q => decide (q.table = r.table) &&
      decide (turn 8 (s.tbl.turns.getD r.table 7) q.c < turn 8 (s.tbl.turns.getD r.table 7) r.c)) = true →
    exec (.tableAnswer c) s = .next s) ∧
  (∀ (s : State) (c : Fin 8) (r : TReq), s.nyate.treqs.find? (fun q => decide (q.c = c.val)) = some r → s.runs .tbl = true →
    s.treqHeads.any (fun q => decide (q.table = r.table) &&
      decide (turn 8 (s.tbl.turns.getD r.table 7) q.c < turn 8 (s.tbl.turns.getD r.table 7) r.c)) = false →
    s.treqDenied r.bind (r.imm % 8) (r.imm / 16 % 4) (s.blockIndex c.val (r.t / 16) r.addr) (cleanEntry (r.imm / 16 % 4) (s.blockEntry c.val (r.t / 16) r.addr)) (nbit r.imm 8) = true → r.dead = true →
    exec (.tableAnswer c) s = .next { s with tbl := { s.tbl with turns := setAt 0 s.tbl.turns r.table r.c }, nyate := { s.nyate with treqs := s.nyate.treqs.erase r } }) ∧
  (∀ (s u : State) (c : Fin 8) (r : TReq), s.nyate.treqs.find? (fun q => decide (q.c = c.val)) = some r → s.runs .tbl = true →
    s.treqHeads.any (fun q => decide (q.table = r.table) &&
      decide (turn 8 (s.tbl.turns.getD r.table 7) q.c < turn 8 (s.tbl.turns.getD r.table 7) r.c)) = false →
    s.treqDenied r.bind (r.imm % 8) (r.imm / 16 % 4) (s.blockIndex c.val (r.t / 16) r.addr) (cleanEntry (r.imm / 16 % 4) (s.blockEntry c.val (r.t / 16) r.addr)) (nbit r.imm 8) = false →
    r.dead = false → s.tbl.bad = [] → u = { s with tbl := { s.tbl with turns := setAt 0 s.tbl.turns r.table r.c } } →
    ∃ (t : State) (a : State × Nat × Nat × Option (List Byte × Nat)), exec (.tableAnswer c) s = .next t ∧
      a = u.tblRun (r.imm % 8) (r.imm / 16 % 4) (s.blockIndex c.val (r.t / 16) r.addr) (cleanEntry (r.imm / 16 % 4) (s.blockEntry c.val (r.t / 16) r.addr)) (nbit r.imm 8) (nbit r.imm 9) (if nbit r.imm 10 then some (s.blockArg c.val (r.t / 16) r.addr % 1024) else none) (s.blockArg c.val (r.t / 16) r.addr % 8) (.nyate c) ∧
      t.thread c.val r.t = { s.thread c.val r.t with regs := setAt 0 (s.thread c.val r.t).regs (s.thread c.val r.t).rd (BitVec.ofNat 18 a.2.1), pc := (s.thread c.val r.t).pc + 1, st := .runnable, park := 0 } ∧
      t.nyate.treqs = s.nyate.treqs.erase r ∧ (r.imm % 8 ≠ 1 ∨ r.imm / 16 % 4 ≠ 1 → t.tbl = a.1.tbl) ∧ t.cry = a.1.cry ∧
      (∀ e j, a.2.2.2 = some (e, j) → j < 2 ^ 20 → t.blockIndex c.val (r.t / 16) r.addr = j) ∧
      (∀ e j i, a.2.2.2 = some (e, j) → a.2.1 = 0 → i < 64 → byteAt (t.blockEntry c.val (r.t / 16) r.addr) i = byteAt e i) ∧
      (a.2.2.2 = none → r.imm % 8 ≠ 5 → t.nyate.dmem = s.nyate.dmem) ∧ t.nyate.imem = s.nyate.imem ∧
      t.nyate.clusters = s.nyate.clusters ∧ (∀ c' k', 128 * c' + k' ≠ 128 * c.val + r.t → t.thread c' k' = s.thread c' k') ∧
      s.keeps t [.nyate, .tbl, .cry]) ∧
  (∀ (s : State) (id c k ops : Nat) (x : Frame), s.frame id = some x → x.loc = .engine c k ops false → k < 128 → s.engineRuns ops = true →
    ops = 4 ∨ ops = 8 ∨ ops = 12 → x.bad = false → x.cells ≠ 0 → x.part = .chan (if ops = 8 then 8 else 9) →
    ∃ t, exec (.engineAccept id) s = .next t ∧ t.frame id = some { x with loc := .engine c k ops true } ∧
      t.thread c k = { s.thread c k with pc := if (s.thread c k).st = .parked then (s.thread c k).pc + 1 else (s.thread c k).pc, st := if (s.thread c k).st = .parked then .runnable else (s.thread c k).st, park := 0, slots := setAt none (s.thread c k).slots (s.thread c k).slot none } ∧
      (∀ c' k', 128 * c' + k' ≠ 128 * c + k → t.thread c' k' = s.thread c' k') ∧ s.keeps t [.nyate, .frames]) ∧
  (∀ (s : State) (id c k : Nat) (x : Frame), s.frame id = some x → x.loc = .engine c k 2 false → k < 128 →
    s.engineRuns 2 = true →
    x.bad = false → x.cells ≠ 0 → x.part = .chan 9 → s.encapFault x = none →
    cellsOf (x.rebuilt (encapsulate (s.encRec x.tun) x.body)).nonets.length = x.cells →
    ∃ t y, exec (.engineAccept id) s = .next t ∧ t.frame id = some y ∧
      bytesOf y.nonets = encapsulate (s.encRec x.tun) x.body ∧ y.loc = .gated c ∧ y.dest = x.dest ∧ y.cells = x.cells ∧
      (t.thread c k).slots = setAt none (s.thread c k).slots (s.thread c k).slot none ∧ t.reg .tun 0x100 = s.reg .tun 0x100 + 1 ∧
      (∀ c' k', 128 * c' + k' ≠ 128 * c + k → t.thread c' k' = s.thread c' k') ∧ s.keepsRegs t [(.tun, 0x100)] ∧
      s.keeps t [.regs, .nyate, .frames]) ∧
  (∀ (s : State) (id c n : Nat) (x : Frame), s.frame id = some x → x.loc = .engine c 128 2 false → s.engineRuns 2 = true →
    x.bad = false → x.cells ≠ 0 → x.part = .chan 9 → s.encapFault x = none →
    n = cellsOf (x.rebuilt (encapsulate (s.encRec x.tun) x.body)).nonets.length →
    s.frames.any (fun z => decide (z.group = x.group) && decide (z.id ≠ x.id)) = false → x.cells < n → s.admits 9 (n - x.cells) = true →
    ∃ t y, exec (.engineAccept id) s = .next t ∧ t.frame id = some y ∧
      bytesOf y.nonets = encapsulate (s.encRec x.tun) x.body ∧ y.loc = .gated c ∧ y.dest = leAt (s.encRec x.tun) 56 4 ∧ y.cells = n ∧
      t.heldBy 9 = s.heldBy 9 + (n - x.cells) ∧ t.reg .tun 0x100 = s.reg .tun 0x100 + 1 ∧ s.keepsRegs t [(.tun, 0x100)] ∧
      s.keeps t [.regs, .frames, .ham]) ∧
  (∀ (s : State) (id c n : Nat) (x : Frame), s.frame id = some x → x.loc = .engine c 128 2 false → s.engineRuns 2 = true →
    x.bad = false → x.func = false → x.cells ≠ 0 → x.part = .chan 9 → s.encapFault x = none →
    n = cellsOf (x.rebuilt (encapsulate (s.encRec x.tun) x.body)).nonets.length →
    s.frames.any (fun z => decide (z.group = x.group) && decide (z.id ≠ x.id)) = false → x.cells < n → s.admits 9 (n - x.cells) = false →
    ∃ t, exec (.engineAccept id) s = .next t ∧ t.frame id = none ∧ t.reg .ham 0x78 = s.reg .ham 0x78 + 1 ∧
      bitOn (t.reg .ham 0x10) 4 = true ∧ s.keeps t [.regs, .frames, .ham, .log, .host, .out]) ∧
  (∀ (s : State) (id c k : Nat) (x : Frame), s.frame id = some x → x.loc = .engine c k 1 false → k < 128 →
    s.engineRuns 1 = true → x.bad = false → x.cells ≠ 0 → x.part = .chan 8 → (ipAt x.body = none ∨ x.fragment = true) →
    ∃ t, exec (.engineAccept id) s = .next t ∧ t.frame id = some { x with loc := .gated c } ∧
      (t.thread c k).slots = setAt none (s.thread c k).slots (s.thread c k).slot none ∧ s.keeps t [.nyate, .frames]) ∧
  (∀ (s : State) (id c k : Nat) (x : Frame), s.frame id = some x → x.loc = .engine c k 1 false → k < 128 →
    s.engineRuns 1 = true → (ipAt x.body).isSome = true → x.fragment = false →
    cellsOf (x.rebuilt (s.espOut x.sa (nextPn (s.entry 3 x.sa)) x.body)).nonets.length = x.cells →
    x.bad = false → x.cells ≠ 0 → x.part = .chan 8 → s.espOutFault x = none →
    ∃ t y, exec (.engineAccept id) s = .next t ∧ t.frame id = some y ∧
      bytesOf y.nonets = s.espOut x.sa (nextPn (s.entry 3 x.sa)) x.body ∧ y.loc = .gated c ∧ y.dest = x.dest ∧
      (nextPn (s.entry 3 x.sa) < pnMax (s.entry 3 x.sa) →
        nextPn (t.entry 3 x.sa) = nextPn (s.entry 3 x.sa) + 1) ∧
      (t.thread c k).slots = setAt none (s.thread c k).slots (s.thread c k).slot none ∧
      s.keepsRegs t ((.cry, 0x74) :: eventRegs .cry) ∧
      s.keeps t [.regs, .nyate, .frames, .tbl, .cry, .log, .host, .out]) ∧
  (∀ (s : State) (id c k ops : Nat) (x : Frame), s.frame id = some x → x.loc = .engine c k ops false →
    s.engineRuns ops = false → exec (.engineAccept id) s = .next s) ∧
  (∀ (s : State) (id c : Nat) (x : Frame), s.frame id = some x → x.loc = .engine c 128 4 false → s.engineRuns 4 = true →
    x.bad = false → x.cells ≠ 0 → x.part = .chan 9 →
    ∃ t, exec (.engineAccept id) s = .next t ∧ t.frame id = some { x with loc := .engine c 128 4 true } ∧ s.keeps t [.frames])

/-- FRAME_DISPATCH where the base image serves the class: the forwarding decision. A frame whose class the base image serves
(the model's choice of when it does, log entry 87) goes, in the order of R229: to TUN for a tunnel hit; by the flow entry it
hits, whose count grows, with its VLAN actions, and to TUN where it encapsulates (ENGINE_ACCEPT gives it its record's
OUT_DEST); to the DEST of the MAC entry it hits; to the flood where its destination is a group or an unknown unicast that is
not dropped; else it is dropped and counted, or from a function goes to SWT_TX_DEF. A PTP message of an enabled port goes to
the management controller. -/
def Obligations.BaseImageForwards : Prop :=
  (∀ (s : State) (id c k i : Nat) (x y : Frame), s.baseGets id c k x y → s.ptpFrame y = false →
    s.tunnelHit y.body = some i →
    ∃ t, exec (.frameDispatch id) s = .next t ∧
      t.frame id = some { y with loc := .engine c 128 4 false, dest := leAt (s.entry 2 i) 24 4 } ∧ s.keeps t [.frames]) ∧
  (∀ (s : State) (id c k i : Nat) (x y : Frame), s.baseGets id c k x y → s.ptpFrame y = false →
    s.tunnelHit y.body = none → s.flowHit y = some i → leAt (s.entry 1 i) 48 2 % 16 = 0 → (y.func = true → y.txf / 8 % 4 = 0) →
    ∃ t, exec (.frameDispatch id) s = .next t ∧
      t.frame id = some { y with loc := .gated c, dest := leAt (s.entry 1 i) 44 4 } ∧
      leAt (t.entry 1 i) 60 4 = (leAt (s.entry 1 i) 60 4 + 1) % 2 ^ 32 ∧ nbit (flagsOf 1 (t.entry 1 i)) 3 = true ∧
      (∀ j, j ≠ i → t.entry 1 j = s.entry 1 j) ∧ s.keeps t [.frames, .tbl]) ∧
  (∀ (s : State) (id c k i : Nat) (x y : Frame), s.baseGets id c k x y → s.ptpFrame y = false →
    s.tunnelHit y.body = none → s.flowHit y = some i → leAt (s.entry 1 i) 48 2 % 16 = 12 → (y.func = true → y.txf / 8 % 4 = 0) →
    ∃ t z, exec (.frameDispatch id) s = .next t ∧ t.frame id = some z ∧ z.loc = .gated c ∧
      z.dest = leAt (s.entry 1 i) 44 4 ∧ z.cells = y.cells ∧
      z.body = setVid (noTag y.body) (leAt (s.entry 1 i) 58 2 % 4096) ∧ s.keeps t [.frames, .tbl]) ∧
  (∀ (s : State) (id c k i : Nat) (x y : Frame), s.baseGets id c k x y → s.ptpFrame y = false →
    s.tunnelHit y.body = none → s.flowHit y = some i → leAt (s.entry 1 i) 48 2 % 16 = 1 → (y.func = true → y.txf / 8 % 4 = 0) →
    ∃ t, exec (.frameDispatch id) s = .next t ∧
      t.frame id = some { y with loc := .engine c 128 2 false, tun := leAt (s.entry 1 i) 50 2, dest := leAt (s.entry 1 i) 44 4 } ∧
      s.keeps t [.frames, .tbl]) ∧
  (∀ (s : State) (id c k i : Nat) (x y : Frame), s.baseGets id c k x y → s.ptpFrame y = false →
    s.tunnelHit y.body = none → s.flowHit y = none → s.macHit y = some i → (y.func = true → y.txf / 8 % 4 = 0) →
    ∃ t, exec (.frameDispatch id) s = .next t ∧
      t.frame id = some { y with loc := .gated c, dest := leAt (s.entry 0 i) 8 4 } ∧
      nbit (flagsOf 0 (t.entry 0 i)) 3 = true ∧ (∀ j, j ≠ i → t.entry 0 j = s.entry 0 j) ∧ s.keeps t [.frames, .tbl]) ∧
  (∀ (s : State) (id c k : Nat) (x y : Frame), s.baseGets id c k x y → s.ptpFrame y = false →
    s.tunnelHit y.body = none → s.flowHit y = none → s.macHit y = none → (y.func = true → y.txf / 8 % 4 = 0) →
    isGroup (dstAddr y.body) = true ∨ (y.func = false ∧ bitOn (s.reg .swt (0x60 + 4 * y.src)) 2 = false) →
    ∃ t, exec (.frameDispatch id) s = .next t ∧ t.frame id = some { y with loc := .gated c, dest := 3 * 2 ^ 29 } ∧
      s.keeps t [.frames]) ∧
  (∀ (s : State) (id c k : Nat) (x y : Frame), s.baseGets id c k x y → s.ptpFrame y = false →
    s.tunnelHit y.body = none → s.flowHit y = none → s.macHit y = none → isGroup (dstAddr y.body) = false →
    y.func = false → bitOn (s.reg .swt (0x60 + 4 * y.src)) 2 = true →
    ∃ t, exec (.frameDispatch id) s = .next t ∧ t.frame id = none ∧ t.reg .swt 0x94 = s.reg .swt 0x94 + 1 ∧
      s.keepsRegs t [(.swt, 0x94)] ∧ s.keeps t [.regs, .ham, .frames]) ∧
  (∀ (s : State) (id c k : Nat) (x y : Frame), s.baseGets id c k x y →
    s.tunnelHit y.body = none → s.flowHit y = none → s.macHit y = none → isGroup (dstAddr y.body) = false →
    y.func = true → y.txf / 8 % 4 = 0 →
    ∃ t, exec (.frameDispatch id) s = .next t ∧
      t.frame id = some { y with loc := .gated c, dest := (s.reg .swt 0x48).toNat } ∧ s.keeps t [.frames]) ∧
  (∀ (s : State) (id c k i : Nat) (x y : Frame), s.baseGets id c k x y →
    s.tunnelHit y.body = none → s.flowHit y = none → s.macHit y = some i → y.func = true → y.txf / 8 % 4 = 1 →
    ∃ t, exec (.frameDispatch id) s = .next t ∧
      t.frame id = some { y with loc := .engine c 128 2 false, dest := leAt (s.entry 0 i) 8 4 } ∧
      s.keeps t [.frames, .tbl]) ∧
  (∀ (s : State) (id c k : Nat) (x y : Frame), s.baseGets id c k x y → s.ptpFrame y = true →
    ∃ t, exec (.frameDispatch id) s = .next t ∧ t.frame id = some { y with loc := .gated c, dest := 4 * 2 ^ 29 } ∧
      s.keeps t [.frames])

/-- NYC_LOAD_START, LOAD_DONE, START, STOP, RESTART, FLT_POP, RESUME and NYC_HP_WRITE. A load starts with a read of the image's
header, then reads the rest, and is in progress until it ends; a good image's instructions and data words stand in the
core's memories and the load is counted, another is refused with the status of what is wrong and changes no memory. START
begins an idle thread at its ENTRY with cleared registers, STOP ends what it does and frees its frames, RESTART by the
supervisor does both. FLT_POP removes the oldest fault record, RESUME ends a halt by a full queue, an overseer sets a core's
high-priority thread. -/
def Obligations.ThreadAndClusterCommands : Prop :=
  (∀ (s : State) (c : Fin 8) (m : Master) (v : Word) (rivals : List Req), s.grants (.nyc c) 0x78 m (v ||| bit 31) rivals →
    m.overseer = true → c.val ∉ s.nyate.loads →
    ∃ t, exec (.nycLoadStart c m v rivals) s = .next t ∧ t.nyate = { s.nyate with loads := c.val :: s.nyate.loads } ∧
      t.reg (.nyc c) 0x80 = 1 ∧ t.field (.nyc c) 0x78 2 0 = fld v 2 0 ∧
      t.host.reads.any (fun r => decide (r.f = 0 ∧ r.use = ReadFor.program c.val ∧ r.failed = false ∧
        r.want.length + r.out = (s.readParts 0 [(s.reg64 (.nyc c) 0x70 / 64 * 64, 64)]).length)) = true ∧
      s.keepsRegs t ((.nyc c, 0x78) :: (.nyc c, 0x80) :: (.nyc c, 0x2C) :: discardRegs (.nyc c)) ∧
      s.keeps t [.regs, .nyate, .log, .host, .out]) ∧
  (∀ (s : State) (c : Fin 8) (image : List Byte) (sigOk : Bool) (n : Nat), c.val ∈ s.nyate.loads → c.val ∉ s.nyate.bodies →
    s.reading (.program c.val) = false → s.readFailed (.program c.val) = false → imageSize image = some n →
    exec (.loadDone c image sigOk false) s = .next (({ s with nyate := { s.nyate with bodies := c.val :: s.nyate.bodies } }).openRead 0
      (.program c.val) (s.readParts 0 [(s.reg64 (.nyc c) 0x70 / 64 * 64 + 64, n - 64)]))) ∧
  (∀ (s : State) (c : Fin 8) (image : List Byte) (sigOk : Bool), c.val ∈ s.nyate.loads → s.reading (.program c.val) = true →
    exec (.loadDone c image sigOk false) s = .next s) ∧
  (∀ (s : State) (c : Fin 8) (image : List Byte) (sigOk : Bool), c.val ∈ s.nyate.loads → c.val ∈ s.nyate.bodies →
    s.reading (.program c.val) = false → s.readFailed (.program c.val) = false →
    slice image 0 4 = [0x4E, 0x59, 0x50, 0x47] → leAt image 4 2 = 1 → 1 ≤ leAt image 8 4 → leAt image 8 4 ≤ 32768 →
    leAt image 12 4 ≤ 65536 → s.field (.nyc c) 0x7C 14 0 + leAt image 8 4 ≤ 32768 →
    s.field (.nyc c) 0x7C 31 16 + leAt image 12 4 ≤ 65536 →
    64 + 8 * leAt image 8 4 + 4 * leAt image 12 4 + (if nbit (leAt image 6 2) 0 then 96 else 0) ≤ image.length →
    (s.keys.opKey = none ∨ (nbit (leAt image 6 2) 0 = true ∧ sigOk = true)) →
    s.coreBusy c.val (s.field (.nyc c) 0x78 2 0) (s.field (.nyc c) 0x7C 14 0) (leAt image 8 4) (s.field (.nyc c) 0x7C 31 16) (leAt image 12 4) = false →
    ∃ t, exec (.loadDone c image sigOk false) s = .next t ∧ t.reg (.nyc c) 0x80 = 2 ∧ c.val ∉ t.nyate.loads ∧
      (∀ i, i < leAt image 8 4 → Sparse.find t.nyate.imem (32768 * (8 * c.val + s.field (.nyc c) 0x78 2 0) + s.field (.nyc c) 0x7C 14 0 + i) = some (leAt image (64 + 8 * i) 8 % 2 ^ 36)) ∧
      (∀ i, i < leAt image 12 4 → t.dmemAt c.val (s.field (.nyc c) 0x78 2 0) (s.field (.nyc c) 0x7C 31 16 + i) = BitVec.ofNat 18 (leAt image (64 + 8 * leAt image 8 4 + 4 * i) 4)) ∧
      t.nyate.threads = s.nyate.threads ∧ t.nyate.clusters = s.nyate.clusters ∧
      t.reg (.nyc c) 0xD4 = s.reg (.nyc c) 0xD4 + 1 ∧ bitOn (t.reg (.nyc c) 0x10) 2 = true ∧
      s.keepsRegs t ((.nyc c, 0x80) :: (.nyc c, 0xD4) :: eventRegs (.nyc c)) ∧ s.keeps t [.regs, .nyate, .log, .host, .out]) ∧
  (∀ (s : State) (c : Fin 8) (image : List Byte) (sigOk hostError : Bool), c.val ∈ s.nyate.loads →
    (hostError = true ∨ s.reading (.program c.val) = false) →
    (hostError = true ∨ s.readFailed (.program c.val) = true ∨ slice image 0 4 ≠ [0x4E, 0x59, 0x50, 0x47]) →
    ∃ t, exec (.loadDone c image sigOk hostError) s = .next t ∧
      t.reg (.nyc c) 0x80 = (if hostError || s.readFailed (.program c.val) then 4 else 6) ∧
      c.val ∉ t.nyate.loads ∧ t.nyate.imem = s.nyate.imem ∧ t.nyate.dmem = s.nyate.dmem ∧
      t.nyate.threads = s.nyate.threads ∧ bitOn (t.reg (.nyc c) 0x10) 2 = true ∧
      s.keepsRegs t ((.nyc c, 0x80) :: eventRegs (.nyc c)) ∧ s.keeps t [.regs, .nyate, .log, .host, .out]) ∧
  (∀ (s : State) (c : Fin 8) (m : Master) (rivals : List Req), s.grants (.nyc c) 0xA4 m (bit 0) rivals → m.overseer = true →
    s.threadState c.val (s.tsel c.val) = .idle →
    ∃ t, exec (.thStart c m rivals) s = .next t ∧
      t.thread c.val (s.tsel c.val) = { s.thread c.val (s.tsel c.val) with regs := List.replicate 16 0, sw := 0, pc := fld (s.thread c.val (s.tsel c.val)).entry 14 0, st := .runnable, park := 0, slots := [none, none, none, none], rd := 0, slot := 0 } ∧
      (∀ c' k', 128 * c' + k' ≠ 128 * c.val + s.tsel c.val → t.thread c' k' = s.thread c' k') ∧
      { t.nyate with threads := s.nyate.threads } = s.nyate ∧
      s.keepsRegs t ((.nyc c, 0x2C) :: discardRegs (.nyc c)) ∧ s.keeps t [.regs, .nyate, .log, .host, .out]) ∧
  (∀ (s : State) (c : Fin 8) (m : Master) (rivals : List Req), s.grants (.nyc c) 0xA4 m (bit 0) rivals → m.overseer = true →
    s.threadState c.val (s.tsel c.val) ≠ .idle →
    ∃ t, exec (.thStart c m rivals) s = .next t ∧ t.nyate = s.nyate ∧
      s.keepsRegs t ((.nyc c, 0x2C) :: discardRegs (.nyc c)) ∧ s.keeps t [.regs, .log, .host, .out]) ∧
  (∀ (s : State) (c : Fin 8) (m : Master) (rivals : List Req), s.grants (.nyc c) 0xA4 m (bit 1) rivals → m.overseer = true →
    ∃ t, exec (.thStop c m rivals) s = .next t ∧
      t.thread c.val (s.tsel c.val) = { s.thread c.val (s.tsel c.val) with st := .idle, park := 0, slots := [none, none, none, none] } ∧
      (∀ x ∈ t.frames, x.loc.ofThread c.val (s.tsel c.val) = false) ∧ s.tsel c.val ∉ (t.cluster c.val).takers ∧
      (∀ r ∈ t.nyate.treqs, r.c = c.val → r.t = s.tsel c.val → r.dead = true) ∧
      (∀ c' k', 128 * c' + k' ≠ 128 * c.val + s.tsel c.val → t.thread c' k' = s.thread c' k') ∧
      s.keepsRegs t ((.nyc c, 0xCC) :: (.nyc c, 0x2C) :: discardRegs (.nyc c)) ∧
      s.keeps t [.regs, .nyate, .frames, .ham, .queues, .log, .host, .out]) ∧
  (∀ (s : State) (c : Fin 8) (rivals : List Req), s.grants (.nyc c) 0xA4 (.nyate c) (bit 2) rivals →
    s.tsel c.val ≠ s.supervisor c.val →
    ∃ t, exec (.thRestart c (.nyate c) rivals) s = .next t ∧
      t.thread c.val (s.tsel c.val) = { s.thread c.val (s.tsel c.val) with regs := List.replicate 16 0, sw := 0, pc := fld (s.thread c.val (s.tsel c.val)).entry 14 0, st := .runnable, park := 0, slots := [none, none, none, none], rd := 0, slot := 0 } ∧
      (∀ x ∈ t.frames, x.loc.ofThread c.val (s.tsel c.val) = false) ∧ s.tsel c.val ∉ (t.cluster c.val).takers ∧
      (∀ c' k', 128 * c' + k' ≠ 128 * c.val + s.tsel c.val → t.thread c' k' = s.thread c' k') ∧
      s.keepsRegs t ((.nyc c, 0xCC) :: (.nyc c, 0x2C) :: discardRegs (.nyc c)) ∧
      s.keeps t [.regs, .nyate, .frames, .ham, .queues, .log, .host, .out]) ∧
  (∀ (s : State) (c : Fin 8) (rivals : List Req), s.grants (.nyc c) 0xA4 (.nyate c) (bit 2) rivals →
    s.tsel c.val = s.supervisor c.val →
    ∃ t, exec (.thRestart c (.nyate c) rivals) s = .next t ∧ s.keepsRegs t ((.nyc c, 0x2C) :: discardRegs (.nyc c)) ∧
      s.keeps t [.regs, .log, .host, .out]) ∧
  (∀ (s : State) (c : Fin 8) (m : Master) (rivals : List Req), s.grants (.nyc c) 0x44 m (bit 0) rivals →
    m.overseer = true ∨ m = .nyate c →
    ∃ t, exec (.fltPop c m rivals) s = .next t ∧
      t.cluster c.val = { s.cluster c.val with faults := (s.cluster c.val).faults.drop 1 } ∧
      (∀ c', c' ≠ c.val → t.cluster c' = s.cluster c') ∧ { t.nyate with clusters := s.nyate.clusters } = s.nyate ∧
      s.keepsRegs t ((.nyc c, 0x2C) :: discardRegs (.nyc c)) ∧ s.keeps t [.regs, .nyate, .log, .host, .out]) ∧
  (∀ (s : State) (c : Fin 8) (m : Master) (rivals : List Req), s.grants (.nyc c) 0x44 m (bit 1) rivals → m.overseer = true →
    (s.cluster c.val).halt = 1 → (s.cluster c.val).faults.length < 64 →
    ∃ t, exec (.resume c m rivals) s = .next t ∧ t.cluster c.val = { s.cluster c.val with halt := 0 } ∧
      (∀ c', c' ≠ c.val → t.cluster c' = s.cluster c') ∧ { t.nyate with clusters := s.nyate.clusters } = s.nyate ∧
      s.keepsRegs t ((.nyc c, 0x2C) :: discardRegs (.nyc c)) ∧ s.keeps t [.regs, .nyate, .log, .host, .out]) ∧
  (∀ (s : State) (c : Fin 8) (m : Master) (rivals : List Req), s.grants (.nyc c) 0x44 m (bit 1) rivals →
    m.overseer = false ∨ (s.cluster c.val).halt ≠ 1 ∨ 64 ≤ (s.cluster c.val).faults.length →
    ∃ t, exec (.resume c m rivals) s = .next t ∧ s.keepsRegs t ((.nyc c, 0x2C) :: discardRegs (.nyc c)) ∧
      s.keeps t [.regs, .log, .host, .out]) ∧
  (∀ (s : State) (c k : Fin 8) (m : Master) (v : Word) (rivals : List Req), s.grants (.nyc c) (0x50 + 4 * k.val) m v rivals →
    m.overseer = true →
    ∃ t, exec (.nycHpWrite c k m v rivals) s = .next t ∧
      t.reg (.nyc c) (0x50 + 4 * k.val) = (s.reg (.nyc c) (0x50 + 4 * k.val) &&& 0xFFFFFFE0) ||| (v &&& 0x1F) ∧
      s.keepsRegs t ((.nyc c, 0x50 + 4 * k.val) :: (.nyc c, 0x2C) :: discardRegs (.nyc c)) ∧
      s.keeps t [.regs, .log, .host, .out]) ∧
  (∀ (s : State) (c k : Fin 8) (m : Master) (v : Word) (rivals : List Req), s.grants (.nyc c) (0x50 + 4 * k.val) m v rivals →
    m.overseer = false →
    ∃ t, exec (.nycHpWrite c k m v rivals) s = .next t ∧ s.keepsRegs t ((.nyc c, 0x2C) :: discardRegs (.nyc c)) ∧
      s.keeps t [.regs, .log, .host, .out])

/-- NOP, LI, ADD, ADC, SUB, SBC, CMP and their immediate forms, NEG and ABS. A thread that issues one of these writes its
destination register and nothing else but its flags and its program counter, which moves on by one: the result modulo 2^18,
Z and N of the result, C the carry out or the borrow, V a signed result outside the range, SO with V. CMP writes flags only,
LI and NOP none; ABS leaves C. -/
def Obligations.NyateArithmetic : Prop :=
  (∀ (s : State) (c : Fin 8) (k : Fin 128) (rd ra rb : BitVec 4) (imm : BitVec 18), s.issues c k 0x00 {} rd ra rb imm →
    ∃ t, exec (.nNop c k rd ra rb imm) s = .next t ∧ s.computes t c k [] none none none none) ∧
  (∀ (s : State) (c : Fin 8) (k : Fin 128) (rd ra rb : BitVec 4) (imm : BitVec 18), s.issues c k 0x01 { rd := true, imm := true } rd ra rb imm →
    ∃ t, exec (.nLi c k rd ra rb imm) s = .next t ∧ s.computes t c k [(rd.toNat, imm)] none none none none) ∧
  (∀ (s : State) (c : Fin 8) (k : Fin 128) (rd ra rb : BitVec 4) (imm : BitVec 18), s.issues c k 0x02 formReg rd ra rb imm →
    ∃ t, exec (.nAdd c k rd ra rb imm) s = .next t ∧ s.added t c k rd (s.treg c k ra) (s.treg c k rb) false) ∧
  (∀ (s : State) (c : Fin 8) (k : Fin 128) (rd ra rb : BitVec 4) (imm : BitVec 18), s.issues c k 0x03 formImm rd ra rb imm →
    ∃ t, exec (.nAddi c k rd ra rb imm) s = .next t ∧ s.added t c k rd (s.treg c k ra) imm false) ∧
  (∀ (s : State) (c : Fin 8) (k : Fin 128) (rd ra rb : BitVec 4) (imm : BitVec 18), s.issues c k 0x04 formReg rd ra rb imm →
    ∃ t, exec (.nAdc c k rd ra rb imm) s = .next t ∧ s.added t c k rd (s.treg c k ra) (s.treg c k rb) (s.tcarry c k)) ∧
  (∀ (s : State) (c : Fin 8) (k : Fin 128) (rd ra rb : BitVec 4) (imm : BitVec 18), s.issues c k 0x05 formImm rd ra rb imm →
    ∃ t, exec (.nAdci c k rd ra rb imm) s = .next t ∧ s.added t c k rd (s.treg c k ra) imm (s.tcarry c k)) ∧
  (∀ (s : State) (c : Fin 8) (k : Fin 128) (rd ra rb : BitVec 4) (imm : BitVec 18), s.issues c k 0x06 formReg rd ra rb imm →
    ∃ t, exec (.nSub c k rd ra rb imm) s = .next t ∧ s.subtracted t c k (fun r => [(rd.toNat, r)]) (s.treg c k ra) (s.treg c k rb) false) ∧
  (∀ (s : State) (c : Fin 8) (k : Fin 128) (rd ra rb : BitVec 4) (imm : BitVec 18), s.issues c k 0x07 formImm rd ra rb imm →
    ∃ t, exec (.nSubi c k rd ra rb imm) s = .next t ∧ s.subtracted t c k (fun r => [(rd.toNat, r)]) (s.treg c k ra) imm false) ∧
  (∀ (s : State) (c : Fin 8) (k : Fin 128) (rd ra rb : BitVec 4) (imm : BitVec 18), s.issues c k 0x08 formReg rd ra rb imm →
    ∃ t, exec (.nSbc c k rd ra rb imm) s = .next t ∧ s.subtracted t c k (fun r => [(rd.toNat, r)]) (s.treg c k ra) (s.treg c k rb) (s.tcarry c k)) ∧
  (∀ (s : State) (c : Fin 8) (k : Fin 128) (rd ra rb : BitVec 4) (imm : BitVec 18), s.issues c k 0x09 formImm rd ra rb imm →
    ∃ t, exec (.nSbci c k rd ra rb imm) s = .next t ∧ s.subtracted t c k (fun r => [(rd.toNat, r)]) (s.treg c k ra) imm (s.tcarry c k)) ∧
  (∀ (s : State) (c : Fin 8) (k : Fin 128) (rd ra rb : BitVec 4) (imm : BitVec 18), s.issues c k 0x10 { ra := true, rb := true } rd ra rb imm →
    ∃ t, exec (.nCmp c k rd ra rb imm) s = .next t ∧ s.subtracted t c k (fun _ => []) (s.treg c k ra) (s.treg c k rb) false) ∧
  (∀ (s : State) (c : Fin 8) (k : Fin 128) (rd ra rb : BitVec 4) (imm : BitVec 18), s.issues c k 0x11 { ra := true, imm := true } rd ra rb imm →
    ∃ t, exec (.nCmpi c k rd ra rb imm) s = .next t ∧ s.subtracted t c k (fun _ => []) (s.treg c k ra) imm false) ∧
  (∀ (s : State) (c : Fin 8) (k : Fin 128) (rd ra rb : BitVec 4) (imm : BitVec 18), s.issues c k 0x1C { rd := true, ra := true } rd ra rb imm →
    ∃ (t : State) (r : NWord), exec (.nNeg c k rd ra rb imm) s = .next t ∧ r.toNat = (2 ^ 18 - (s.treg c k ra).toNat) % 2 ^ 18 ∧
      s.computes t c k [(rd.toNat, r)] (some (decide (r = 0))) (some r.msb) (some (decide ((s.treg c k ra) ≠ 0))) (some (signedOut (-(s.treg c k ra).toInt)))) ∧
  (∀ (s : State) (c : Fin 8) (k : Fin 128) (rd ra rb : BitVec 4) (imm : BitVec 18), s.issues c k 0x1D { rd := true, ra := true } rd ra rb imm →
    ∃ (t : State) (r : NWord), exec (.nAbs c k rd ra rb imm) s = .next t ∧ r.toNat = (s.treg c k ra).toInt.natAbs ∧
      s.computes t c k [(rd.toNat, r)] (some (decide (r = 0))) (some r.msb) none (some (signedOut (s.treg c k ra).toInt.natAbs)))

/-- AND, OR, XOR, SHL, SHR, SAR, ROL, ROR and their immediate forms, RDSW and WRSW. A logic instruction writes its result, Z and
N, and leaves C and V. A shift or rotation writes its result, Z, N and C: C is the last bit shifted out, 0 where none is; a
count above 18 shifts everything out, SAR fills with the sign, a rotation takes its count modulo 18. RDSW copies the status
word, WRSW writes its defined bits. -/
def Obligations.NyateLogicAndShifts : Prop :=
  (∀ (s : State) (c : Fin 8) (k : Fin 128) (rd ra rb : BitVec 4) (imm : BitVec 18), s.issues c k 0x0A formReg rd ra rb imm →
    ∃ t, exec (.nAnd c k rd ra rb imm) s = .next t ∧ s.yields t c k rd ((s.treg c k ra) &&& (s.treg c k rb)) none) ∧
  (∀ (s : State) (c : Fin 8) (k : Fin 128) (rd ra rb : BitVec 4) (imm : BitVec 18), s.issues c k 0x0B formImm rd ra rb imm →
    ∃ t, exec (.nAndi c k rd ra rb imm) s = .next t ∧ s.yields t c k rd ((s.treg c k ra) &&& imm) none) ∧
  (∀ (s : State) (c : Fin 8) (k : Fin 128) (rd ra rb : BitVec 4) (imm : BitVec 18), s.issues c k 0x0C formReg rd ra rb imm →
    ∃ t, exec (.nOr c k rd ra rb imm) s = .next t ∧ s.yields t c k rd ((s.treg c k ra) ||| (s.treg c k rb)) none) ∧
  (∀ (s : State) (c : Fin 8) (k : Fin 128) (rd ra rb : BitVec 4) (imm : BitVec 18), s.issues c k 0x0D formImm rd ra rb imm →
    ∃ t, exec (.nOri c k rd ra rb imm) s = .next t ∧ s.yields t c k rd ((s.treg c k ra) ||| imm) none) ∧
  (∀ (s : State) (c : Fin 8) (k : Fin 128) (rd ra rb : BitVec 4) (imm : BitVec 18), s.issues c k 0x0E formReg rd ra rb imm →
    ∃ t, exec (.nXor c k rd ra rb imm) s = .next t ∧ s.yields t c k rd ((s.treg c k ra) ^^^ (s.treg c k rb)) none) ∧
  (∀ (s : State) (c : Fin 8) (k : Fin 128) (rd ra rb : BitVec 4) (imm : BitVec 18), s.issues c k 0x0F formImm rd ra rb imm →
    ∃ t, exec (.nXori c k rd ra rb imm) s = .next t ∧ s.yields t c k rd ((s.treg c k ra) ^^^ imm) none) ∧
  (∀ (s : State) (c : Fin 8) (k : Fin 128) (rd ra rb : BitVec 4) (imm : BitVec 18), s.issues c k 0x12 formReg rd ra rb imm →
    ∃ (t : State) (r : NWord), exec (.nShl c k rd ra rb imm) s = .next t ∧ r.toNat = (s.treg c k ra).toNat * 2 ^ (s.treg c k rb).toNat % 2 ^ 18 ∧
      s.yields t c k rd r (some (decide (1 ≤ (s.treg c k rb).toNat ∧ (s.treg c k rb).toNat ≤ 18) && (s.treg c k ra).getLsbD (18 - (s.treg c k rb).toNat)))) ∧
  (∀ (s : State) (c : Fin 8) (k : Fin 128) (rd ra rb : BitVec 4) (imm : BitVec 18), s.issues c k 0x13 formImm rd ra rb imm →
    ∃ (t : State) (r : NWord), exec (.nShli c k rd ra rb imm) s = .next t ∧ r.toNat = (s.treg c k ra).toNat * 2 ^ imm.toNat % 2 ^ 18 ∧
      s.yields t c k rd r (some (decide (1 ≤ imm.toNat ∧ imm.toNat ≤ 18) && (s.treg c k ra).getLsbD (18 - imm.toNat)))) ∧
  (∀ (s : State) (c : Fin 8) (k : Fin 128) (rd ra rb : BitVec 4) (imm : BitVec 18), s.issues c k 0x14 formReg rd ra rb imm →
    ∃ (t : State) (r : NWord), exec (.nShr c k rd ra rb imm) s = .next t ∧ r.toNat = (s.treg c k ra).toNat / 2 ^ (s.treg c k rb).toNat ∧
      s.yields t c k rd r (some (decide (1 ≤ (s.treg c k rb).toNat ∧ (s.treg c k rb).toNat ≤ 18) && (s.treg c k ra).getLsbD ((s.treg c k rb).toNat - 1)))) ∧
  (∀ (s : State) (c : Fin 8) (k : Fin 128) (rd ra rb : BitVec 4) (imm : BitVec 18), s.issues c k 0x15 formImm rd ra rb imm →
    ∃ (t : State) (r : NWord), exec (.nShri c k rd ra rb imm) s = .next t ∧ r.toNat = (s.treg c k ra).toNat / 2 ^ imm.toNat ∧
      s.yields t c k rd r (some (decide (1 ≤ imm.toNat ∧ imm.toNat ≤ 18) && (s.treg c k ra).getLsbD (imm.toNat - 1)))) ∧
  (∀ (s : State) (c : Fin 8) (k : Fin 128) (rd ra rb : BitVec 4) (imm : BitVec 18), s.issues c k 0x16 formReg rd ra rb imm →
    ∃ (t : State) (r : NWord), exec (.nSar c k rd ra rb imm) s = .next t ∧ r.toInt = (s.treg c k ra).toInt / 2 ^ min (s.treg c k rb).toNat 18 ∧
      s.yields t c k rd r (some (decide (1 ≤ (s.treg c k rb).toNat) && (s.treg c k ra).getLsbD (min (s.treg c k rb).toNat 18 - 1)))) ∧
  (∀ (s : State) (c : Fin 8) (k : Fin 128) (rd ra rb : BitVec 4) (imm : BitVec 18), s.issues c k 0x17 formImm rd ra rb imm →
    ∃ (t : State) (r : NWord), exec (.nSari c k rd ra rb imm) s = .next t ∧ r.toInt = (s.treg c k ra).toInt / 2 ^ min imm.toNat 18 ∧
      s.yields t c k rd r (some (decide (1 ≤ imm.toNat) && (s.treg c k ra).getLsbD (min imm.toNat 18 - 1)))) ∧
  (∀ (s : State) (c : Fin 8) (k : Fin 128) (rd ra rb : BitVec 4) (imm : BitVec 18), s.issues c k 0x18 formReg rd ra rb imm →
    ∃ (t : State) (r : NWord), exec (.nRol c k rd ra rb imm) s = .next t ∧ r.toNat = ((s.treg c k ra).toNat * 2 ^ ((s.treg c k rb).toNat % 18) + (s.treg c k ra).toNat / 2 ^ (18 - (s.treg c k rb).toNat % 18)) % 2 ^ 18 ∧
      s.yields t c k rd r (some (decide ((s.treg c k rb).toNat % 18 ≠ 0) && r.getLsbD 0))) ∧
  (∀ (s : State) (c : Fin 8) (k : Fin 128) (rd ra rb : BitVec 4) (imm : BitVec 18), s.issues c k 0x19 formImm rd ra rb imm →
    ∃ (t : State) (r : NWord), exec (.nRoli c k rd ra rb imm) s = .next t ∧ r.toNat = ((s.treg c k ra).toNat * 2 ^ (imm.toNat % 18) + (s.treg c k ra).toNat / 2 ^ (18 - imm.toNat % 18)) % 2 ^ 18 ∧
      s.yields t c k rd r (some (decide (imm.toNat % 18 ≠ 0) && r.getLsbD 0))) ∧
  (∀ (s : State) (c : Fin 8) (k : Fin 128) (rd ra rb : BitVec 4) (imm : BitVec 18), s.issues c k 0x1A formReg rd ra rb imm →
    ∃ (t : State) (r : NWord), exec (.nRor c k rd ra rb imm) s = .next t ∧ r.toNat = ((s.treg c k ra).toNat / 2 ^ ((s.treg c k rb).toNat % 18) + (s.treg c k ra).toNat * 2 ^ (18 - (s.treg c k rb).toNat % 18)) % 2 ^ 18 ∧
      s.yields t c k rd r (some (decide ((s.treg c k rb).toNat % 18 ≠ 0) && r.getLsbD 17))) ∧
  (∀ (s : State) (c : Fin 8) (k : Fin 128) (rd ra rb : BitVec 4) (imm : BitVec 18), s.issues c k 0x1B formImm rd ra rb imm →
    ∃ (t : State) (r : NWord), exec (.nRori c k rd ra rb imm) s = .next t ∧ r.toNat = ((s.treg c k ra).toNat / 2 ^ (imm.toNat % 18) + (s.treg c k ra).toNat * 2 ^ (18 - imm.toNat % 18)) % 2 ^ 18 ∧
      s.yields t c k rd r (some (decide (imm.toNat % 18 ≠ 0) && r.getLsbD 17))) ∧
  (∀ (s : State) (c : Fin 8) (k : Fin 128) (rd ra rb : BitVec 4) (imm : BitVec 18), s.issues c k 0x22 { rd := true } rd ra rb imm →
    ∃ t, exec (.nRdsw c k rd ra rb imm) s = .next t ∧ s.computes t c k [(rd.toNat, (s.thread c.val k.val).sw)] none none none none) ∧
  (∀ (s : State) (c : Fin 8) (k : Fin 128) (rd ra rb : BitVec 4) (imm : BitVec 18), s.issues c k 0x23 { ra := true } rd ra rb imm →
    ∃ t, exec (.nWrsw c k rd ra rb imm) s = .next t ∧ t.thread c.val k.val = { s.thread c.val k.val with sw := (s.treg c k ra) &&& 0x13F, pc := (s.thread c.val k.val).pc + 1 } ∧
      s.onlyThread t c k ∧ { t.nyate with threads := s.nyate.threads } = s.nyate ∧ s.keeps t [.nyate])

/-- MULU, MULS, DIVU and DIVS. The product of 36 bits stands in the pair, Z and N of the whole, C and V 0. A quotient truncated
toward zero and a remainder with the sign of the dividend stand in the pair; the most negative number by minus one gives
itself and V. A division by zero gives 0 and the dividend and sets Z and DZ, or faults with DIV_ZERO under TRAP_DZ. -/
def Obligations.NyateMultiplyAndDivide : Prop :=
  (∀ (s : State) (c : Fin 8) (k : Fin 128) (rd ra rb : BitVec 4) (imm : BitVec 18), s.issues c k 0x1E { formReg with pairD := true } rd ra rb imm →
    ∃ (t : State) (lo hi : NWord), exec (.nMulu c k rd ra rb imm) s = .next t ∧ hi.toNat * 2 ^ 18 + lo.toNat = (s.treg c k ra).toNat * (s.treg c k rb).toNat ∧
      s.computes t c k [(rd.toNat, lo), (rd.toNat + 1, hi)] (some (decide (lo = 0 ∧ hi = 0))) (some hi.msb) (some false) (some false)) ∧
  (∀ (s : State) (c : Fin 8) (k : Fin 128) (rd ra rb : BitVec 4) (imm : BitVec 18), s.issues c k 0x1F { formReg with pairD := true } rd ra rb imm →
    ∃ (t : State) (lo hi : NWord), exec (.nMuls c k rd ra rb imm) s = .next t ∧ (hi ++ lo).toInt = (s.treg c k ra).toInt * (s.treg c k rb).toInt ∧
      s.computes t c k [(rd.toNat, lo), (rd.toNat + 1, hi)] (some (decide (lo = 0 ∧ hi = 0))) (some hi.msb) (some false) (some false)) ∧
  (∀ (s : State) (c : Fin 8) (k : Fin 128) (rd ra rb : BitVec 4) (imm : BitVec 18), s.issues c k 0x20 { formReg with pairD := true } rd ra rb imm → (s.treg c k rb) ≠ 0 →
    ∃ (t : State) (q r : NWord), exec (.nDivu c k rd ra rb imm) s = .next t ∧ q.toNat = (s.treg c k ra).toNat / (s.treg c k rb).toNat ∧ r.toNat = (s.treg c k ra).toNat % (s.treg c k rb).toNat ∧
      s.computes t c k [(rd.toNat, q), (rd.toNat + 1, r)] (some (decide (q = 0))) (some q.msb) (some false) (some false)) ∧
  (∀ (s : State) (c : Fin 8) (k : Fin 128) (rd ra rb : BitVec 4) (imm : BitVec 18), s.issues c k 0x21 { formReg with pairD := true } rd ra rb imm → (s.treg c k rb) ≠ 0 →
    ∃ (t : State) (q r : NWord), exec (.nDivs c k rd ra rb imm) s = .next t ∧ ((s.treg c k ra) ≠ 0x20000 ∨ (s.treg c k rb) ≠ 0x3FFFF → q.toInt = (s.treg c k ra).toInt.tdiv (s.treg c k rb).toInt) ∧
      ((s.treg c k ra) = 0x20000 → (s.treg c k rb) = 0x3FFFF → q = 0x20000) ∧ r.toInt = (s.treg c k ra).toInt.tmod (s.treg c k rb).toInt ∧
      s.computes t c k [(rd.toNat, q), (rd.toNat + 1, r)] (some (decide (q = 0))) (some q.msb) (some false)
        (some (decide ((s.treg c k ra) = 0x20000 ∧ (s.treg c k rb) = 0x3FFFF)))) ∧
  (∀ (s : State) (c : Fin 8) (k : Fin 128) (rd ra rb : BitVec 4) (imm : BitVec 18), s.issues c k 0x20 { formReg with pairD := true } rd ra rb imm → (s.treg c k rb) = 0 → (s.thread c.val k.val).sw.getLsbD 8 = false →
    ∃ t, exec (.nDivu c k rd ra rb imm) s = .next t ∧ (t.thread c.val k.val).r rd.toNat = 0 ∧
      (t.thread c.val k.val).r (rd.toNat + 1) = (s.treg c k ra) ∧ (∀ j, j ≠ rd.toNat → j ≠ rd.toNat + 1 → (t.thread c.val k.val).r j = (s.thread c.val k.val).r j) ∧
      (t.thread c.val k.val).sw = (s.thread c.val k.val).sw &&& 0x3FFD0 ||| 0x21 ∧
      { t.thread c.val k.val with regs := (s.thread c.val k.val).regs, sw := (s.thread c.val k.val).sw } = { s.thread c.val k.val with pc := (s.thread c.val k.val).pc + 1 } ∧
      s.onlyThread t c k ∧ { t.nyate with threads := s.nyate.threads } = s.nyate ∧ s.keeps t [.nyate]) ∧
  (∀ (s : State) (c : Fin 8) (k : Fin 128) (rd ra rb : BitVec 4) (imm : BitVec 18), s.issues c k 0x20 { formReg with pairD := true } rd ra rb imm → (s.treg c k rb) = 0 → (s.thread c.val k.val).sw.getLsbD 8 = true → s.faultsAlone c k →
    ∃ t, exec (.nDivu c k rd ra rb imm) s = .next t ∧ s.faulted t c k 5 0) ∧
  (∀ (s : State) (c : Fin 8) (k : Fin 128) (rd ra rb : BitVec 4) (imm : BitVec 18), s.issues c k 0x21 { formReg with pairD := true } rd ra rb imm → (s.treg c k rb) = 0 → (s.thread c.val k.val).sw.getLsbD 8 = false →
    ∃ t, exec (.nDivs c k rd ra rb imm) s = .next t ∧ (t.thread c.val k.val).r rd.toNat = 0 ∧
      (t.thread c.val k.val).r (rd.toNat + 1) = (s.treg c k ra) ∧ (∀ j, j ≠ rd.toNat → j ≠ rd.toNat + 1 → (t.thread c.val k.val).r j = (s.thread c.val k.val).r j) ∧
      (t.thread c.val k.val).sw = (s.thread c.val k.val).sw &&& 0x3FFD0 ||| 0x21 ∧
      { t.thread c.val k.val with regs := (s.thread c.val k.val).regs, sw := (s.thread c.val k.val).sw } = { s.thread c.val k.val with pc := (s.thread c.val k.val).pc + 1 } ∧
      s.onlyThread t c k ∧ { t.nyate with threads := s.nyate.threads } = s.nyate ∧ s.keeps t [.nyate]) ∧
  (∀ (s : State) (c : Fin 8) (k : Fin 128) (rd ra rb : BitVec 4) (imm : BitVec 18), s.issues c k 0x21 { formReg with pairD := true } rd ra rb imm → (s.treg c k rb) = 0 → (s.thread c.val k.val).sw.getLsbD 8 = true → s.faultsAlone c k →
    ∃ t, exec (.nDivs c k rd ra rb imm) s = .next t ∧ s.faulted t c k 5 0)

/-- What is not issued: a field the form does not use, a program counter beyond the code, a thread that cannot issue. A nonzero
field that an instruction does not use faults with ILLEGAL and the low bits of the word; a program counter at or beyond the
end of the code faults with CODE_RANGE and the counter. A thread that is not runnable, or whose core holds another
instruction there, does nothing by the command (the last is how this model places a program, log entry 36). -/
def Obligations.NyateIssueFaults : Prop :=
  (∀ (s : State) (c : Fin 8) (k : Fin 128) (rd ra rb : BitVec 4) (imm : BitVec 18), s.canIssue c.val k.val = true → (s.thread c.val k.val).pc < (s.thread c.val k.val).ilen →
    (s.thread c.val k.val).ibase + (s.thread c.val k.val).pc < 32768 →
    (s.fetched c.val k.val = none ∨ s.fetched c.val k.val = some (nWord 0x00 rd ra rb imm)) → ({} : Form).illegal rd ra rb imm = true → s.faultsAlone c k →
    ∃ t, exec (.nNop c k rd ra rb imm) s = .next t ∧ s.faulted t c k 1 (nWord 0x00 rd ra rb imm)) ∧
  (∀ (s : State) (c : Fin 8) (k : Fin 128) (rd ra rb : BitVec 4) (imm : BitVec 18), s.canIssue c.val k.val = true → (s.thread c.val k.val).pc < (s.thread c.val k.val).ilen →
    (s.thread c.val k.val).ibase + (s.thread c.val k.val).pc < 32768 →
    (s.fetched c.val k.val = none ∨ s.fetched c.val k.val = some (nWord 0x02 rd ra rb imm)) → formReg.illegal rd ra rb imm = true → s.faultsAlone c k →
    ∃ t, exec (.nAdd c k rd ra rb imm) s = .next t ∧ s.faulted t c k 1 (nWord 0x02 rd ra rb imm)) ∧
  (∀ (s : State) (c : Fin 8) (k : Fin 128) (rd ra rb : BitVec 4) (imm : BitVec 18), s.canIssue c.val k.val = true → (s.thread c.val k.val).pc < (s.thread c.val k.val).ilen →
    (s.thread c.val k.val).ibase + (s.thread c.val k.val).pc < 32768 →
    (s.fetched c.val k.val = none ∨ s.fetched c.val k.val = some (nWord 0x03 rd ra rb imm)) → formImm.illegal rd ra rb imm = true → s.faultsAlone c k →
    ∃ t, exec (.nAddi c k rd ra rb imm) s = .next t ∧ s.faulted t c k 1 (nWord 0x03 rd ra rb imm)) ∧
  (∀ (s : State) (c : Fin 8) (k : Fin 128) (rd ra rb : BitVec 4) (imm : BitVec 18), s.canIssue c.val k.val = true →
    (s.thread c.val k.val).ilen ≤ (s.thread c.val k.val).pc → (s.thread c.val k.val).pc < 2 ^ 18 → s.faultsAlone c k →
    ∃ t, exec (.nNop c k rd ra rb imm) s = .next t ∧ s.faulted t c k 2 (s.thread c.val k.val).pc) ∧
  (∀ (s : State) (c : Fin 8) (k : Fin 128) (rd ra rb : BitVec 4) (imm : BitVec 18), s.canIssue c.val k.val = false → exec (.nAdd c k rd ra rb imm) s = .next s) ∧
  (∀ (s : State) (c : Fin 8) (k : Fin 128) (rd ra rb : BitVec 4) (imm : BitVec 18) (w : Nat), s.fetched c.val k.val = some w → w / 2 ^ 12 % 64 < 0x3D → w ≠ nWord 0x02 rd ra rb imm →
    (s.thread c.val k.val).pc < (s.thread c.val k.val).ilen → (s.thread c.val k.val).ibase + (s.thread c.val k.val).pc < 32768 →
    exec (.nAdd c k rd ra rb imm) s = .next s)

/-- LD, ST, LDN, LDB, LDW, STN, STB, STW, STS and FSS. LD reads and ST writes one word of the core's data memory at the base of
the thread plus the address; an address beyond its length faults with DATA_RANGE. A window load reads a nonet, its byte or
two nonets of the frame in the slot, a window store writes the same or the stitch bit alone; no other nonet changes. An
empty slot and an offset beyond the end fault with WINDOW_RANGE, an uncorrectable error with its own cause. FSS finds the
next stitch bit, or sets Z and gives the length. -/
def Obligations.NyateMemoryAndWindow : Prop :=
  (∀ (s : State) (c : Fin 8) (k : Fin 128) (rd ra rb : BitVec 4) (imm : BitVec 18), s.issues c k 0x24 formImm rd ra rb imm →
    (s.taddr c k ra imm) < (s.thread c.val k.val).dlen → (s.thread c.val k.val).dbase + (s.taddr c k ra imm) < 65536 →
    ∃ t, exec (.nLd c k rd ra rb imm) s = .next t ∧ s.computes t c k [(rd.toNat, s.dmemAt c.val (k.val / 16) ((s.thread c.val k.val).dbase + (s.taddr c k ra imm)))] none none none none) ∧
  (∀ (s : State) (c : Fin 8) (k : Fin 128) (rd ra rb : BitVec 4) (imm : BitVec 18), s.issues c k 0x25 formImm rd ra rb imm →
    (s.taddr c k ra imm) < (s.thread c.val k.val).dlen → (s.thread c.val k.val).dbase + (s.taddr c k ra imm) < 65536 →
    ∃ t, exec (.nSt c k rd ra rb imm) s = .next t ∧ t.dmemAt c.val (k.val / 16) ((s.thread c.val k.val).dbase + (s.taddr c k ra imm)) = s.treg c k rd ∧
      (∀ c' q a, 65536 * (8 * c' + q) + a ≠ 65536 * (8 * c.val + k.val / 16) + ((s.thread c.val k.val).dbase + (s.taddr c k ra imm)) → t.dmemAt c' q a = s.dmemAt c' q a) ∧
      s.moved t c k ∧ { t.nyate with threads := s.nyate.threads, dmem := s.nyate.dmem } = s.nyate ∧ s.keeps t [.nyate]) ∧
  (∀ (s : State) (c : Fin 8) (k : Fin 128) (rd ra rb : BitVec 4) (imm : BitVec 18), s.issues c k 0x24 formImm rd ra rb imm →
    (s.thread c.val k.val).dlen ≤ (s.taddr c k ra imm) ∨ 65536 ≤ (s.thread c.val k.val).dbase + (s.taddr c k ra imm) → s.faultsAlone c k →
    ∃ t, exec (.nLd c k rd ra rb imm) s = .next t ∧ s.faulted t c k 3 (s.taddr c k ra imm)) ∧
  (∀ (s : State) (c : Fin 8) (k : Fin 128) (rd ra rb : BitVec 4) (imm : BitVec 18), s.issues c k 0x25 formImm rd ra rb imm →
    (s.thread c.val k.val).dlen ≤ (s.taddr c k ra imm) ∨ 65536 ≤ (s.thread c.val k.val).dbase + (s.taddr c k ra imm) → s.faultsAlone c k →
    ∃ t, exec (.nSt c k rd ra rb imm) s = .next t ∧ s.faulted t c k 3 (s.taddr c k ra imm)) ∧
  (∀ (s : State) (c : Fin 8) (k : Fin 128) (rd ra rb : BitVec 4) (imm : BitVec 18) (x : Frame), s.issues c k 0x26 formWin rd ra rb imm → s.slotFrame (s.thread c.val k.val) rb = some x →
    (s.taddr c k ra imm) + 1 ≤ x.nonets.length → x.bad = false →
    ∃ t, exec (.nLdn c k rd ra rb imm) s = .next t ∧ s.computes t c k [(rd.toNat, BitVec.ofNat 18 (nonetAt x.nonets (s.taddr c k ra imm)).toNat)] none none none none) ∧
  (∀ (s : State) (c : Fin 8) (k : Fin 128) (rd ra rb : BitVec 4) (imm : BitVec 18) (x : Frame), s.issues c k 0x27 formWin rd ra rb imm → s.slotFrame (s.thread c.val k.val) rb = some x →
    (s.taddr c k ra imm) + 1 ≤ x.nonets.length → x.bad = false →
    ∃ t, exec (.nLdb c k rd ra rb imm) s = .next t ∧ s.computes t c k [(rd.toNat, BitVec.ofNat 18 ((nonetAt x.nonets (s.taddr c k ra imm)).toNat % 256))] none none none none) ∧
  (∀ (s : State) (c : Fin 8) (k : Fin 128) (rd ra rb : BitVec 4) (imm : BitVec 18) (x : Frame), s.issues c k 0x28 formWin rd ra rb imm → s.slotFrame (s.thread c.val k.val) rb = some x →
    (s.taddr c k ra imm) + 2 ≤ x.nonets.length → x.bad = false →
    ∃ t, exec (.nLdw c k rd ra rb imm) s = .next t ∧ s.computes t c k [(rd.toNat, BitVec.ofNat 18 ((nonetAt x.nonets (s.taddr c k ra imm)).toNat * 512 + (nonetAt x.nonets ((s.taddr c k ra imm) + 1)).toNat))] none none none none) ∧
  (∀ (s : State) (c : Fin 8) (k : Fin 128) (rd ra rb : BitVec 4) (imm : BitVec 18) (x : Frame), s.issues c k 0x29 formWin rd ra rb imm → s.slotFrame (s.thread c.val k.val) rb = some x →
    (s.taddr c k ra imm) + 1 ≤ x.nonets.length → x.bad = false →
    ∃ t, exec (.nStn c k rd ra rb imm) s = .next t ∧ t.frame x.id = some { x with nonets := x.nonets.set (s.taddr c k ra imm) (BitVec.ofNat 9 ((s.treg c k rd).toNat % 512)) } ∧
      (∀ i, i ≠ x.id → t.frame i = s.frame i) ∧ s.moved t c k ∧ { t.nyate with threads := s.nyate.threads } = s.nyate ∧ s.keeps t [.nyate, .frames]) ∧
  (∀ (s : State) (c : Fin 8) (k : Fin 128) (rd ra rb : BitVec 4) (imm : BitVec 18) (x : Frame), s.issues c k 0x2A formWin rd ra rb imm → s.slotFrame (s.thread c.val k.val) rb = some x →
    (s.taddr c k ra imm) + 1 ≤ x.nonets.length → x.bad = false →
    ∃ t, exec (.nStb c k rd ra rb imm) s = .next t ∧ t.frame x.id = some { x with nonets := x.nonets.set (s.taddr c k ra imm) (BitVec.ofNat 9 ((nonetAt x.nonets (s.taddr c k ra imm)).toNat / 256 * 256 + (s.treg c k rd).toNat % 256)) } ∧
      (∀ i, i ≠ x.id → t.frame i = s.frame i) ∧ s.moved t c k ∧ { t.nyate with threads := s.nyate.threads } = s.nyate ∧ s.keeps t [.nyate, .frames]) ∧
  (∀ (s : State) (c : Fin 8) (k : Fin 128) (rd ra rb : BitVec 4) (imm : BitVec 18) (x : Frame), s.issues c k 0x2B formWin rd ra rb imm → s.slotFrame (s.thread c.val k.val) rb = some x →
    (s.taddr c k ra imm) + 2 ≤ x.nonets.length → x.bad = false →
    ∃ t, exec (.nStw c k rd ra rb imm) s = .next t ∧ t.frame x.id = some { x with nonets := (x.nonets.set (s.taddr c k ra imm) (BitVec.ofNat 9 ((s.treg c k rd).toNat / 512))).set ((s.taddr c k ra imm) + 1) (BitVec.ofNat 9 ((s.treg c k rd).toNat % 512)) } ∧
      (∀ i, i ≠ x.id → t.frame i = s.frame i) ∧ s.moved t c k ∧ { t.nyate with threads := s.nyate.threads } = s.nyate ∧ s.keeps t [.nyate, .frames]) ∧
  (∀ (s : State) (c : Fin 8) (k : Fin 128) (rd ra rb : BitVec 4) (imm : BitVec 18) (x : Frame), s.issues c k 0x2C formWin rd ra rb imm → s.slotFrame (s.thread c.val k.val) rb = some x →
    (s.taddr c k ra imm) + 1 ≤ x.nonets.length → x.bad = false →
    ∃ t, exec (.nSts c k rd ra rb imm) s = .next t ∧ t.frame x.id = some { x with nonets := x.nonets.set (s.taddr c k ra imm) (BitVec.ofNat 9 ((nonetAt x.nonets (s.taddr c k ra imm)).toNat % 256 + (s.treg c k rd).toNat % 2 * 256)) } ∧
      (∀ i, i ≠ x.id → t.frame i = s.frame i) ∧ s.moved t c k ∧ { t.nyate with threads := s.nyate.threads } = s.nyate ∧ s.keeps t [.nyate, .frames]) ∧
  (∀ (s : State) (c : Fin 8) (k : Fin 128) (rd ra rb : BitVec 4) (imm : BitVec 18), s.issues c k 0x26 formWin rd ra rb imm → s.slotFrame (s.thread c.val k.val) rb = none → s.faultsAlone c k →
    ∃ t, exec (.nLdn c k rd ra rb imm) s = .next t ∧ s.faulted t c k 4 0x3FFFF) ∧
  (∀ (s : State) (c : Fin 8) (k : Fin 128) (rd ra rb : BitVec 4) (imm : BitVec 18) (x : Frame), s.issues c k 0x26 formWin rd ra rb imm → s.slotFrame (s.thread c.val k.val) rb = some x →
    x.nonets.length ≤ (s.taddr c k ra imm) → s.faultsAlone c k →
    ∃ t, exec (.nLdn c k rd ra rb imm) s = .next t ∧ s.faulted t c k 4 (s.taddr c k ra imm)) ∧
  (∀ (s : State) (c : Fin 8) (k : Fin 128) (rd ra rb : BitVec 4) (imm : BitVec 18) (x : Frame), s.issues c k 0x26 formWin rd ra rb imm → s.slotFrame (s.thread c.val k.val) rb = some x →
    (s.taddr c k ra imm) + 2 ≤ x.nonets.length → x.bad = true → s.faultsAlone c k →
    ∃ t, exec (.nLdn c k rd ra rb imm) s = .next t ∧ s.faulted t c k 6 (s.taddr c k ra imm)) ∧
  (∀ (s : State) (c : Fin 8) (k : Fin 128) (rd ra rb : BitVec 4) (imm : BitVec 18), s.issues c k 0x29 formWin rd ra rb imm → s.slotFrame (s.thread c.val k.val) rb = none → s.faultsAlone c k →
    ∃ t, exec (.nStn c k rd ra rb imm) s = .next t ∧ s.faulted t c k 4 0x3FFFF) ∧
  (∀ (s : State) (c : Fin 8) (k : Fin 128) (rd ra rb : BitVec 4) (imm : BitVec 18) (x : Frame), s.issues c k 0x29 formWin rd ra rb imm → s.slotFrame (s.thread c.val k.val) rb = some x →
    x.nonets.length ≤ (s.taddr c k ra imm) → s.faultsAlone c k →
    ∃ t, exec (.nStn c k rd ra rb imm) s = .next t ∧ s.faulted t c k 4 (s.taddr c k ra imm)) ∧
  (∀ (s : State) (c : Fin 8) (k : Fin 128) (rd ra rb : BitVec 4) (imm : BitVec 18) (x : Frame), s.issues c k 0x29 formWin rd ra rb imm → s.slotFrame (s.thread c.val k.val) rb = some x →
    (s.taddr c k ra imm) + 2 ≤ x.nonets.length → x.bad = true → s.faultsAlone c k →
    ∃ t, exec (.nStn c k rd ra rb imm) s = .next t ∧ s.faulted t c k 6 (s.taddr c k ra imm)) ∧
  (∀ (s : State) (c : Fin 8) (k : Fin 128) (rd ra rb : BitVec 4) (imm : BitVec 18), s.issues c k 0x28 formWin rd ra rb imm → s.slotFrame (s.thread c.val k.val) rb = none → s.faultsAlone c k →
    ∃ t, exec (.nLdw c k rd ra rb imm) s = .next t ∧ s.faulted t c k 4 0x3FFFF) ∧
  (∀ (s : State) (c : Fin 8) (k : Fin 128) (rd ra rb : BitVec 4) (imm : BitVec 18) (x : Frame), s.issues c k 0x28 formWin rd ra rb imm → s.slotFrame (s.thread c.val k.val) rb = some x →
    x.nonets.length ≤ (s.taddr c k ra imm) → s.faultsAlone c k →
    ∃ t, exec (.nLdw c k rd ra rb imm) s = .next t ∧ s.faulted t c k 4 (s.taddr c k ra imm)) ∧
  (∀ (s : State) (c : Fin 8) (k : Fin 128) (rd ra rb : BitVec 4) (imm : BitVec 18) (x : Frame), s.issues c k 0x28 formWin rd ra rb imm → s.slotFrame (s.thread c.val k.val) rb = some x →
    (s.taddr c k ra imm) + 2 ≤ x.nonets.length → x.bad = true → s.faultsAlone c k →
    ∃ t, exec (.nLdw c k rd ra rb imm) s = .next t ∧ s.faulted t c k 6 (s.taddr c k ra imm)) ∧
  (∀ (s : State) (c : Fin 8) (k : Fin 128) (rd ra rb : BitVec 4) (imm : BitVec 18) (x : Frame) (i : Nat), s.issues c k 0x2D formWin rd ra rb imm → s.slotFrame (s.thread c.val k.val) rb = some x → x.bad = false →
    (s.taddr c k ra imm) ≤ i → i < x.nonets.length → (nonetAt x.nonets i).getLsbD 8 = true →
    (∀ j, (s.taddr c k ra imm) ≤ j → j < i → (nonetAt x.nonets j).getLsbD 8 = false) →
    ∃ t, exec (.nFss c k rd ra rb imm) s = .next t ∧ s.computes t c k [(rd.toNat, BitVec.ofNat 18 i)] (some false) none none none) ∧
  (∀ (s : State) (c : Fin 8) (k : Fin 128) (rd ra rb : BitVec 4) (imm : BitVec 18) (x : Frame), s.issues c k 0x2D formWin rd ra rb imm → s.slotFrame (s.thread c.val k.val) rb = some x → x.bad = false →
    (∀ j, (s.taddr c k ra imm) ≤ j → j < x.nonets.length → (nonetAt x.nonets j).getLsbD 8 = false) →
    ∃ t, exec (.nFss c k rd ra rb imm) s = .next t ∧ s.computes t c k [(rd.toNat, BitVec.ofNat 18 x.nonets.length)] (some true) none none none)

/-- TAKE, DROP, EMIT, GETM, SETM, ADJH, ENG and TREQ. TAKE maps the oldest frame of the thread's classes into an empty slot and
gives its length, or parks the thread in line. DROP ends the frame, EMIT sends it to its order gate with its destination,
ENG hands it to the engines and parks the thread, each emptying or keeping the slot as the rule says; a destination the
thread may not use faults with DENIED. GETM reads and SETM writes a metadata field. ADJH moves the frame's start. TREQ
queues a table request and parks the thread. -/
def Obligations.NyateFramesAndEngines : Prop :=
  (∀ (s : State) (c : Fin 8) (k : Fin 128) (rd ra rb : BitVec 4) (imm : BitVec 18) (x : Frame), s.issues c k 0x2E { rd := true, slot := true } rd ra rb imm → (s.thread c.val k.val).slots.getD rb.toNat none = none →
    s.oldestFor c.val (s.thread c.val k.val).classes = some x → s.windowRoom c.val x = true →
    ∃ t, exec (.nTake c k rd ra rb imm) s = .next t ∧ t.frame x.id = some { x with loc := .held c.val k.val rb.toNat, room := 0 } ∧
      (t.thread c.val k.val) = { s.thread c.val k.val with regs := setAt 0 (s.thread c.val k.val).regs rd.toNat (BitVec.ofNat 18 x.nonets.length), slots := setAt none (s.thread c.val k.val).slots rb.toNat (some x.id), pc := (s.thread c.val k.val).pc + 1, st := .runnable, park := 0 } ∧
      k.val ∉ (t.cluster c.val).takers ∧ s.onlyThread t c k ∧ s.keeps t [.nyate, .frames]) ∧
  (∀ (s : State) (c : Fin 8) (k : Fin 128) (rd ra rb : BitVec 4) (imm : BitVec 18), s.issues c k 0x2E { rd := true, slot := true } rd ra rb imm → (s.thread c.val k.val).slots.getD rb.toNat none = none →
    s.oldestFor c.val (s.thread c.val k.val).classes = none →
    ∃ t, exec (.nTake c k rd ra rb imm) s = .next t ∧ (t.thread c.val k.val) = { s.thread c.val k.val with st := .parked, park := 2, rd := rd.toNat, slot := rb.toNat } ∧
      (t.cluster c.val).takers = (s.cluster c.val).takers ++ [k.val] ∧ s.onlyThread t c k ∧ s.keeps t [.nyate]) ∧
  (∀ (s : State) (c : Fin 8) (k : Fin 128) (rd ra rb : BitVec 4) (imm : BitVec 18), s.issues c k 0x2E { rd := true, slot := true } rd ra rb imm → ((s.thread c.val k.val).slots.getD rb.toNat none).isSome = true →
    s.faultsAlone c k →
    ∃ t, exec (.nTake c k rd ra rb imm) s = .next t ∧ s.faulted t c k 1 (nWord 0x2E rd ra rb imm)) ∧
  (∀ (s : State) (c : Fin 8) (k : Fin 128) (rd ra rb : BitVec 4) (imm : BitVec 18) (x : Frame), s.issues c k 0x2F formSlot rd ra rb imm → s.slotFrame (s.thread c.val k.val) rb = some x → x.func = false →
    ∃ t, exec (.nDrop c k rd ra rb imm) s = .next t ∧ t.frame x.id = none ∧ (t.thread c.val k.val) = { s.thread c.val k.val with slots := setAt none (s.thread c.val k.val).slots rb.toNat none, pc := (s.thread c.val k.val).pc + 1 } ∧
      s.onlyThread t c k ∧ { t.nyate with threads := s.nyate.threads } = s.nyate ∧ s.keeps t [.nyate, .frames, .ham]) ∧
  (∀ (s : State) (c : Fin 8) (k : Fin 128) (rd ra rb : BitVec 4) (imm : BitVec 18) (x : Frame) (d : Nat), s.issues c k 0x30 { ra := true, slot := true, pairA := true } rd ra rb imm → s.slotFrame (s.thread c.val k.val) rb = some x →
    d = ((s.thread c.val k.val).r (ra.toNat + 1)).toNat % 65536 * 65536 + ((s.thread c.val k.val).r ra.toNat).toNat % 65536 →
    (s.thread c.val k.val).mayEmit d = true →
    ∃ t, exec (.nEmit c k rd ra rb imm) s = .next t ∧ t.frame x.id = some { x with loc := .gated c.val, dest := d } ∧
      (t.thread c.val k.val) = { s.thread c.val k.val with slots := setAt none (s.thread c.val k.val).slots rb.toNat none, pc := (s.thread c.val k.val).pc + 1 } ∧
      s.onlyThread t c k ∧ { t.nyate with threads := s.nyate.threads } = s.nyate ∧ s.keeps t [.nyate, .frames]) ∧
  (∀ (s : State) (c : Fin 8) (k : Fin 128) (rd ra rb : BitVec 4) (imm : BitVec 18) (x : Frame) (d : Nat), s.issues c k 0x30 { ra := true, slot := true, pairA := true } rd ra rb imm → s.slotFrame (s.thread c.val k.val) rb = some x →
    d = ((s.thread c.val k.val).r (ra.toNat + 1)).toNat % 65536 * 65536 + ((s.thread c.val k.val).r ra.toNat).toNat % 65536 →
    (s.thread c.val k.val).mayEmit d = false → s.faultsAlone c k →
    ∃ t, exec (.nEmit c k rd ra rb imm) s = .next t ∧ s.faulted t c k 7 (d / 2 ^ 29)) ∧
  (∀ (s : State) (c : Fin 8) (k : Fin 128) (rd ra rb : BitVec 4) (imm : BitVec 18) (x : Frame) (n : Nat), s.issues c k 0x31 { rd := true, slot := true, imm := true } rd ra rb imm → s.slotFrame (s.thread c.val k.val) rb = some x → x.meta imm.toNat = some n →
    ∃ t, exec (.nGetm c k rd ra rb imm) s = .next t ∧ s.computes t c k [(rd.toNat, BitVec.ofNat 18 n)] none none none none) ∧
  (∀ (s : State) (c : Fin 8) (k : Fin 128) (rd ra rb : BitVec 4) (imm : BitVec 18), s.issues c k 0x31 { rd := true, slot := true, imm := true } rd ra rb imm → 12 ≤ imm.toNat → s.faultsAlone c k →
    ∃ t, exec (.nGetm c k rd ra rb imm) s = .next t ∧ s.faulted t c k 1 (nWord 0x31 rd ra rb imm)) ∧
  (∀ (s : State) (c : Fin 8) (k : Fin 128) (rd ra rb : BitVec 4) (imm : BitVec 18) (x : Frame), s.issues c k 0x32 { ra := true, slot := true, imm := true } rd ra rb imm → s.slotFrame (s.thread c.val k.val) rb = some x → imm = 3 →
    ∃ t, exec (.nSetm c k rd ra rb imm) s = .next t ∧ t.frame x.id = some { x with tc := (s.treg c k ra).toNat % 8 } ∧ s.moved t c k ∧ { t.nyate with threads := s.nyate.threads } = s.nyate ∧ s.keeps t [.nyate, .frames]) ∧
  (∀ (s : State) (c : Fin 8) (k : Fin 128) (rd ra rb : BitVec 4) (imm : BitVec 18) (x : Frame), s.issues c k 0x32 { ra := true, slot := true, imm := true } rd ra rb imm → s.slotFrame (s.thread c.val k.val) rb = some x → imm = 10 →
    ∃ t, exec (.nSetm c k rd ra rb imm) s = .next t ∧ t.frame x.id = some { x with tun := (s.treg c k ra).toNat % 65536 } ∧ s.moved t c k ∧ { t.nyate with threads := s.nyate.threads } = s.nyate ∧ s.keeps t [.nyate, .frames]) ∧
  (∀ (s : State) (c : Fin 8) (k : Fin 128) (rd ra rb : BitVec 4) (imm : BitVec 18) (x : Frame), s.issues c k 0x32 { ra := true, slot := true, imm := true } rd ra rb imm → s.slotFrame (s.thread c.val k.val) rb = some x → imm = 11 →
    ∃ t, exec (.nSetm c k rd ra rb imm) s = .next t ∧ t.frame x.id = some { x with sa := (s.treg c k ra).toNat % 65536 } ∧ s.moved t c k ∧ { t.nyate with threads := s.nyate.threads } = s.nyate ∧ s.keeps t [.nyate, .frames]) ∧
  (∀ (s : State) (c : Fin 8) (k : Fin 128) (rd ra rb : BitVec 4) (imm : BitVec 18), s.issues c k 0x32 { ra := true, slot := true, imm := true } rd ra rb imm → imm ≠ 3 → imm ≠ 10 → imm ≠ 11 → s.faultsAlone c k →
    ∃ t, exec (.nSetm c k rd ra rb imm) s = .next t ∧ s.faulted t c k 1 (nWord 0x32 rd ra rb imm)) ∧
  (∀ (s : State) (c : Fin 8) (k : Fin 128) (rd ra rb : BitVec 4) (imm : BitVec 18) (x : Frame), s.issues c k 0x33 { slot := true, imm := true } rd ra rb imm → s.slotFrame (s.thread c.val k.val) rb = some x → imm.toNat < 2 ^ 17 →
    imm.toNat < x.nonets.length →
    ∃ t, exec (.nAdjh c k rd ra rb imm) s = .next t ∧ t.frame x.id = some { x with nonets := stitchFirst (x.nonets.drop imm.toNat) } ∧
      s.moved t c k ∧ { t.nyate with threads := s.nyate.threads } = s.nyate ∧ s.keeps t [.nyate, .frames]) ∧
  (∀ (s : State) (c : Fin 8) (k : Fin 128) (rd ra rb : BitVec 4) (imm : BitVec 18) (x : Frame), s.issues c k 0x33 { slot := true, imm := true } rd ra rb imm → s.slotFrame (s.thread c.val k.val) rb = some x → 2 ^ 17 ≤ imm.toNat →
    x.room + (2 ^ 18 - imm.toNat) ≤ 128 →
    ∃ t, exec (.nAdjh c k rd ra rb imm) s = .next t ∧ t.frame x.id = some { x with nonets := stitchFirst (List.replicate (2 ^ 18 - imm.toNat) 0 ++ x.nonets), room := x.room + (2 ^ 18 - imm.toNat) } ∧
      s.moved t c k ∧ { t.nyate with threads := s.nyate.threads } = s.nyate ∧ s.keeps t [.nyate, .frames]) ∧
  (∀ (s : State) (c : Fin 8) (k : Fin 128) (rd ra rb : BitVec 4) (imm : BitVec 18) (x : Frame), s.issues c k 0x33 { slot := true, imm := true } rd ra rb imm → s.slotFrame (s.thread c.val k.val) rb = some x →
    (imm.toNat < 2 ^ 17 ∧ x.nonets.length ≤ imm.toNat) ∨ (2 ^ 17 ≤ imm.toNat ∧ 128 < x.room + (2 ^ 18 - imm.toNat)) → s.faultsAlone c k →
    ∃ t, exec (.nAdjh c k rd ra rb imm) s = .next t ∧ s.faulted t c k 4 imm.toNat) ∧
  (∀ (s : State) (c : Fin 8) (k : Fin 128) (rd ra rb : BitVec 4) (imm : BitVec 18) (x : Frame) (d : Nat), s.issues c k 0x34 { ra := true, imm := true, slot := true, pairA := true } rd ra rb imm → s.slotFrame (s.thread c.val k.val) rb = some x → engAllowed imm = true →
    d = ((s.thread c.val k.val).r (ra.toNat + 1)).toNat % 65536 * 65536 + ((s.thread c.val k.val).r ra.toNat).toNat % 65536 →
    (s.thread c.val k.val).mayEmit d = true → s.mayName (s.thread c.val k.val) x imm.toNat = true →
    ∃ t, exec (.nEng c k rd ra rb imm) s = .next t ∧ t.frame x.id = some { x with loc := .engine c.val k.val imm.toNat false, dest := d } ∧
      (t.thread c.val k.val) = { s.thread c.val k.val with st := .parked, park := 4, slot := rb.toNat } ∧
      s.onlyThread t c k ∧ { t.nyate with threads := s.nyate.threads } = s.nyate ∧ s.keeps t [.nyate, .frames]) ∧
  (∀ (s : State) (c : Fin 8) (k : Fin 128) (rd ra rb : BitVec 4) (imm : BitVec 18), s.issues c k 0x34 { ra := true, imm := true, slot := true, pairA := true } rd ra rb imm → engAllowed imm = false → s.faultsAlone c k →
    ∃ t, exec (.nEng c k rd ra rb imm) s = .next t ∧ s.faulted t c k 1 (nWord 0x34 rd ra rb imm)) ∧
  (∀ (s : State) (c : Fin 8) (k : Fin 128) (rd ra rb : BitVec 4) (imm : BitVec 18), s.issues c k 0x35 { rd := true, ra := true, imm := true } rd ra rb imm → imm &&& 0x3F8C8 = 0 →
    (s.treg c k ra).toNat + 36 ≤ (s.thread c.val k.val).dlen → (s.thread c.val k.val).dbase + (s.treg c k ra).toNat + 36 ≤ 65536 → (s.thread c.val k.val).isBound = false →
    ∃ t, exec (.nTreq c k rd ra rb imm) s = .next t ∧ t.nyate.treqs = s.nyate.treqs ++ [{ c := c.val, t := k.val, imm := imm.toNat, addr := (s.thread c.val k.val).dbase + (s.treg c k ra).toNat, dead := false, bind := (s.thread c.val k.val).bind }] ∧
      (t.thread c.val k.val) = { s.thread c.val k.val with st := .parked, park := 1, rd := rd.toNat } ∧
      s.onlyThread t c k ∧ { t.nyate with threads := s.nyate.threads, treqs := s.nyate.treqs } = s.nyate ∧ s.keeps t [.nyate]) ∧
  (∀ (s : State) (c : Fin 8) (k : Fin 128) (rd ra rb : BitVec 4) (imm : BitVec 18), s.issues c k 0x35 { rd := true, ra := true, imm := true } rd ra rb imm → imm &&& 0x3F8C8 = 0 →
    (s.treg c k ra).toNat + 36 ≤ (s.thread c.val k.val).dlen → (s.thread c.val k.val).dbase + (s.treg c k ra).toNat + 36 ≤ 65536 → (s.thread c.val k.val).isBound = true →
    imm.toNat % 8 = 5 → s.faultsAlone c k →
    ∃ t, exec (.nTreq c k rd ra rb imm) s = .next t ∧ s.faulted t c k 7 5) ∧
  (∀ (s : State) (c : Fin 8) (k : Fin 128) (rd ra rb : BitVec 4) (imm : BitVec 18), s.issues c k 0x35 { rd := true, ra := true, imm := true } rd ra rb imm → imm &&& 0x3F8C8 ≠ 0 → s.faultsAlone c k →
    ∃ t, exec (.nTreq c k rd ra rb imm) s = .next t ∧ s.faulted t c k 1 (nWord 0x35 rd ra rb imm))

/-- BR, JAL, JR, SLEEP, TRAP, PGR and PGW. BR branches where its condition holds, JAL keeps the return address, JR jumps to a
register; a target at or beyond the end of the code faults with CODE_RANGE. SLEEP parks for a time, with 0 not at all. TRAP
faults with its number. PGR reads a register of the cluster's page into the pair, offset 0x24 as a lock read; PGW does what
a register write by master 8 does. -/
def Obligations.NyateControlAndPageAccess : Prop :=
  (∀ w : NWord, condHolds w 0 = true ∧ condHolds w 1 = w.getLsbD 0 ∧ condHolds w 2 = !w.getLsbD 0 ∧ condHolds w 3 = w.getLsbD 2 ∧
    condHolds w 4 = !w.getLsbD 2 ∧ condHolds w 5 = w.getLsbD 1 ∧ condHolds w 6 = !w.getLsbD 1 ∧ condHolds w 7 = w.getLsbD 3 ∧
    condHolds w 8 = !w.getLsbD 3 ∧ condHolds w 10 = !condHolds w 9 ∧ condHolds w 10 = (w.getLsbD 2 || w.getLsbD 0) ∧
    condHolds w 11 = (w.getLsbD 1 == w.getLsbD 3) ∧ condHolds w 12 = !condHolds w 11 ∧
    condHolds w 13 = (!w.getLsbD 0 && condHolds w 11) ∧ condHolds w 14 = !condHolds w 13 ∧ condHolds w 15 = w.getLsbD 4) ∧
  (∀ (s : State) (c : Fin 8) (k : Fin 128) (rd ra rb : BitVec 4) (imm : BitVec 18), s.issues c k 0x36 { rd := true, imm := true } rd ra rb imm → imm.toNat < 2 ^ 15 → condHolds (s.thread c.val k.val).sw rd = true →
    imm.toNat < (s.thread c.val k.val).ilen →
    ∃ t, exec (.nBr c k rd ra rb imm) s = .next t ∧ (t.thread c.val k.val) = { s.thread c.val k.val with pc := imm.toNat } ∧ s.onlyThread t c k ∧ { t.nyate with threads := s.nyate.threads } = s.nyate ∧ s.keeps t [.nyate]) ∧
  (∀ (s : State) (c : Fin 8) (k : Fin 128) (rd ra rb : BitVec 4) (imm : BitVec 18), s.issues c k 0x36 { rd := true, imm := true } rd ra rb imm → imm.toNat < 2 ^ 15 → condHolds (s.thread c.val k.val).sw rd = false →
    ∃ t, exec (.nBr c k rd ra rb imm) s = .next t ∧ s.moved t c k ∧ { t.nyate with threads := s.nyate.threads } = s.nyate ∧ s.keeps t [.nyate]) ∧
  (∀ (s : State) (c : Fin 8) (k : Fin 128) (rd ra rb : BitVec 4) (imm : BitVec 18), s.issues c k 0x36 { rd := true, imm := true } rd ra rb imm → imm.toNat < 2 ^ 15 → condHolds (s.thread c.val k.val).sw rd = true →
    (s.thread c.val k.val).ilen ≤ imm.toNat → s.faultsAlone c k →
    ∃ t, exec (.nBr c k rd ra rb imm) s = .next t ∧ s.faulted t c k 2 imm.toNat) ∧
  (∀ (s : State) (c : Fin 8) (k : Fin 128) (rd ra rb : BitVec 4) (imm : BitVec 18), s.issues c k 0x37 { rd := true, imm := true } rd ra rb imm → imm.toNat % 2 ^ 15 < (s.thread c.val k.val).ilen →
    ∃ t, exec (.nJal c k rd ra rb imm) s = .next t ∧ (t.thread c.val k.val) = { s.thread c.val k.val with regs := setAt 0 (s.thread c.val k.val).regs rd.toNat (BitVec.ofNat 18 ((s.thread c.val k.val).pc + 1)), pc := imm.toNat % 2 ^ 15 } ∧
      s.onlyThread t c k ∧ { t.nyate with threads := s.nyate.threads } = s.nyate ∧ s.keeps t [.nyate]) ∧
  (∀ (s : State) (c : Fin 8) (k : Fin 128) (rd ra rb : BitVec 4) (imm : BitVec 18), s.issues c k 0x38 { ra := true } rd ra rb imm → (s.treg c k ra).toNat % 2 ^ 15 < (s.thread c.val k.val).ilen →
    ∃ t, exec (.nJr c k rd ra rb imm) s = .next t ∧ (t.thread c.val k.val) = { s.thread c.val k.val with pc := (s.treg c k ra).toNat % 2 ^ 15 } ∧ s.onlyThread t c k ∧ { t.nyate with threads := s.nyate.threads } = s.nyate ∧ s.keeps t [.nyate]) ∧
  (∀ (s : State) (c : Fin 8) (k : Fin 128) (rd ra rb : BitVec 4) (imm : BitVec 18), s.issues c k 0x39 { imm := true } rd ra rb imm → imm = 0 →
    ∃ t, exec (.nSleep c k rd ra rb imm) s = .next t ∧ s.moved t c k ∧ { t.nyate with threads := s.nyate.threads } = s.nyate ∧ s.keeps t [.nyate]) ∧
  (∀ (s : State) (c : Fin 8) (k : Fin 128) (rd ra rb : BitVec 4) (imm : BitVec 18), s.issues c k 0x39 { imm := true } rd ra rb imm → imm ≠ 0 →
    ∃ t, exec (.nSleep c k rd ra rb imm) s = .next t ∧ (t.thread c.val k.val) = { s.thread c.val k.val with pc := (s.thread c.val k.val).pc + 1, st := .parked, park := 5 } ∧
      s.onlyThread t c k ∧ { t.nyate with threads := s.nyate.threads } = s.nyate ∧ s.keeps t [.nyate]) ∧
  (∀ (s : State) (c : Fin 8) (k : Fin 128) (rd ra rb : BitVec 4) (imm : BitVec 18), s.issues c k 0x3A { imm := true } rd ra rb imm → s.faultsAlone c k →
    ∃ t, exec (.nTrap c k rd ra rb imm) s = .next t ∧ s.faulted t c k 9 imm.toNat) ∧
  (∀ (s : State) (c : Fin 8) (k : Fin 128) (rd ra rb : BitVec 4) (imm : BitVec 18) (v : Word) (rivals : List Req), s.issues c k 0x3B { rd := true, imm := true, pairD := true } rd ra rb imm → s.pageForm c k imm = true → imm.toNat ≠ 0x24 →
    v = s.view (.nyc c) imm.toNat →
    ∃ t, exec (.nPgr c k rd ra rb imm rivals) s = .next t ∧ s.computes t c k [(rd.toNat, BitVec.ofNat 18 (v.toNat % 65536)), (rd.toNat + 1, BitVec.ofNat 18 (v.toNat / 65536))] none none none none) ∧
  (∀ (s : State) (c : Fin 8) (k : Fin 128) (rd ra rb : BitVec 4) (imm : BitVec 18) (rivals : List Req), s.issues c k 0x3B { rd := true, imm := true, pairD := true } rd ra rb imm → s.pageForm c k imm = true → imm.toNat = 0x24 →
    rivals = [] → s.mayWrite (.nyc c) (.nyate c) = true → s.lockOf (.nyc c) = none → s.sens.hot = false →
    ∃ t, exec (.nPgr c k rd ra rb imm rivals) s = .next t ∧ t.lockOf (.nyc c) = some (.nyate c) ∧
      (s.thread c.val k.val).after (t.thread c.val k.val) [(rd.toNat, 0), (rd.toNat + 1, 0)] none none none none ∧ s.onlyThread t c k ∧ { t.nyate with threads := s.nyate.threads } = s.nyate ∧
      t.out = .data (.nyate c) 0 :: s.out ∧ t.reg (.nyc c) 0x2C = s.reg (.nyc c) 0x2C + 1 ∧
      s.keepsRegs t ((.nyc c, 0x2C) :: discardRegs (.nyc c)) ∧ s.keeps t [.regs, .locks, .nyate, .out]) ∧
  (∀ (s : State) (c : Fin 8) (k : Fin 128) (rd ra rb : BitVec 4) (imm : BitVec 18) (rivals : List Req), s.issues c k 0x3B { rd := true, imm := true, pairD := true } rd ra rb imm → s.pageForm c k imm = false → s.faultsAlone c k →
    ∃ t, exec (.nPgr c k rd ra rb imm rivals) s = .next t ∧ s.faulted t c k 1 (nWord 0x3B rd ra rb imm)) ∧
  (∀ (s : State) (c : Fin 8) (k : Fin 128) (rd ra rb : BitVec 4) (imm : BitVec 18) (v : Word) (rivals : List Req), s.issues c k 0x3C { rd := true, imm := true, pairD := true } rd ra rb imm → s.pageForm c k imm = true →
    v = word (((s.thread c.val k.val).r (rd.toNat + 1)).toNat % 65536 * 65536 + ((s.thread c.val k.val).r rd.toNat).toNat % 65536) →
    ∃ t u, exec (.nPgw c k rd ra rb imm rivals) s = .next t ∧ exec (.registerWrite (.nyc c) ⟨(wr (.nyate c) imm.toNat v :: rivals), []⟩) s = .next u ∧ u.moved t c k ∧
      { t.nyate with threads := u.nyate.threads } = u.nyate ∧ u.keeps t [.nyate]) ∧
  (∀ (s : State) (c : Fin 8) (k : Fin 128) (rd ra rb : BitVec 4) (imm : BitVec 18) (v : Word) (rivals : List Req), s.issues c k 0x3C { rd := true, imm := true, pairD := true } rd ra rb imm → s.pageForm c k imm = true →
    v = word (((s.thread c.val k.val).r (rd.toNat + 1)).toNat % 65536 * 65536 + ((s.thread c.val k.val).r rd.toNat).toNat % 65536) →
    0x280 ≤ imm.toNat → imm.toNat < 0x2C0 → s.grants (.nyc c) imm.toNat (.nyate c) v rivals → bitOn (s.reg (.nyc c) 0x200) 1 = false →
    ∃ t, exec (.nPgw c k rd ra rb imm rivals) s = .next t ∧ t.reg (.nyc c) imm.toNat = v ∧ s.moved t c k ∧ { t.nyate with threads := s.nyate.threads } = s.nyate ∧
      s.keepsRegs t ((.nyc c, imm.toNat) :: (.nyc c, 0x2C) :: discardRegs (.nyc c)) ∧ s.keeps t [.regs, .nyate, .log, .host, .out])

/-- ISL_SLEEP_REQUEST, ISL_RUN_REQUEST, ISL_SLEEP_ENTER, DRAIN_LIMIT_EXPIRY, ISL_WAKE, WAKE_TIMER_MATCH and
BRIDGE_ACCESS_TIMEOUT. A sleep request lets a running island drain, or wait for the level change in progress; one an island
does not allow keeps its field and raises TARGET_REFUSED. RUN wakes an island in S1 and begins a cold reset of one in S2. A
drained island enters the sleep asked for, losing its content in S2; the drain limit ends the work it holds. A level source
and the timer wake an island in S1, and the wake is shown. Accesses held at a bridge end when the clock does not return,
else the island takes them. -/
def Obligations.IslandsSleepAndWake : Prop :=
  (∀ (s : State) (m : Master) (v : Word) (rivals : List Req) (i : Island), s.grants .isl 0x48 m v rivals → s.asksOnly v i →
    (s.island i).awake = true → (s.island i).entry = .none → asked v i = 2 ∨ (asked v i = 3 ∧ 4 ≤ i.num ∧ i.num ≤ 11) →
    ∃ t, exec (.islSleepRequest m v rivals) s = .next t ∧
      t.island i = { s.island i with entry := if s.clk.change.isSome && decide (4 ≤ i.num ∧ i.num ≤ 13) then .waiting else .draining, toOff := decide (asked v i = 3), latched := 0 } ∧
      (∀ j, j ≠ i → t.island j = s.island j) ∧ t.target i.num = asked v i ∧
      s.keepsRegs t ((.isl, 0x48) :: (.isl, 0x2C) :: discardRegs .isl) ∧ s.keeps t [.regs, .isl, .log, .host, .out]) ∧
  (∀ (s : State) (m : Master) (v : Word) (rivals : List Req) (i : Island), s.grants .isl 0x48 m v rivals → s.asksOnly v i →
    asked v i = 1 ∨ (asked v i = 3 ∧ ¬ (4 ≤ i.num ∧ i.num ≤ 11)) →
    ∃ t, exec (.islSleepRequest m v rivals) s = .next t ∧ t.target i.num = s.target i.num ∧ bitOn (t.reg .isl 0x10) 2 = true ∧
      s.keepsRegs t ((.isl, 0x48) :: (.isl, 0x2C) :: eventRegs .isl ++ discardRegs .isl) ∧ s.keeps t [.regs, .log, .host, .out]) ∧
  (∀ (s : State) (m : Master) (v : Word) (rivals : List Req) (i : Island), s.grants .isl 0x48 m v rivals → s.asksOnly v i →
    asked v i = 0 → (s.island i).mode = .retain → (s.island i).entry = .none → (s.island i).cold = false →
    ∃ t, exec (.islRunRequest m v rivals) s = .next t ∧ s.woken t i 0 ∧ t.target i.num = 0 ∧
      s.keepsRegs t ((.isl, 0x48) :: (.isl, 0x78) :: (.isl, 0x2C) :: levelRegs ++ eventRegs .isl ++ discardRegs .isl) ∧
      s.keeps t [.regs, .isl, .clk, .log, .host, .out]) ∧
  (∀ (s : State) (m : Master) (v : Word) (rivals : List Req) (c : Fin 8), s.grants .isl 0x48 m v rivals →
    s.asksOnly v (.nyc c) → asked v (.nyc c) = 0 → (s.island (.nyc c)).mode = .off → (s.island (.nyc c)).entry = .none →
    (s.island (.nyc c)).cold = false →
    ∃ t, exec (.islRunRequest m v rivals) s = .next t ∧ (t.island (.nyc c)).cold = true ∧ s.onlyIsland t (.nyc c)) ∧
  (∀ (s : State) (i : Island), (s.island i).entry = .draining → s.holdsWork i = false →
    ∃ t, exec (.islSleepEnter i) s = .next t ∧ t.island i = { s.island i with entry := .window } ∧
      (∀ j, j ≠ i → t.island j = s.island j) ∧ s.keeps t [.isl]) ∧
  (∀ (s : State) (i : Island), (s.island i).entry = .draining → s.holdsWork i = true →
    exec (.islSleepEnter i) s = .next s) ∧
  (∀ (s : State) (i : Island), (s.island i).entry = .window → (s.island i).toOff = false → s.wakeRow i = none →
    s.target i.num ≠ 0 →
    ∃ t, exec (.islSleepEnter i) s = .next t ∧ (t.island i).mode = .retain ∧ (t.island i).entry = .none ∧
      bitOn (t.reg .isl 0x10) 0 = true ∧ s.onlyIsland t i ∧ s.keepsRegs t (levelRegs ++ eventRegs .isl) ∧
      s.keeps t [.regs, .isl, .clk, .log, .host, .out]) ∧
  (∀ (s : State) (c : Fin 8), (s.island (.nyc c)).entry = .window → (s.island (.nyc c)).toOff = true →
    s.target (Island.nyc c).num ≠ 0 →
    ∃ t, exec (.islSleepEnter (.nyc c)) s = .next t ∧ (t.island (.nyc c)).mode = .off ∧ (t.island (.nyc c)).entry = .none ∧
      bitOn (t.reg .isl 0x10) 0 = true ∧ (∀ off, t.reg (.nyc c) off = resetWord (.nyc c) off) ∧
      (∀ k, k < 128 → t.thread c.val k = Thread.reset) ∧ s.onlyIsland t (.nyc c) ∧
      s.keeps t [.regs, .locks, .snaps, .held, .isl, .clk, .nyate, .log, .host, .out]) ∧
  (∀ (s : State) (i : Island), (s.island i).entry = .draining →
    ∃ t, exec (.drainLimitExpiry i) s = .next t ∧ t.island i = { s.island i with entry := .window } ∧
      (∀ j, j ≠ i → t.island j = s.island j) ∧ (∀ x ∈ t.frames, x.inside i = false) ∧ t.saf = s.saf ∧ t.clk = s.clk ∧
      t.tbl = s.tbl ∧ t.nyate = s.nyate) ∧
  (∀ (s : State) (i : Island) (row : Fin 7), s.levelRow i row.val = true → (s.island i).mode = .retain →
    (s.island i).entry = .none →
    ∃ t, exec (.islWake i row) s = .next t ∧ s.woken t i row.val ∧
      s.keepsRegs t ((.isl, 0x78) :: levelRegs ++ eventRegs .isl) ∧ s.keeps t [.regs, .isl, .clk, .log, .host, .out]) ∧
  (∀ (s : State) (i : Island) (row : Fin 7), s.levelRow i row.val = false → exec (.islWake i row) s = .next s) ∧
  (∀ s : State, s.timerReached &&& ~~~s.clk.timerMatched ≠ 0 → bitOn (s.reg .isl 0x68) 15 = true →
    ∃ t, exec .wakeTimerMatch s = .next t ∧ bitOn (t.reg .isl 0x78) 0 = true ∧ t.clk = { s.clk with timerMatched := s.timerReached } ∧
      s.keepsRegs t [(.isl, 0x78)] ∧ s.keeps t [.regs, .clk]) ∧
  (∀ (s : State) (i : Island), 3 ≤ i.num → i.num ≤ 14 → s.timerReached = bit (i.num - 3) → s.clk.timerMatched = 0 →
    bitOn (s.reg .isl 0x68) 15 = false → (s.island i).mode = .retain → (s.island i).entry = .none →
    ∃ t, exec .wakeTimerMatch s = .next t ∧ s.woken t i 4 ∧ s.keepsRegs t ((.isl, 0x78) :: levelRegs ++ eventRegs .isl) ∧
      s.keeps t [.regs, .isl, .clk, .log, .host, .out]) ∧
  (∀ s : State, s.ptp.time < s.reg64 .isl 0x70 →
    ∃ t, exec .wakeTimerMatch s = .next t ∧ t.clk = { s.clk with timerMatched := 0 } ∧ s.keeps t [.clk]) ∧
  (∀ (s : State) (p : Page) (r : Req) (l : List Req), ((s.held.filter (fun h => h.page = p)).map (·.reqs)).flatten = r :: l →
    (s.island (accessIsland p r.off.toNat)).noClock = true → (∀ x ∈ r :: l, x.isRead = false) →
    ∃ t, exec (.bridgeAccessTimeout p) s = .next t ∧ t.held = s.held.filter (fun h => h.page ≠ p) ∧
      t.field .isl 0x64 31 0 = (s.field .isl 0x64 31 0 + (r :: l).length) % 2 ^ 32 ∧ s.keepsRegs t [(.isl, 0x64)] ∧
      s.keeps t [.regs, .held]) ∧
  (∀ (s : State) (p : Page) (r : Req), ((s.held.filter (fun h => h.page = p)).map (·.reqs)).flatten = [r] →
    (s.island (accessIsland p r.off.toNat)).noClock = true → r.isRead = true →
    ∃ t, exec (.bridgeAccessTimeout p) s = .next t ∧ t.out = List.replicate ((r.width + 3) / 4) (.data r.master 0) ++ s.out ∧
      t.held = s.held.filter (fun h => h.page ≠ p) ∧ s.keepsRegs t [(.isl, 0x64)] ∧ s.keeps t [.regs, .held, .out]) ∧
  (∀ (s : State) (p : Page) (r : Req) (l : List Req) (gs : List (List Req)),
    (s.held.filter (fun h => h.page = p)).map (·.reqs) = (r :: l) :: gs →
    (s.island (accessIsland p r.off.toNat)).noClock = false →
    ∃ u, exec (.registerWrite p ⟨(r :: l), []⟩) { s with held := s.held.filter (fun h => h.page ≠ p) } = .next u ∧
      exec (.bridgeAccessTimeout p) s = .next (gs.foldl (fun v g => v.settle p g) u)) ∧
  (∀ (s : State) (p : Page), (∀ h ∈ s.held, h.page ≠ p) → exec (.bridgeAccessTimeout p) s = .next s)

/-- PL_CHANGE_REQUEST, REGULATOR_STEP, REGULATOR_STEP_FAIL, REG_FAULT_SHUTDOWN, PLL_CHANGE_DONE, CLK_SWITCH and the clock and
watchdog events. A level written is stored, at most 4, and a change begins where a running island has another; under
REG_FAULT it is ignored. A rail step that is done shows its voltage and the next begins; the last sets RAIL_PL. A failed
step returns the rail and the levels and tells why; a failed revert is REG_FAULT, after which every running variable island
drains to S2. A clock switch completes while both clocks run and hangs otherwise. A lost reference or PLL stops the clocks
that come from it. The monitor's bit stands after four windows with an edge. The watchdog restarts the unit with CAUSE 3. -/
def Obligations.LevelsRailsAndClocks : Prop :=
  (∀ (s : State) (pl1 : Bool) (m : Master) (v : Word) (rivals : List Req), s.grants .isl (if pl1 then 0x50 else 0x4C) m v rivals →
    s.regFault = false →
    ∃ t, exec (.plChangeRequest pl1 m v rivals) s = .next t ∧
      (pl1 = false → ∀ j, j < 8 → t.levelReq j = min 4 (fld v (4 * j + 2) (4 * j))) ∧
      (pl1 = true → t.levelReq 8 = min 4 (fld v 2 0) ∧ t.levelReq 9 = min 4 (fld v 6 4)) ∧
      (s.clk.change = none → (∃ j, j < 10 ∧ s.varAwake j = true ∧ s.level j ≠ t.levelReq j) → t.clk.change.isSome = true) ∧
      (s.clk.change.isSome = true → t.clk = s.clk) ∧ t.clk.levels = s.clk.levels ∧
      (∀ i, (t.island i).mode = (s.island i).mode) ∧
      s.keepsRegs t ((.isl, 0x4C) :: (.isl, 0x2C) :: levelRegs ++ discardRegs .isl) ∧
      s.keeps t [.regs, .isl, .clk, .log, .host, .out]) ∧
  (∀ (s : State) (pl1 : Bool) (m : Master) (v : Word) (rivals : List Req), s.grants .isl (if pl1 then 0x50 else 0x4C) m v rivals →
    s.regFault = true →
    ∃ t, exec (.plChangeRequest pl1 m v rivals) s = .next t ∧ s.keepsRegs t ((.isl, 0x2C) :: discardRegs .isl) ∧
      s.keeps t [.regs, .log, .host, .out]) ∧
  (∀ (s : State) (mv pl : Nat) (c : LvlChange) (r : List LvlStep), s.clk.change = some c →
    c.todo = .sram pl :: .core pl :: r →
    ∃ t, exec (.regulatorStep mv) s = .next t ∧ t.field .pwr 0x84 15 0 = mv % 65536 ∧ bitOn (t.reg .pwr 0x88) 1 = true ∧
      t.field .pwr 0x80 31 16 = coreMv pl ∧ bitOn (t.reg .pwr 0x88) 2 = true ∧ t.railPl = s.railPl ∧
      t.clk = { s.clk with change := some { c with todo := .core pl :: r, done := c.done ++ [.sram s.railPl] } } ∧
      s.keepsRegs t [(.pwr, 0x80), (.pwr, 0x84), (.pwr, 0x88)] ∧ s.keeps t [.regs, .clk]) ∧
  (∀ (s : State) (mv pl : Nat) (c : LvlChange), s.clk.change = some c → c.todo = [.core pl] → pl ≤ 4 →
    ∃ t, exec (.regulatorStep mv) s = .next t ∧ t.field .pwr 0x80 15 0 = mv % 65536 ∧ bitOn (t.reg .pwr 0x88) 0 = true ∧
      t.railPl = pl ∧ t.clk.levels = s.clk.levels ∧ s.keepsRegs t levelRegs ∧ s.keeps t [.regs, .isl, .clk]) ∧
  (∀ (s : State) (noAck : Bool) (pl : Nat) (c : LvlChange) (r : List LvlStep), s.clk.change = some c → c.todo = .sram pl :: r →
    s.regFault = false →
    ∃ t, exec (.regulatorStepFail noAck false) s = .next t ∧ t.field .pwr 0x88 7 4 = (if noAck then 1 else 2) ∧
      bitOn (t.reg .pwr 0x88) 8 = true ∧ t.field .pwr 0x88 31 16 = (s.field .pwr 0x88 31 16 + 1) % 65536 ∧
      t.field .pwr 0x84 15 0 = sramMv s.railPl ∧ t.clk.levels = c.levelsWas ∧ bitOn (t.reg .pwr 0x10) 10 = true ∧
      s.keepsRegs t ((.isl, 0x4C) :: levelRegs ++ eventRegs .pwr) ∧ s.keeps t [.regs, .isl, .clk, .log, .host, .out]) ∧
  (∀ (s : State) (noAck : Bool) (pl : Nat) (c : LvlChange) (r : List LvlStep), s.clk.change = some c → c.todo = .core pl :: r →
    ∃ t, exec (.regulatorStepFail noAck true) s = .next t ∧ t.regFault = true ∧ t.field .pwr 0x88 7 4 = 3 ∧
      bitOn (t.reg .pwr 0x88) 0 = false ∧ t.clk.change = none ∧ t.clk.levels = List.replicate 10 0 ∧
      bitOn (t.reg .pwr 0x10) 11 = true ∧ s.keepsRegs t ((.isl, 0x4C) :: levelRegs ++ eventRegs .pwr) ∧
      s.keeps t [.regs, .isl, .clk, .log, .host, .out]) ∧
  (∀ s : State, s.regFault = true → s.field .pwr 0x88 1 0 ≠ 3 →
    ∃ t, exec .regFaultShutdown s = .next t ∧
      (∀ j, j < 10 → s.varAwake j = true → (s.island (islandOf (varNum j))).entry = .none →
        (t.island (islandOf (varNum j))).entry = .draining ∧ (t.island (islandOf (varNum j))).toOff = true) ∧
      (∀ j, j < 10 → (s.island (islandOf (varNum j))).mode = .retain → (s.island (islandOf (varNum j))).entry = .none →
        (t.island (islandOf (varNum j))).mode = .off) ∧
      (∀ i : Island, ¬ (4 ≤ i.num ∧ i.num ≤ 13) → t.island i = s.island i) ∧ t.saf = s.saf ∧ t.clk = s.clk) ∧
  (∀ s : State, s.field .pwr 0x88 1 0 = 3 → exec .regFaultShutdown s = .next s) ∧
  (∀ (s : State) (c : LvlChange) (j pl : Nat) (r : List LvlStep), s.clk.change = some c → c.todo = .island j pl :: r →
    s.muxBusy (varNum j) = false → s.clk.refLost = false →
    ∃ t, exec .pllChangeDone s = .next t ∧ t.level j = pl ∧ (∀ k, k ≠ j → t.level k = s.level k) ∧
      (∀ i, (t.island i).mode = (s.island i).mode) ∧ s.keepsRegs t levelRegs ∧ s.keeps t [.regs, .isl, .clk]) ∧
  (∀ (s : State) (i : Fin 16) (pll : Bool), bitOn (s.reg .clk 0x44) i.val = !pll →
    bitOn (s.reg .clk 0x40) (if pll then 31 else i.val) = true → s.muxBusy i.val = false →
    (s.island (islandOf i.val)).cold = false → (s.island (islandOf i.val)).noClock = false → s.sourceOk i.val pll = true →
    ∃ t, exec (.clkSwitch i pll) s = .next t ∧ bitOn (t.reg .clk 0x44) i.val = pll ∧
      (∀ k, k ≠ i.val → bitOn (t.reg .clk 0x44) k = bitOn (s.reg .clk 0x44) k) ∧
      (t.island (islandOf i.val)).noClock = false ∧ s.onlyIsland t (islandOf i.val) ∧ s.keepsRegs t [(.clk, 0x44)] ∧
      s.keeps t [.regs, .isl]) ∧
  (∀ (s : State) (i : Fin 16) (pll : Bool), bitOn (s.reg .clk 0x44) i.val = !pll →
    bitOn (s.reg .clk 0x40) (if pll then 31 else i.val) = true → s.muxBusy i.val = false →
    (s.island (islandOf i.val)).cold = false → s.sourceOk i.val pll = false →
    ∃ t, exec (.clkSwitch i pll) s = .next t ∧ t.muxBusy i.val = true ∧ (t.island (islandOf i.val)).noClock = true ∧
      s.keepsRegs t [(.clk, 0x48)] ∧ s.keeps t [.regs, .isl]) ∧
  (∀ (s : State) (i : Fin 16), s.muxBusy i.val = true → bitOn (s.reg .clk 0x50) i.val = false →
    ∃ t, exec (.muxStuck i) s = .next t ∧ bitOn (t.reg .clk 0x4C) i.val = true ∧ bitOn (t.reg .clk 0x10) 0 = true ∧
      s.keepsRegs t ((.clk, 0x4C) :: eventRegs .clk) ∧ s.keeps t [.regs, .log, .host, .out]) ∧
  (∀ (s : State) (i : Fin 16), s.muxBusy i.val = true → bitOn (s.reg .clk 0x50) i.val = true → 2 ≤ i.val →
    (s.island (islandOf i.val)).noClock = true →
    ∃ t, exec (.muxStuck i) s = .next t ∧ bitOn (t.reg .clk 0x4C) i.val = true ∧ (t.island (islandOf i.val)).cold = true ∧
      t.muxBusy i.val = false ∧ t.saf = s.saf) ∧
  (∀ s : State, s.clk.refLost = false →
    ∃ t, exec .refLost s = .next t ∧ t.clk = { s.clk with refLost := true } ∧
      (∀ i, i < 16 → (t.island (islandOf i)).noClock = true) ∧ t.island .mgt = s.island .mgt ∧ t.island .saf = s.island .saf ∧
      bitOn (t.reg .clk 0x10) 1 = true ∧ bitOn (t.reg .clk 0x10) 2 = true ∧ s.keepsRegs t ((.clk, 0x54) :: eventRegs .clk) ∧
      s.keeps t [.regs, .isl, .clk, .log, .host, .out]) ∧
  (∀ (s : State) (i : Fin 16),
    ∃ t, exec (.pllUnlock i) s = .next t ∧ bitOn t.clk.pllLost i.val = true ∧
      (bitOn (s.reg .clk 0x44) i.val = true → (t.island (islandOf i.val)).noClock = true) ∧
      s.onlyIsland t (islandOf i.val) ∧ t.reg .clk 0x54 = s.reg .clk 0x54 + 1 ∧ bitOn (t.reg .clk 0x10) 1 = true ∧
      s.keepsRegs t ((.clk, 0x54) :: eventRegs .clk) ∧ s.keeps t [.regs, .isl, .clk, .log, .host, .out]) ∧
  (∀ (s : State) (edges : Word),
    ∃ t, exec (.clkMonitorWindow edges) s = .next t ∧
      (∀ i, i < 16 ∨ i = 31 → bitOn (t.reg .clk 0x40) i = (bitOn edges i && s.clk.wins.all (fun w => bitOn w i))) ∧
      t.clk.wins = edges :: s.clk.wins.take 2 ∧ (∀ i, (t.island i).mode = (s.island i).mode) ∧
      s.keepsRegs t [(.clk, 0x40)] ∧ s.keeps t [.regs, .isl, .clk]) ∧
  (∀ s : State, s.pwr.started = true →
    ∃ t, exec .mgtWatchdogExpiry s = .next t ∧ bitOn (t.reg .unit 0x50) 0 = true ∧ t.field .unit 0x50 23 20 = 6 ∧
      t.field .unit 0x50 15 8 = 3 ∧ bitOn (t.reg .unit 0x50) 2 = true ∧ bitOn (t.reg .mgt 0x10) 7 = true ∧ t.krds = [] ∧
      t.saf = s.saf)

/-- UP, DOWN, MUP and MDOWN SEND and ACK, TO_SUP and FROM_SUP SEND and ACK. A SEND by a direction's sender sets FULL where it is
0, and is counted where it is 1; an ACK by its receiver clears FULL; every other bit keeps its value. The management
controller answers a sensor request it takes with the sensors. A supervisor mailbox works the same, between the overseers
and the cluster's supervisor. -/
def Obligations.MailboxesSetAndClearFull : Prop :=
  (∀ (s : State) (f : Fin 1024) (rivals : List Req), s.grants (.mbx f) 0x44 (Master.ofFunc f) (bit 0) rivals → f.val ≠ 0 →
    s.boxFull f 0 = false →
    ∃ t, exec (.upSend f (Master.ofFunc f) rivals) s = .next t ∧ t.reg (.mbx f) 0x40 = putBit (s.reg (.mbx f) 0x40) 0 true ∧
      s.keepsRegs t ((.mbx f, 0x40) :: (.mbx f, 0x2C) :: discardRegs (.mbx f)) ∧ s.keeps t [.regs, .log, .host, .out]) ∧
  (∀ (s : State) (f : Fin 1024) (rivals : List Req), s.grants (.mbx f) 0x44 (Master.ofFunc f) (bit 0) rivals → f.val ≠ 0 →
    s.boxFull f 0 = true →
    ∃ t, exec (.upSend f (Master.ofFunc f) rivals) s = .next t ∧ t.reg (.mbx f) 0x48 = s.reg (.mbx f) 0x48 + 1 ∧
      s.keepsRegs t ((.mbx f, 0x48) :: (.mbx f, 0x2C) :: discardRegs (.mbx f)) ∧ s.keeps t [.regs, .log, .host, .out]) ∧
  (∀ (s : State) (f : Fin 1024) (rivals : List Req), s.grants (.mbx f) 0x44 .pf0 (bit 1) rivals → f.val ≠ 0 →
    s.boxFull f 0 = true →
    ∃ t, exec (.upAck f .pf0 rivals) s = .next t ∧ t.reg (.mbx f) 0x40 = putBit (s.reg (.mbx f) 0x40) 0 false ∧
      s.keepsRegs t ((.mbx f, 0x40) :: (.mbx f, 0x2C) :: discardRegs (.mbx f)) ∧ s.keeps t [.regs, .log, .host, .out]) ∧
  (∀ (s : State) (f : Fin 1024) (rivals : List Req), s.grants (.mbx f) 0x44 .pf0 (bit 2) rivals → f.val ≠ 0 →
    s.boxFull f 1 = false →
    ∃ t, exec (.downSend f .pf0 rivals) s = .next t ∧ t.reg (.mbx f) 0x40 = putBit (s.reg (.mbx f) 0x40) 1 true ∧
      s.keepsRegs t ((.mbx f, 0x40) :: (.mbx f, 0x2C) :: discardRegs (.mbx f)) ∧ s.keeps t [.regs, .log, .host, .out]) ∧
  (∀ (s : State) (f : Fin 1024) (rivals : List Req), s.grants (.mbx f) 0x44 (Master.ofFunc f) (bit 3) rivals → f.val ≠ 0 →
    s.boxFull f 1 = true →
    ∃ t, exec (.downAck f (Master.ofFunc f) rivals) s = .next t ∧ t.reg (.mbx f) 0x40 = putBit (s.reg (.mbx f) 0x40) 1 false ∧
      s.keepsRegs t ((.mbx f, 0x40) :: (.mbx f, 0x2C) :: discardRegs (.mbx f)) ∧ s.keeps t [.regs, .log, .host, .out]) ∧
  (∀ (s : State) (f : Fin 1024) (rivals : List Req), s.grants (.mbx f) 0x44 (Master.ofFunc f) (bit 4) rivals → f.val < 4 →
    s.boxFull f 2 = false →
    ∃ t, exec (.mupSend f (Master.ofFunc f) rivals) s = .next t ∧ t.reg (.mbx f) 0x40 = putBit (s.reg (.mbx f) 0x40) 2 true ∧
      s.keepsRegs t ((.mbx f, 0x40) :: (.mbx f, 0x2C) :: discardRegs (.mbx f)) ∧ s.keeps t [.regs, .log, .host, .out]) ∧
  (∀ (s : State) (f : Fin 1024) (rivals : List Req), s.grants (.mbx f) 0x44 .mgt (bit 5) rivals → f.val < 4 →
    s.boxFull f 2 = true → s.reg (.mbx f) 0x100 ≠ 3 →
    ∃ t, exec (.mupAck f .mgt rivals) s = .next t ∧ t.reg (.mbx f) 0x40 = putBit (s.reg (.mbx f) 0x40) 2 false ∧
      s.keepsRegs t ((.mbx f, 0x40) :: (.mbx f, 0x2C) :: discardRegs (.mbx f)) ∧ s.keeps t [.regs, .log, .host, .out]) ∧
  (∀ (s : State) (f : Fin 1024) (rivals : List Req), s.grants (.mbx f) 0x44 .mgt (bit 5) rivals → f.val < 4 →
    s.boxFull f 2 = true → s.reg (.mbx f) 0x100 = 3 → s.boxFull f 3 = false → s.runs .host = true →
    bitOn (s.reg .hlnk 0x4C) f.val = false →
    ∃ t, exec (.mupAck f .mgt rivals) s = .next t ∧ t.boxFull f 2 = false ∧ t.boxFull f 3 = true ∧ t.reg (.mbx f) 0x140 = 4 ∧
      (∀ i, i < 15 → t.reg (.mbx f) (0x144 + 4 * i) = s.reg .mgt (0x60 + 4 * i)) ∧
      s.keepsRegs t ((List.range 16).map (fun i => (Page.mbx f, 0x140 + 4 * i)) ++ (.mbx f, 0x40) :: (.mbx f, 0x2C) :: discardRegs (.mbx f)) ∧
      s.keeps t [.regs, .log, .host, .out]) ∧
  (∀ (s : State) (f : Fin 1024) (rivals : List Req), s.grants (.mbx f) 0x44 .mgt (bit 6) rivals → f.val < 4 →
    s.boxFull f 3 = false → bitOn (s.reg .hlnk 0x4C) f.val = false →
    ∃ t, exec (.mdownSend f .mgt rivals) s = .next t ∧ t.reg (.mbx f) 0x40 = putBit (s.reg (.mbx f) 0x40) 3 true ∧
      s.keepsRegs t ((.mbx f, 0x40) :: (.mbx f, 0x2C) :: discardRegs (.mbx f)) ∧ s.keeps t [.regs, .log, .host, .out]) ∧
  (∀ (s : State) (f : Fin 1024) (rivals : List Req), s.grants (.mbx f) 0x44 (Master.ofFunc f) (bit 7) rivals → f.val < 4 →
    s.boxFull f 3 = true →
    ∃ t, exec (.mdownAck f (Master.ofFunc f) rivals) s = .next t ∧ t.reg (.mbx f) 0x40 = putBit (s.reg (.mbx f) 0x40) 3 false ∧
      s.keepsRegs t ((.mbx f, 0x40) :: (.mbx f, 0x2C) :: discardRegs (.mbx f)) ∧ s.keeps t [.regs, .log, .host, .out]) ∧
  (∀ (s : State) (c : Fin 8) (m : Master) (rivals : List Req), s.grants (.nyc c) 0x204 m (bit 0) rivals → m.overseer = true →
    ∃ t, exec (.toSupSend c m rivals) s = .next t ∧ t.reg (.nyc c) 0x200 = putBit (s.reg (.nyc c) 0x200) 0 true ∧
      s.keepsRegs t ((.nyc c, 0x200) :: (.nyc c, 0x2C) :: discardRegs (.nyc c)) ∧ s.keeps t [.regs, .log, .host, .out]) ∧
  (∀ (s : State) (c : Fin 8) (rivals : List Req), s.grants (.nyc c) 0x204 (.nyate c) (bit 1) rivals →
    ∃ t, exec (.toSupAck c (.nyate c) rivals) s = .next t ∧ t.reg (.nyc c) 0x200 = putBit (s.reg (.nyc c) 0x200) 0 false ∧
      s.keepsRegs t ((.nyc c, 0x200) :: (.nyc c, 0x2C) :: discardRegs (.nyc c)) ∧ s.keeps t [.regs, .log, .host, .out]) ∧
  (∀ (s : State) (c : Fin 8) (rivals : List Req), s.grants (.nyc c) 0x204 (.nyate c) (bit 2) rivals →
    ∃ t, exec (.fromSupSend c (.nyate c) rivals) s = .next t ∧ t.reg (.nyc c) 0x200 = putBit (s.reg (.nyc c) 0x200) 1 true ∧
      s.keepsRegs t ((.nyc c, 0x200) :: (.nyc c, 0x2C) :: discardRegs (.nyc c)) ∧ s.keeps t [.regs, .log, .host, .out]) ∧
  (∀ (s : State) (c : Fin 8) (m : Master) (rivals : List Req), s.grants (.nyc c) 0x204 m (bit 3) rivals → m.overseer = true →
    ∃ t, exec (.fromSupAck c m rivals) s = .next t ∧ t.reg (.nyc c) 0x200 = putBit (s.reg (.nyc c) 0x200) 1 false ∧
      s.keepsRegs t ((.nyc c, 0x200) :: (.nyc c, 0x2C) :: discardRegs (.nyc c)) ∧ s.keeps t [.regs, .log, .host, .out]) ∧
  (∀ (s : State) (c : Fin 8) (m : Master) (rivals : List Req), s.grants (.nyc c) 0x204 m (bit 0) rivals → m.overseer = false →
    ∃ t, exec (.toSupSend c m rivals) s = .next t ∧ s.keepsRegs t ((.nyc c, 0x2C) :: discardRegs (.nyc c)) ∧
      s.keeps t [.regs, .log, .host, .out])

/-- SENSOR_SAMPLE, LID_OPEN, METER_COVER, LOG_READ_SELECT, the image commands and TRIAL_EXPIRED. A sample is stored; one beyond
its limit raises its event once. A critical temperature puts every level field to 0. A selected log record that is still
held is shown. BEGIN, WRITE, VERIFY, TRIAL, CONFIRM, CONFIRM_RAISE, ABORT and KEYS with the KEY do what their table says to
the image sets, the rollback counter and the keys and answer their result, WRITE and KEYS once their host read has ended; a
command whose condition fails answers 1 and changes no set. An expired trial timer restarts the unit with CAUSE 3. -/
def Obligations.SensorsLogAndImages : Prop :=
  (∀ (s : State) (k : Fin 32) (v w : Nat), s.pwr.started = true → k.val < 12 → v < 2 ^ 16 → s.sens.hot = false →
    signed16 v < signed16 (s.field .mgt 0x90 31 16) → signed16 (s.field .mgt 0x90 15 0) ≤ signed16 v →
    ∃ t, exec (.sensorSample k v w) s = .next t ∧ t.field .mgt (0x60 + 4 * k.val) 15 0 = v ∧ k.val ∈ t.sens.crossed ∧
      (k.val ∉ s.sens.crossed → bitOn (t.reg .mgt 0x10) 0 = true) ∧ t.sens.hot = false ∧
      s.keepsRegs t ((.mgt, 0x60 + 4 * k.val) :: eventRegs .mgt) ∧ s.keeps t [.regs, .sens, .log, .host, .out]) ∧
  (∀ (s : State) (k : Fin 32) (v w : Nat), s.pwr.started = true → k.val < 12 → v < 2 ^ 16 →
    signed16 (s.field .mgt 0x90 31 16) ≤ signed16 v → s.regFault = false → s.lockOf .isl = none →
    ∃ t, exec (.sensorSample k v w) s = .next t ∧ t.field .mgt (0x60 + 4 * k.val) 15 0 = v ∧ t.sens.hot = true ∧
      (16 + k.val ∉ s.sens.crossed → bitOn (t.reg .mgt 0x10) 1 = true) ∧ (∀ j, j < 10 → t.levelReq j = 0)) ∧
  (∀ (s : State) (k : Fin 32) (v w : Nat), s.pwr.started = true → 12 ≤ k.val → k.val < 28 → v < 2 ^ 16 →
    (k.val = 19 ∨ k.val = 20 → s.clk.change = none) → 5 * w < 100 * (max v w - min v w) → 20 + k.val ∉ s.sens.crossed →
    ∃ t, exec (.sensorSample k v w) s = .next t ∧ t.field .mgt (0xA0 + 4 * (k.val - 12)) 15 0 = v ∧
      bitOn (t.reg .mgt 0x10) 2 = true ∧ s.keepsRegs t ((.mgt, 0xA0 + 4 * (k.val - 12)) :: eventRegs .mgt) ∧
      s.keeps t [.regs, .sens, .log, .host, .out]) ∧
  (∀ (s : State) (k : Fin 32) (v w : Nat), s.pwr.started = true → k.val = 28 → v < 1024 → w < 4 →
    ∃ t, exec (.sensorSample k v w) s = .next t ∧ t.field .mgt 0xE0 9 0 = v ∧ t.field .mgt 0xE0 25 24 = w ∧
      (900 ≤ v → 48 ∉ s.sens.crossed → bitOn (t.reg .mgt 0x10) 3 = true) ∧
      (1 ≤ w → 49 ∉ s.sens.crossed → bitOn (t.reg .mgt 0x10) 3 = true) ∧
      s.keepsRegs t ((.mgt, 0xE0) :: eventRegs .mgt) ∧ s.keeps t [.regs, .sens, .log, .host, .out]) ∧
  (∀ (s : State) (k : Fin 32) (v w : Nat), s.pwr.started = true → k.val = 29 → v < 2 ^ 16 → w < 2 ^ 16 →
    ∃ t, exec (.sensorSample k v w) s = .next t ∧ t.field .mgt 0xE4 31 16 = max (s.field .mgt 0xE4 31 16) v ∧
      t.field .mgt 0xE4 15 0 = w ∧ (s.field .mgt 0xE8 15 0 < v → 50 ∉ s.sens.crossed → bitOn (t.reg .mgt 0x10) 4 = true) ∧
      s.keepsRegs t ((.mgt, 0xE4) :: eventRegs .mgt) ∧ s.keeps t [.regs, .sens, .log, .host, .out]) ∧
  (∀ (s : State) (k : Fin 32) (v w : Nat), s.pwr.started = false → exec (.sensorSample k v w) s = .next s) ∧
  (∀ s : State, s.pwr.started = true → bitOn (s.reg .mgt 0xEC) 0 = false →
    ∃ t, exec .lidOpen s = .next t ∧ bitOn (t.reg .mgt 0xEC) 0 = true ∧
      t.field .mgt 0xEC 31 16 = (s.field .mgt 0xEC 31 16 + 1) % 65536 ∧
      t.fram = { s.fram with lidCount := t.field .mgt 0xEC 31 16 } ∧ bitOn (t.reg .mgt 0x10) 5 = true ∧
      s.keepsRegs t ((.mgt, 0xEC) :: eventRegs .mgt) ∧ s.keeps t [.regs, .fram, .log, .host, .out]) ∧
  (∀ (s : State) (opened : Bool), s.pwr.started = true → bitOn (s.reg .mgt 0xEC) 1 ≠ opened →
    ∃ t, exec (.meterCover opened) s = .next t ∧ bitOn (t.reg .mgt 0xEC) 1 = opened ∧ bitOn (t.reg .mgt 0x10) 6 = true ∧
      s.keepsRegs t ((.mgt, 0xEC) :: eventRegs .mgt) ∧ s.keeps t [.regs, .log, .host, .out]) ∧
  (∀ (s : State) (m : Master) (v : Word) (rivals : List Req) (r : LogRec), s.grants .log 0x50 m v rivals → s.logRecord v = some r →
    ∃ t, exec (.logReadSelect m v rivals) s = .next t ∧ t.reg .log 0x50 = v ∧ t.reg .log 0x54 = 1 ∧
      (∀ i, i < 8 → t.reg .log (0x60 + 4 * i) = word (leAt r.bytes (4 * i) 4)) ∧
      s.keepsRegs t ((List.range 8).map (fun i => (Page.log, 0x60 + 4 * i)) ++ (.log, 0x50) :: (.log, 0x54) :: (.log, 0x2C) :: discardRegs .log) ∧
      s.keeps t [.regs, .log, .host, .out]) ∧
  (∀ (s : State) (m : Master) (v : Word) (rivals : List Req), s.grants .log 0x50 m v rivals → s.logRecord v = none →
    ∃ t, exec (.logReadSelect m v rivals) s = .next t ∧ t.reg .log 0x50 = v ∧ t.reg .log 0x54 = 2 ∧
      s.keepsRegs t ((.log, 0x50) :: (.log, 0x54) :: (.log, 0x2C) :: discardRegs .log) ∧ s.keeps t [.regs, .log, .host, .out]) ∧
  (∀ (s : State) (m : Master) (v : Word) (rivals : List Req), s.grants .img 0x44 m (setFld v 3 0 1) rivals → s.imgKeyed m v →
    bitOn v 8 ≠ s.boot.activeB → s.boot.trial = false → s.inU2 = false → s.boot.write = none →
    ∃ t, exec (.imgBegin m v rivals) s = .next t ∧ t.boot = s.boot.putOther { st := 2, ver := 0, sigOk := false, data := [] } ∧
      s.imgAnswers t 0 ∧ s.keeps t [.regs, .boot, .log, .host, .out]) ∧
  (∀ (s : State) (m : Master) (v : Word) (data : List Byte) (rivals : List Req), s.grants .img 0x44 m (setFld v 3 0 2) rivals →
    s.imgKeyed m v → bitOn v 8 ≠ s.boot.activeB → s.boot.other.st = 1 → s.inU2 = false → s.boot.write = none →
    s.field .img 0x54 20 0 ≤ 2 ^ 20 → s.field .img 0x50 25 0 + s.field .img 0x54 20 0 ≤ 2 ^ 26 →
    ∃ t, exec (.imgWrite m v data false rivals) s = .next t ∧
      t.boot = { s.boot with write := some (s.field .img 0x50 25 0, slice data 0 (s.field .img 0x54 20 0)) } ∧
      (m ≠ .krds → s.field .img 0x54 20 0 ≠ 0 → t.reading .image = true) ∧
      s.keepsRegs t ((.img, 0x2C) :: discardRegs .img) ∧ s.keeps t [.regs, .boot, .log, .host, .out]) ∧
  (∀ (s : State) (m : Master) (v : Word) (sigs : List Bool) (rivals : List Req) (ver : Nat),
    s.grants .img 0x44 m (setFld v 3 0 3) rivals → s.imgKeyed m v → bitOn v 8 ≠ s.boot.activeB → s.boot.other.st = 1 →
    s.boot.write = none → s.boot.other.verdict sigs s.boot.rollback = .inr ver →
    ∃ t, exec (.imgVerify m v sigs rivals) s = .next t ∧
      t.boot = s.boot.putOther { s.boot.other with st := 3, ver := ver, sigOk := true, key := s.keys.opKey } ∧ s.imgAnswers t 0 ∧
      s.keeps t [.regs, .boot, .log, .host, .out]) ∧
  (∀ (s : State) (m : Master) (v : Word) (sigs : List Bool) (rivals : List Req) (k code : Nat),
    s.grants .img 0x44 m (setFld v 3 0 3) rivals → s.imgKeyed m v → bitOn v 8 ≠ s.boot.activeB → s.boot.other.st = 1 →
    s.boot.write = none → s.boot.other.verdict sigs s.boot.rollback = .inl (k, code) →
    ∃ t, exec (.imgVerify m v sigs rivals) s = .next t ∧ t.boot = s.boot.putOther { s.boot.other with st := 0, sigOk := false } ∧
      s.imgAnswers t (k * 256 + code) ∧ bitOn (t.reg .img 0x10) 1 = true ∧ s.keeps t [.regs, .boot, .log, .host, .out]) ∧
  (∀ (s : State) (m : Master) (v : Word) (rivals : List Req), s.grants .img 0x44 m (setFld v 3 0 4) rivals → s.imgKeyed m v →
    bitOn v 8 ≠ s.boot.activeB → s.boot.other.st = 3 → s.boot.trial = false →
    ∃ t, exec (.imgTrial m v rivals) s = .next t ∧ t.boot.activeB = !s.boot.activeB ∧ t.boot.trial = true ∧ t.boot.tries = 0 ∧
      t.boot.active = { s.boot.other with st := 4 } ∧ t.boot.other = { s.boot.active with st := 3 } ∧
      t.boot.rollback = s.boot.rollback ∧ s.imgAnswers t 0 ∧ s.keeps t [.regs, .boot, .log, .host, .out]) ∧
  (∀ (s : State) (m : Master) (v : Word) (rivals : List Req), s.grants .img 0x44 m (setFld v 3 0 4) rivals → s.imgKeyed m v →
    bitOn v 8 = s.boot.activeB ∨ s.boot.other.st ≠ 3 ∨ s.boot.trial = true →
    ∃ t, exec (.imgTrial m v rivals) s = .next t ∧ s.imgAnswers t 1 ∧ s.keeps t [.regs, .log, .host, .out]) ∧
  (∀ (s : State) (m : Master) (v : Word) (rivals : List Req), s.grants .img 0x44 m (setFld v 3 0 5) rivals → s.imgKeyed m v →
    bitOn v 8 = s.boot.activeB → s.boot.fromTrial = true →
    ∃ t, exec (.imgConfirm m v rivals) s = .next t ∧
      t.boot = { s.boot.putActive { s.boot.active with st := 5 } with trial := false, timer := false, mirror := s.boot.mirror || s.boot.trial } ∧
      s.imgAnswers t 0 ∧
      s.keeps t [.regs, .boot, .log, .host, .out]) ∧
  (∀ (s : State) (m : Master) (v : Word) (rivals : List Req), s.grants .img 0x44 m (setFld v 3 0 6) rivals → s.imgKeyed m v →
    bitOn v 8 = s.boot.activeB → s.boot.fromTrial = true →
    ∃ t, exec (.imgConfirmRaise m v rivals) s = .next t ∧ t.boot.rollback = max s.boot.rollback s.boot.active.ver ∧
      t.boot.active = { s.boot.active with st := 5 } ∧ t.boot.trial = false ∧ t.boot.timer = false ∧
      t.boot.other.st = (if s.boot.other.st = 3 ∧ s.boot.other.ver < t.boot.rollback then 0 else s.boot.other.st) ∧
      t.boot.other.ver = s.boot.other.ver ∧ t.boot.other.data = s.boot.other.data ∧ s.imgAnswers t 0 ∧
      s.keeps t [.regs, .boot, .log, .host, .out]) ∧
  (∀ (s : State) (m : Master) (v : Word) (rivals : List Req), s.grants .img 0x44 m (setFld v 3 0 7) rivals → s.imgKeyed m v →
    bitOn v 8 ≠ s.boot.activeB → s.boot.other.st = 1 →
    ∃ t, exec (.imgAbort m v rivals) s = .next t ∧
      t.boot = { s.boot.putOther { s.boot.other with st := 0 } with write := none } ∧ s.imgAnswers t 0 ∧
      s.keeps t [.regs, .boot, .log, .host, .out]) ∧
  (∀ (s : State) (m : Master) (v : Word) (pkg : List Byte) (sigOk : Bool) (rivals : List Req),
    s.grants .img 0x44 m (setFld v 3 0 8) rivals → s.imgKeyed m v → s.inU2 = false → s.keys.wait = none →
    s.field .img 0x54 20 0 ≠ 0 →
    ∃ t, exec (.imgKeys m v pkg sigOk false rivals) s = .next t ∧
      t.keys = { s.keys with wait := some (slice pkg 0 (s.field .img 0x54 20 0), sigOk) } ∧ t.reading .keys = true ∧
      s.keepsRegs t ((.img, 0x2C) :: discardRegs .img) ∧ s.keeps t [.regs, .keys, .log, .host, .out]) ∧
  (∀ (s : State) (id : Nat) (r : HostRead) (b : List Byte) (ok : Bool), s.runs .host = true → s.readOf id = some r →
    r.want = [] → r.out = 1 → r.use = .keys → s.keys.wait = some (b, ok) → s.inU2 = false →
    ∃ t, exec (.readCompletion id false) s = .next t ∧
      t.keys = ({ s with keys := { s.keys with wait := none } }.keyPackage b ok).1.keys ∧
      t.reg .img 0x58 = word ({ s with keys := { s.keys with wait := none } }.keyPackage b ok).2 ∧ bitOn (t.reg .img 0x10) 0 = true ∧
      s.keepsRegs t ((.img, 0x58) :: (.pwr, 0x64) :: (.pwr, 0x68) :: eventRegs .pwr ++ eventRegs .img) ∧
      s.keeps t [.regs, .keys, .log, .host, .out]) ∧
  (∀ (s : State) (b : List Byte) (key : List Byte), keyField b = some key → byteAt b 4 = 1 → byteAt b 5 = 0 → s.keys.opKey = none →
    leAt b 8 4 = s.keys.count % 16 → s.log.dev0 = true → s.log.dev1 = true → s.admitsBurst ((b.length + 255) / 256) = true →
    s.keyPackage b false = ({ s.count .pwr 0x64 with keys := { s.keys with opKey := some key, count := (s.keys.count + 1) % 16 } }, 0)) ∧
  (∀ (s : State) (m : Master) (v : Word) (rivals : List Req), s.grants .img 0x44 m (setFld v 3 0 7) rivals →
    m.overseer = false ∨ fld v 31 16 ≠ 0x494D →
    ∃ t, exec (.imgAbort m v rivals) s = .next t ∧ s.keepsRegs t ((.img, 0x2C) :: discardRegs .img) ∧
      s.keeps t [.regs, .log, .host, .out]) ∧
  (∀ s : State, s.boot.timer = true →
    ∃ t, exec .trialExpired s = .next t ∧ bitOn (t.reg .unit 0x50) 0 = true ∧ t.field .unit 0x50 23 20 = 6 ∧
      t.field .unit 0x50 15 8 = 3 ∧ bitOn (t.reg .unit 0x50) 2 = true ∧ t.krds = [] ∧ t.saf = s.saf) ∧
  (∀ s : State, s.boot.timer = false → exec .trialExpired s = .next s)

/-- KRDS_HANDSHAKE, KRDS_SESSION_TIMEOUT, KRDS_CLOSE and the KRDS commands. A handshake whose certificate chains to the enrolled
anchor opens a session where fewer than four exist, else none. A request is executed and answered once, its response stored;
a repeated one is answered from store; one that needs OPERATE is DENIED to an OBSERVE session. Reads answer the registers,
the log records and the sensors; a write, a lock, an unlock and a unit reset act as master 12 at the page's arbiter; the
others ask the management controller, the mailbox, Yemor, the safety inbox, the image store or the keys. A session's end
frees the locks of master 12. -/
def Obligations.KrdsSessionsAndRequests : Prop :=
  (∀ (s : State) (id : Nat) (operate : Bool) (peer : Word), s.keys.anchor.isSome = true → s.krds.length < 4 →
    s.session id = none → s.pwr.started = true → s.boot.recovery = false →
    ∃ t, exec (.krdsHandshake id true operate peer) s = .next t ∧
      t.krds = s.krds ++ [{ id := id, operate := operate, peer := peer, served := 0, past := [] }] ∧
      s.keepsRegs t (eventRegs .log) ∧ s.keeps t [.krds, .regs, .log, .host, .out]) ∧
  (∀ (s : State) (id : Nat) (certOk operate : Bool) (peer : Word), s.keys.anchor = none ∨ certOk = false ∨ 4 ≤ s.krds.length →
    exec (.krdsHandshake id certOk operate peer) s = .next s) ∧
  (∀ (s : State) (id : Nat) (x : KrdsSession), s.session id = some x →
    ∃ t, exec (.krdsSessionTimeout id) s = .next t ∧ t.krds = s.krds.filter (fun y => y.id ≠ id) ∧ (∀ e ∈ t.locks, e.2 ≠ .krds) ∧
      s.keeps t [.krds, .regs, .locks, .log, .host, .out]) ∧
  (∀ (s : State) (id req : Nat) (x : KrdsSession), s.freshRequest id req false x →
    ∃ t, exec (.krdsClose id req) s = .next t ∧ t.session id = none ∧ (∀ e ∈ t.locks, e.2 ≠ .krds) ∧
      Out.krds id req 0 [] ∈ t.out ∧ s.keeps t [.krds, .regs, .locks, .log, .host, .out]) ∧
  (∀ (s : State) (id req : Nat) (p : Page) (off : BitVec 12) (v : Word) (rivals : List Req) (x : KrdsSession) (e : Nat × Nat × List Word),
    s.session id = some x → x.past.find? (fun e => e.1 = req) = some e →
    (∃ t, exec (.krdsWrite id req p off v rivals) s = .next t ∧ t.out = .krds id req e.2.1 e.2.2 :: s.out ∧ s.keeps t [.out]) ∧
    (∃ t, exec (.krdsUnitReset id req v rivals) s = .next t ∧ t.out = .krds id req e.2.1 e.2.2 :: s.out ∧ s.keeps t [.out])) ∧
  (∀ (s : State) (id req : Nat) (p : Page) (off : BitVec 12) (v : Word) (rivals : List Req) (x : KrdsSession),
    s.freshRequest id req false x → x.operate = false →
    ∃ t, exec (.krdsWrite id req p off v rivals) s = .next t ∧ s.answered t id req 1 [] x) ∧
  (∀ (s : State) (id req : Nat) (p : Page) (off : BitVec 12) (v : Word) (rivals : List Req), s.session id = none →
    exec (.krdsWrite id req p off v rivals) s = .next s) ∧
  (∀ (s : State) (id req : Nat) (x : KrdsSession), s.freshRequest id req false x →
    ∃ t, exec (.krdsInfo id req) s = .next t ∧ s.answered t id req 0 s.infoWords x) ∧
  (∀ (s : State) (id req : Nat) (x : KrdsSession), s.freshRequest id req false x →
    ∃ t, exec (.krdsSensors id req) s = .next t ∧ s.answered t id req 0 s.sensorWords x) ∧
  (∀ (s : State) (id req count : Nat) (seq : Word) (x : KrdsSession), s.freshRequest id req false x → 1 ≤ count → count ≤ 32 →
    ∃ t, exec (.krdsLogRead id req seq count) s = .next t ∧ s.answered t id req 0 ((s.logRecords seq count).flatMap LogRec.words) x) ∧
  (∀ (s : State) (id req off count : Nat) (p : Page) (x : KrdsSession), s.freshRequest id req false x → s.plainPage p →
    1 ≤ count → count ≤ 256 → off % 4 = 0 → off + 4 * count ≤ 0x1000 →
    ∃ t, exec (.krdsRead id req p off count) s = .next t ∧
      s.answered t id req 0 ((List.range count).map (fun i => if off + 4 * i = 0x24 then 0 else s.view p (off + 4 * i))) x) ∧
  (∀ (s : State) (id req : Nat) (p : Page) (x : KrdsSession), s.freshRequest id req false x → s.plainPage p →
    ∃ t, exec (.krdsDump id req p) s = .next t ∧
      s.answered t id req 0 ((List.range 9).map (fun i => s.view p (4 * i)) ++ (List.range 1014).map (fun i => s.view p (0x28 + 4 * i))) x) ∧
  (∀ (s : State) (id req : Nat) (p : Page) (off : BitVec 12) (v : Word) (rivals : List Req) (x : KrdsSession),
    s.freshRequest id req true x → off.toNat % 4 = 0 → s.takes (accessIsland p off.toNat) →
    ∃ t u, exec (.krdsWrite id req p off v rivals) s = .next t ∧
      exec (.registerWrite p ⟨(wr .krds off.toNat v :: rivals), []⟩) s = .next u ∧
      (u.session id = some x → u.answered t id req 0 [u.view p 0x2C, u.view p 0x28] x) ∧ (u.session id = none → t = u)) ∧
  (∀ (s : State) (id req : Nat) (v : Word) (rivals : List Req) (x : KrdsSession), s.freshRequest id req true x →
    s.takes .mgt →
    ∃ t u, exec (.krdsUnitReset id req v rivals) s = .next t ∧
      exec (.registerWrite .unit ⟨(wr .krds 0x4C v :: rivals), []⟩) s = .next u ∧
      (u.session id = some x → u.answered t id req 0 [u.view .unit 0x2C, u.view .unit 0x28] x) ∧ (u.session id = none → t = u)) ∧
  (∀ (s : State) (id req : Nat) (p : Page) (rivals : List Req) (x : KrdsSession), s.freshRequest id req true x →
    s.takes (accessIsland p 0x24) →
    ∃ t u a, exec (.krdsLock id req p rivals) s = .next t ∧ exec (.lockRead p .krds rivals) s = .next u ∧
      Out.data .krds a ∈ u.out ∧ (u.session id = some x → u.answered t id req 0 [a] x)) ∧
  (∀ (s : State) (id req : Nat) (p : Page) (rivals : List Req) (x : KrdsSession) (m : Master), s.freshRequest id req true x →
    s.takes (accessIsland p 0x24) → s.lockOf p = some m → p ≠ .met →
    ∃ t u, exec (.krdsUnlock id req p rivals) s = .next t ∧
      exec (.lockRelease p .krds (word m.num) rivals) s = .next u ∧
      (u.session id = some x → u.answered t id req 0 [u.view p 0x2C, u.view p 0x28] x)) ∧
  (∀ (s : State) (id req off : Nat) (v : Word) (data : List Byte) (sigs : List Bool) (x : KrdsSession), s.freshRequest id req true x →
    fld v 3 0 = 1 → data.length ≤ 1024 → s.grants .img 0x44 .krds (word (0x494D * 65536 + fld v 8 8 * 256 + 1)) [] →
    s.boot.recovery = false → bitOn v 8 ≠ s.boot.activeB → s.boot.trial = false → s.inU2 = false → s.boot.write = none →
    ∃ t b, exec (.krdsImage id req v off data sigs) s = .next t ∧
      t.boot = s.boot.putOther { st := 2, ver := 0, sigOk := false, data := [] } ∧ t.reg .img 0x58 = 0 ∧
      t.out.head? = some (.krds id req 0 b) ∧ s.keeps t [.regs, .boot, .log, .host, .krds, .out]) ∧
  (∀ (s : State) (id req : Nat) (i : Island) (x : KrdsSession), s.freshRequest id req true x → s.takes .mgt →
    s.sens.hot = false → s.lockOf .isl = none → i ∉ [Island.fab, .host, .mgt, .saf] → s.runs i = true →
    ∃ t, exec (.krdsColdReset id req i) s = .next t ∧ t.island i = { s.island i with entry := .resetting } ∧
      t.out = .krds id req 0 [] :: s.out ∧ s.keepsRegs t ((.isl, 0x2C) :: discardRegs .isl) ∧
      s.keeps t [.regs, .isl, .krds, .out]) ∧
  (∀ (s : State) (id req : Nat) (i : Island) (x : KrdsSession), s.freshRequest id req true x → 16 ≤ i.num →
    ∃ t, exec (.krdsColdReset id req i) s = .next t ∧ s.answered t id req 4 [] x) ∧
  (∀ (s : State) (id req : Nat) (i : Fin 16) (pll : Bool) (x : KrdsSession), s.freshRequest id req true x → s.takes .mgt →
    s.sens.hot = false → s.lockOf .clk = none → bitOn (s.reg .clk 0x44) i.val = !pll →
    bitOn (s.reg .clk 0x40) (if pll then 31 else i.val) = true → s.muxBusy i.val = false →
    (s.island (islandOf i.val)).cold = false → (s.island (islandOf i.val)).noClock = false → s.sourceOk i.val pll = true →
    ∃ t, exec (.krdsClkSwitch id req i pll) s = .next t ∧ bitOn (t.reg .clk 0x44) i.val = pll ∧
      (∀ k, k ≠ i.val → bitOn (t.reg .clk 0x44) k = bitOn (s.reg .clk 0x44) k) ∧ t.out = .krds id req 0 [] :: s.out ∧
      s.keeps t [.regs, .isl, .krds, .out]) ∧
  (∀ (s : State) (id req : Nat) (x : KrdsSession), s.freshRequest id req true x → bitOn (s.reg .hlnk 0x4C) 8 = true →
    ∃ t, exec (.krdsHostWake id req) s = .next t ∧
      (∀ j : Fin 4, bitOn (s.reg .hlnk 0x4C) j.val = true → (t.pme j.val).status = true) ∧
      t.out.head? = some (.krds id req 0 []) ∧ s.keepsRegs t ((.hlnk, 0x4C) :: (.hlnk, 0x50) :: eventRegs .hlnk) ∧
      s.keeps t [.regs, .log, .host, .krds, .out]) ∧
  (∀ (s : State) (id req : Nat) (k : Fin 4) (text : List Word) (x : KrdsSession), s.freshRequest id req true x →
    s.runs .host = true → bitOn (s.reg (mbxPage k.val) 0x40) 3 = false → text.length ≤ 15 →
    bitOn (s.reg .hlnk 0x4C) k.val = false →
    ∃ t, exec (.krdsMbxSend id req k text) s = .next t ∧ bitOn (t.reg (mbxPage k.val) 0x40) 3 = true ∧
      t.reg (mbxPage k.val) 0x140 = 1 ∧ (∀ i, i < 15 → t.reg (mbxPage k.val) (0x144 + 4 * i) = text.getD i 0) ∧
      t.out = .krds id req 0 [] :: s.out ∧ s.keeps t [.regs, .krds, .out]) ∧
  (∀ (s : State) (id req : Nat) (k : Fin 4) (text : List Word) (x : KrdsSession), s.freshRequest id req true x →
    s.runs .host = true → bitOn (s.reg (mbxPage k.val) 0x40) 3 = true →
    ∃ t, exec (.krdsMbxSend id req k text) s = .next t ∧ t.out = .krds id req 3 [] :: s.out ∧
      t.session id = some { x with served := x.served + 1 } ∧ s.keeps t [.krds, .out]) ∧
  (∀ (s : State) (id req : Nat) (rivals : List Req) (x : KrdsSession), s.freshRequest id req false x →
    ∃ t, exec (.krdsYem id req .sens rivals) s = .next t ∧ t.out = .krds id req 0 (0 :: s.sensorWords) :: s.out ∧
      t.reg .yem 0x48 = s.reg .yem 0x48 + 1 ∧ s.keepsRegs t [(.yem, 0x48)] ∧ s.keeps t [.regs, .krds, .out]) ∧
  (∀ (s : State) (id req : Nat) (rivals : List Req) (x : KrdsSession), s.freshRequest id req false x →
    ∃ t, exec (.krdsYem id req .bye rivals) s = .next t ∧ t.session id = none ∧ Out.krds id req 0 [0] ∈ t.out) ∧
  (∀ (s : State) (id req off slot : Nat) (final : Bool) (body sig : List Byte) (x : KrdsSession), s.freshRequest id req true x →
    ∃ t, exec (.krdsSaf id req 5 off final body sig slot) s = .next t ∧
      s.answered t id req 0 [s.view (.saf 0) 0x48, s.view (.saf 0) 0x5C, s.view (.saf 0) 0x54] x) ∧
  (∀ (s : State) (id req op off slot : Nat) (final : Bool) (body sig : List Byte) (x : KrdsSession), s.freshRequest id req true x →
    op = 3 ∨ op = 4 → body.length ≤ 1024 → off + body.length ≤ 2048 →
    s.field (.saf 0) 0x48 15 0 = s.field .mbxSaf 0x40 15 0 → s.lockOf .mbxSaf = none →
    ∃ t b, exec (.krdsSaf id req op off final body sig slot) s = .next t ∧ t.reg .mbxSaf 0x44 = word op ∧
      t.reg .mbxSaf 0x960 = word (slot % 4) ∧ t.field .mbxSaf 0x40 15 0 = (s.field .mbxSaf 0x40 15 0 + 1) % 65536 ∧
      t.out = .krds id req 0 b :: s.out ∧ s.keeps t [.regs, .safBox, .krds, .out]) ∧
  (∀ (s : State) (id req op off slot : Nat) (final : Bool) (body sig : List Byte) (x : KrdsSession), s.freshRequest id req true x →
    1 ≤ op → op ≤ 4 → body.length ≤ 1024 → off + body.length ≤ 2048 →
    s.field (.saf 0) 0x48 15 0 ≠ s.field .mbxSaf 0x40 15 0 →
    ∃ t, exec (.krdsSaf id req op off final body sig slot) s = .next t ∧ t.out = .krds id req 3 [] :: s.out ∧
      s.keeps t [.krds, .out]) ∧
  (∀ (s : State) (id req off : Nat) (part : List Byte) (sigOk : Bool) (x : KrdsSession), s.freshRequest id req true x →
    part.length ≤ 1020 → off + part.length ≤ 3072 →
    ∃ t, exec (.krdsKeys id req off false part sigOk) s = .next t ∧
      t.keys = { s.keys with part := spliceAt s.keys.part off part } ∧ t.out = .krds id req 0 [] :: s.out ∧
      s.keeps t [.keys, .krds, .out]) ∧
  (∀ (s : State) (id req off : Nat) (part : List Byte) (sigOk : Bool) (x : KrdsSession) (code : Nat), s.freshRequest id req true x →
    part.length ≤ 1020 → off + part.length ≤ 3072 → s.inU2 = false →
    code = ({ s with keys := { s.keys with part := [] } }.keyPackage (slice (spliceAt s.keys.part off part) 0 (off + part.length)) sigOk).2 →
    ∃ t, exec (.krdsKeys id req off true part sigOk) s = .next t ∧
      t.keys = ({ s with keys := { s.keys with part := [] } }.keyPackage (slice (spliceAt s.keys.part off part) 0 (off + part.length)) sigOk).1.keys ∧
      t.reg .img 0x58 = word code ∧ t.out.head? = some (.krds id req (if code = 0 then 0 else 4) [word code]) ∧
      s.keeps t [.regs, .keys, .krds, .log, .host, .out])

/-- CONSOLE_SESSION_START, CONSOLE_BREAK, CONSOLE_IDLE_TIMEOUT and the Yemor commands. A carriage return opens a session, a
break, an idle console and BYE end it and free the locks of master 7. Each line is counted and answered with one status
line: reads with the values, a write with the verdict PG_CONFLICT gives on it, a lock read with OK or REFUSED; what the
management controller is asked to do it does. A line with a wrong argument is a bad request. -/
def Obligations.YemorLinesAndTheirAnswers : Prop :=
  (∀ s : State, s.console.open_ = false → s.boot.recovery = false → s.pwr.started = true →
    ∃ t, exec .consoleSessionStart s = .next t ∧ t.console = { s.console with open_ := true, served := 0 } ∧
      bitOn (t.reg .yem 0x10) 0 = true ∧ s.keepsRegs t (eventRegs .yem) ∧ s.keeps t [.regs, .console, .log, .host, .out]) ∧
  (∀ s : State, s.console.open_ = true →
    ∃ t, exec .consoleBreak s = .next t ∧ exec .consoleIdleTimeout s = .next t ∧
      t.console = { s.console with open_ := false, served := 0 } ∧ (∀ e ∈ t.locks, e.2 ≠ .yemor) ∧
      bitOn (t.reg .yem 0x10) 1 = true ∧ s.keeps t [.regs, .locks, .console, .log, .host, .out]) ∧
  (∀ s : State, s.console.open_ = false → exec .consoleBreak s = .next s ∧ exec .consoleIdleTimeout s = .next s) ∧
  (∀ s : State, s.serves → ∃ t, exec .yemHelp s = .next t ∧ s.lineBegun.lineEnds t 0 []) ∧
  (∀ s : State, s.serves → ∃ t, exec .yemInfo s = .next t ∧ s.lineBegun.lineEnds t 0 s.infoWords) ∧
  (∀ s : State, s.serves → ∃ t, exec .yemSens s = .next t ∧ s.lineBegun.lineEnds t 0 s.sensorWords) ∧
  (∀ s : State, s.serves → ∃ t, exec .yemTwp s = .next t ∧ s.lineBegun.lineEnds t 0 s.twpWords) ∧
  (∀ (s : State) (seq : Word) (count : Nat), s.serves → count ≤ 32 →
    ∃ t, exec (.yemLog seq count) s = .next t ∧ s.lineBegun.lineEnds t 0 ((s.logRecords seq count).flatMap LogRec.words)) ∧
  (∀ (s : State) (p : Page) (off count : Nat), s.serves → s.plainPage p → 1 ≤ count → count ≤ 64 → off % 4 = 0 →
    off + 4 * count ≤ 0x1000 →
    ∃ t, exec (.yemRd p off count) s = .next t ∧
      s.lineBegun.lineEnds t 0 ((List.range count).map (fun i => if off + 4 * i = 0x24 then s.lineBegun.holderWord p else s.lineBegun.view p (off + 4 * i)))) ∧
  (∀ (s : State) (p : Page) (off count : Nat), s.serves → count = 0 ∨ 64 < count ∨ off % 4 ≠ 0 ∨ 0x1000 < off + 4 * count →
    ∃ t, exec (.yemRd p off count) s = .next t ∧ s.lineBegun.lineEnds t 4 []) ∧
  (∀ (s : State) (p : Page), s.serves → s.plainPage p →
    ∃ t, exec (.yemDump p) s = .next t ∧
      s.lineBegun.lineEnds t 0 ((List.range 9).map (fun i => s.lineBegun.view p (4 * i)) ++ (List.range 1014).map (fun i => s.lineBegun.view p (0x28 + 4 * i)))) ∧
  (∀ (s : State) (p : Page) (off : BitVec 12) (v : Word) (rivals : List Req), s.serves → bitOn (s.reg .yem 0x40) 0 = true →
    s.plainPage p → off.toNat % 4 = 0 → off.toNat ≠ 0x24 →
    ∃ t u vals, exec (.yemWr p off v rivals) s = .next t ∧
      exec (.registerWrite p ⟨(wr .yemor off.toNat v :: rivals), []⟩) s.lineBegun = .next u ∧
      (u.takes p.island → u.lineEnds t (judgeWrite .yemor off.toNat (s.view p 0x28) (u.view p 0x28)) vals ∧
        vals.take 2 = [u.view p 0x2C, u.view p 0x28])) ∧
  (∀ (off : Nat) (before after : Word), off < 0x1000 → off % 4 = 0 →
    (fld before 15 0 ≠ 65535 → fld after 15 0 = fld before 15 0 → judgeWrite .yemor off before after = 0) ∧
    (fld after 15 0 ≠ fld before 15 0 → fld after 31 28 = 7 → fld after 25 16 = off / 4 →
      judgeWrite .yemor off before after = (if bitOn after 27 then 2 else 3)) ∧
    (fld after 15 0 ≠ fld before 15 0 → fld after 31 28 ≠ 7 ∨ fld after 25 16 ≠ off / 4 → judgeWrite .yemor off before after = 6) ∧
    (fld before 15 0 = 65535 → fld after 15 0 = 65535 → judgeWrite .yemor off before after = 6)) ∧
  (∀ (s : State) (p : Page) (rivals : List Req), s.serves → bitOn (s.reg .yem 0x40) 0 = true → s.takes (accessIsland p 0x24) →
    ∃ t u a, exec (.yemLock p rivals) s = .next t ∧ exec (.lockRead p .yemor rivals) s.lineBegun = .next u ∧
      Out.data .yemor a ∈ u.out ∧ u.lineEnds t (if a = 0 then 0 else 2) [a]) ∧
  (∀ (s : State) (p : Page) (rivals : List Req) (m : Master), s.serves → bitOn (s.reg .yem 0x40) 0 = true →
    s.takes (accessIsland p 0x24) → s.lockOf p = some m → p ≠ .met →
    ∃ t u vals, exec (.yemUnlock p rivals) s = .next t ∧
      exec (.lockRelease p .yemor (word m.num) rivals) s.lineBegun = .next u ∧
      u.lineEnds t (judgeWrite .yemor 0x24 (s.view p 0x28) (u.view p 0x28)) vals) ∧
  (∀ (s : State) (keepRing selMgt : Bool) (rivals : List Req), s.serves → bitOn (s.reg .yem 0x40) 0 = true → s.takes .mgt →
    ∃ t u, exec (.yemReset keepRing selMgt rivals) s = .next t ∧
      exec (.registerWrite .unit ⟨(wr .yemor 0x4C (word (0x4B52 * 65536 + keepRing.toNat * 4 + selMgt.toNat * 2 + 1)) :: rivals), []⟩) s.lineBegun = .next u ∧
      (u.takes .mgt → u.keeps t [.out])) ∧
  (∀ (s : State) (i : Island), s.serves → bitOn (s.reg .yem 0x40) 0 = true → s.takes .mgt → s.sens.hot = false →
    s.lockOf .isl = none → i ∉ [Island.fab, .host, .mgt, .saf] → s.runs i = true →
    ∃ t, exec (.yemCold i) s = .next t ∧ t.island i = { s.island i with entry := .resetting } ∧ t.out = .console 0 [] :: s.out ∧
      s.keepsRegs t ((.yem, 0x48) :: (.isl, 0x2C) :: discardRegs .isl) ∧ s.keeps t [.regs, .isl, .console, .out]) ∧
  (∀ (s : State) (i : Fin 16) (pll : Bool), s.serves → bitOn (s.reg .yem 0x40) 0 = true → s.takes .mgt → s.sens.hot = false →
    s.lockOf .clk = none → bitOn (s.reg .clk 0x44) i.val = !pll → bitOn (s.reg .clk 0x40) (if pll then 31 else i.val) = true →
    s.muxBusy i.val = false → (s.island (islandOf i.val)).cold = false → (s.island (islandOf i.val)).noClock = false →
    s.sourceOk i.val pll = true →
    ∃ t, exec (.yemClk i pll) s = .next t ∧ bitOn (t.reg .clk 0x44) i.val = pll ∧ t.out = .console 0 [] :: s.out ∧
      s.keeps t [.regs, .isl, .console, .out]) ∧
  (∀ s : State, s.serves → bitOn (s.reg .yem 0x40) 0 = true → bitOn (s.reg .hlnk 0x4C) 8 = true →
    ∃ t, exec .yemWake s = .next t ∧ (∀ j : Fin 4, bitOn (s.reg .hlnk 0x4C) j.val = true → (t.pme j.val).status = true) ∧
      t.out.head? = some (.console 0 []) ∧ s.keepsRegs t ((.yem, 0x48) :: (.hlnk, 0x4C) :: (.hlnk, 0x50) :: eventRegs .hlnk) ∧
      s.keeps t [.regs, .log, .host, .console, .out]) ∧
  (∀ s : State, s.serves →
    ∃ t, exec .yemBye s = .next t ∧ t.console.open_ = false ∧ Out.console 0 [] ∈ t.out ∧ (∀ e ∈ t.locks, e.2 ≠ .yemor) ∧
      bitOn (t.reg .yem 0x10) 1 = true ∧ s.keeps t [.regs, .locks, .console, .log, .host, .out])

/-- RINFO, RLOAD, XMODEM_BLOCK, RBOOT and the commands of the two-wire port. In recovery RINFO shows the sets, RLOAD begins a
transfer into one, a good block is stored and acknowledged, a bad one is not, and one that the energy does not cover leaves
a short record; the end verifies the set. RBOOT restarts the unit once an RLOAD answered OK (its CAUSE 5 is the model's
reading, log entry 99), and is denied else. A two-wire transaction sets the pointer; a read returns a byte of the register
fetched whole and moves the pointer on; four bytes at a register are one write of master 11, fewer are counted. A cut
stretch resets the port and frees its locks, a held bus is counted and raised, its end raised. The summary shows readiness,
mains, heat and the log. -/
def Obligations.RecoveryAndTheTwoWirePort : Prop :=
  (∀ s : State, s.boot.recovery = true →
    ∃ t, exec .rinfo s = .next t ∧
      t.out = .console 0 [word s.boot.setA.st, word s.console.failA, word s.boot.setB.st, word s.console.failB] :: s.out ∧
      s.keeps t [.out]) ∧
  (∀ (s : State) (setB : Bool), s.boot.recovery = true →
    ∃ t, exec (.rload setB) s = .next t ∧ t.boot = s.boot.putNamed setB { st := 1, ver := 0, sigOk := false, data := [] } ∧
      t.console = { s.console with loading := true, rloadB := setB, rloadOk := false, block := 1, fill := 0 } ∧
      s.keeps t [.boot, .console]) ∧
  (∀ (s : State) (num : Nat) (data : List Byte) (sigs : List Bool), s.boot.recovery = true → s.console.loading = true →
    num % 256 = s.console.block % 256 → data.length ≤ 1024 → s.console.fill + data.length ≤ 2 ^ 26 →
    s.inU2 = false → s.admitsBurst ((data.length + 255) / 256) = true →
    ∃ t, exec (.xmodemBlock num data true false sigs) s = .next t ∧
      (∀ i, i < data.length → Sparse.get 0xFF (t.boot.named s.console.rloadB).data (s.console.fill + i) = data.getD i 0) ∧
      (∀ i, i < s.console.fill → Sparse.get 0xFF (t.boot.named s.console.rloadB).data i = Sparse.get 0xFF (s.boot.named s.console.rloadB).data i) ∧
      t.console = { s.console with block := s.console.block + 1, fill := s.console.fill + data.length } ∧
      t.reg .pwr 0x64 = s.reg .pwr 0x64 + 1 ∧ t.out = .console 7 [] :: s.out ∧ s.keepsRegs t [(.pwr, 0x64)] ∧
      s.keeps t [.regs, .boot, .console, .out]) ∧
  (∀ (s : State) (num : Nat) (data : List Byte) (sigs : List Bool), s.boot.recovery = true → s.console.loading = true →
    num % 256 = s.console.block % 256 → data.length ≤ 1024 → s.console.fill + data.length ≤ 2 ^ 26 →
    s.inU2 = false → s.admitsBurst ((data.length + 255) / 256) = false →
    ∃ t r, exec (.xmodemBlock num data true false sigs) s = .next t ∧ t.out.head? = some (.console 8 []) ∧
      t.log.shorts = (r :: s.log.shorts).take 64 ∧ r.reason = 4 ∧ r.pages = (data.length + 255) / 256 ∧ r.gauge = s.energy ∧
      t.boot = s.boot ∧ t.console = s.console ∧ s.keepsRegs t ((.pwr, 0x68) :: eventRegs .pwr) ∧
      s.keeps t [.regs, .log, .host, .out]) ∧
  (∀ (s : State) (num : Nat) (data : List Byte) (sigs : List Bool), s.boot.recovery = true → s.console.loading = true →
    ∃ t, exec (.xmodemBlock num data false false sigs) s = .next t ∧ t.out = .console 8 [] :: s.out ∧ s.keeps t [.out]) ∧
  (∀ (s : State) (num ver : Nat) (data : List Byte) (crcOk : Bool) (sigs : List Bool), s.boot.recovery = true →
    s.console.loading = true → (s.boot.named s.console.rloadB).verdict sigs s.boot.rollback = .inr ver →
    ∃ t, exec (.xmodemBlock num data crcOk true sigs) s = .next t ∧ (t.boot.named s.console.rloadB).st = 3 ∧
      (t.boot.named s.console.rloadB).ver = ver ∧ t.console = { s.console with loading := false, rloadOk := true } ∧
      t.out = .console 0 [] :: s.out ∧ s.keeps t [.boot, .console, .out]) ∧
  (∀ (s : State) (num k code : Nat) (data : List Byte) (crcOk : Bool) (sigs : List Bool), s.boot.recovery = true →
    s.console.loading = true → (s.boot.named s.console.rloadB).verdict sigs s.boot.rollback = .inl (k, code) →
    ∃ t, exec (.xmodemBlock num data crcOk true sigs) s = .next t ∧ (t.boot.named s.console.rloadB).st = 0 ∧
      t.console.rloadOk = false ∧ t.console.loading = false ∧ t.out = .console 2 [word k] :: s.out ∧
      s.keeps t [.boot, .console, .out]) ∧
  (∀ s : State, s.boot.recovery = true → s.console.rloadOk = true →
    ∃ t, exec .rboot s = .next t ∧ bitOn (t.reg .unit 0x50) 0 = true ∧ t.field .unit 0x50 15 8 = 5 ∧
      bitOn (t.reg .unit 0x50) 2 = false ∧ t.saf = s.saf) ∧
  (∀ s : State, s.boot.recovery = true → s.console.rloadOk = false →
    ∃ t, exec .rboot s = .next t ∧ t.out = .console 1 [] :: s.out ∧ s.keeps t [.out]) ∧
  (∀ (s : State) (addr : BitVec 7) (v : BitVec 16), s.pwr.started = true → addr.toNat = s.field .twp 0x40 6 0 →
    ∃ t, exec (.twpTransaction addr false (some v)) s = .next t ∧
      t.twp = { s.twp with deaf := false, fetch := none, ptr := v.toNat % 0x8000 } ∧ s.keeps t [.twp]) ∧
  (∀ (s : State) (addr : BitVec 7), s.pwr.started = true → addr.toNat = s.field .twp 0x40 6 0 →
    ∃ t, exec (.twpTransaction addr true none) s = .next t ∧ t.twp = { s.twp with deaf := false, fetch := none } ∧
      s.keeps t [.twp]) ∧
  (∀ (s : State) (p : Page) (rivals : List Req), s.pwr.started = true → s.twp.deaf = false → s.twp.fetch = none →
    s.twp.ptr < 0x8000 → s.twpPage s.twp.ptr = some p → s.plainPage p → s.twp.ptr % 0x1000 / 4 ≠ 9 →
    ∃ t, exec (.twpRegisterFetch rivals) s = .next t ∧
      t.twp = { s.twp with ptr := (s.twp.ptr + 1) % 0x8000, fetch := some (s.twp.ptr / 4 * 4, s.view p (s.twp.ptr % 0x1000 / 4 * 4)) } ∧
      t.out = .twpByte (BitVec.ofNat 8 ((s.view p (s.twp.ptr % 0x1000 / 4 * 4)).toNat / 256 ^ (s.twp.ptr % 4))) :: s.out ∧
      s.keeps t [.twp, .out]) ∧
  (∀ (s : State) (w : Word) (rivals : List Req), s.pwr.started = true → s.twp.deaf = false →
    s.twp.fetch = some (s.twp.ptr / 4 * 4, w) →
    ∃ t, exec (.twpRegisterFetch rivals) s = .next t ∧ t.twp = { s.twp with ptr := (s.twp.ptr + 1) % 0x8000 } ∧
      t.out = .twpByte (BitVec.ofNat 8 (w.toNat / 256 ^ (s.twp.ptr % 4))) :: s.out ∧ s.keeps t [.twp, .out]) ∧
  (∀ (s : State) (p : Page) (a b c d : Byte) (rivals : List Req), s.pwr.started = true → s.twp.deaf = false →
    s.twp.ptr % 4 = 0 → s.twpPage s.twp.ptr = some p →
    exec (.twpRegisterWrite [a, b, c, d] rivals) s = exec (.registerWrite p ⟨(wr .twp (s.twp.ptr % 0x1000) (d ++ c ++ b ++ a) :: rivals), []⟩) { s with twp := { s.twp with ptr := (s.twp.ptr + 4) % 0x8000 } }) ∧
  (∀ (s : State) (bytes : List Byte) (rivals : List Req), s.pwr.started = true → s.twp.deaf = false → s.twp.ptr % 4 = 0 →
    1 ≤ bytes.length → bytes.length < 4 →
    ∃ t, exec (.twpRegisterWrite bytes rivals) s = .next t ∧ t.twp = { s.twp with ptr := (s.twp.ptr + bytes.length) % 0x8000 } ∧
      t.reg .twp 0x64 = s.reg .twp 0x64 + 1 ∧ s.keepsRegs t [(.twp, 0x64)] ∧ s.keeps t [.regs, .twp]) ∧
  (∀ s : State, s.pwr.started = true →
    ∃ t, exec .stretchCut s = .next t ∧ t.twp = { s.twp with ptr := 0, fetch := none, deaf := true } ∧ (∀ e ∈ t.locks, e.2 ≠ .twp) ∧
      t.reg .twp 0x60 = s.reg .twp 0x60 + 1 ∧ bitOn (t.reg .twp 0x10) 0 = true ∧
      s.keeps t [.regs, .locks, .twp, .log, .host, .out]) ∧
  (∀ s : State, s.pwr.started = true → s.twp.held = false →
    ∃ t, exec .busHeld s = .next t ∧ t.twp = { s.twp with held := true } ∧ t.reg .twp 0x68 = s.reg .twp 0x68 + 1 ∧
      bitOn (t.reg .twp 0x10) 1 = true ∧ s.keepsRegs t ((.twp, 0x68) :: eventRegs .twp) ∧
      s.keeps t [.regs, .twp, .log, .host, .out]) ∧
  (∀ s : State, s.twp.held = true →
    ∃ t, exec .busFree s = .next t ∧ t.twp = { s.twp with held := false } ∧ bitOn (t.reg .twp 0x10) 2 = true ∧
      s.keepsRegs t (eventRegs .twp) ∧ s.keeps t [.regs, .twp, .log, .host, .out]) ∧
  (∀ s : State, s.pwr.started = true →
    ∃ t, exec .twpSummaryRefresh s = .next t ∧ t.reg .twp 0x100 = s.readyStat ∧ t.reg .twp 0x104 = s.mainsStat ∧
      t.field .twp 0x108 15 0 = (BitVec.ofInt 16 s.hottest).toNat ∧ t.reg .twp 0x10C = s.log.next ∧
      s.keepsRegs t [(.twp, 0x100), (.twp, 0x104), (.twp, 0x108), (.twp, 0x10C)] ∧ s.keeps t [.regs])

/-- With WRITE_EN 0 the console answers DENIED to the seven writing commands; other ways in are not affected. While
YEM_CFG.WRITE_EN = 0, an open console answers DENIED to WR, LOCK, UNLOCK, RESET, COLD, CLK and WAKE and does nothing else
but count the line and the denial; a line carried through KRDS is never answered DENIED for want of it, whatever WRITE_EN
is, and the recovery commands act whatever it is. -/
def Obligations.WriteEnableStopsConsoleWrites : Prop :=
  (∀ (s : State) (p : Page) (off : BitVec 12) (v : Word) (rivals : List Req) (keepRing selMgt pll : Bool) (i : Island) (k : Fin 16)
    (o : Host.Outcome State Fault Refusal), s.serves → bitOn (s.reg .yem 0x40) 0 = false →
    o ∈ [exec (.yemWr p off v rivals) s, exec (.yemLock p rivals) s, exec (.yemUnlock p rivals) s,
      exec (.yemReset keepRing selMgt rivals) s, exec (.yemCold i) s, exec (.yemClk k pll) s, exec .yemWake s] →
    ∃ t, o = .next t ∧ t.out = .console 1 [] :: s.out ∧ t.console = { s.console with served := s.console.served + 1 } ∧
      t.reg .yem 0x48 = s.reg .yem 0x48 + 1 ∧ t.reg .yem 0x4C = s.reg .yem 0x4C + 1 ∧
      s.keepsRegs t [(.yem, 0x48), (.yem, 0x4C)] ∧ s.keeps t [.regs, .console, .out]) ∧
  (∀ (s : State) (id req : Nat) (l : YemLine) (rivals : List Req) (x : KrdsSession), s.freshRequest id req true x → l ≠ .bye →
    ∃ t st vals, exec (.krdsYem id req l rivals) s = .next t ∧ st ≠ 1 ∧
      (t.session id ≠ none → t.out.head? = some (.krds id req 0 (word st :: vals)))) ∧
  (∀ (s : State) (w : Word) (setB : Bool), s.boot.recovery = true →
    ∃ t u, exec (.rload setB) s = .next t ∧ exec (.rload setB) (s.setReg .yem 0x40 w) = .next u ∧ u = t.setReg .yem 0x40 w) ∧
  (∀ (s : State) (w : Word), s.boot.recovery = true →
    ∃ t u, exec .rinfo s = .next t ∧ exec .rinfo (s.setReg .yem 0x40 w) = .next u ∧ u = t.setReg .yem 0x40 w) ∧
  (∀ (s : State) (w : Word) (num : Nat) (data : List Byte) (crcOk final : Bool) (sigs : List Bool), s.boot.recovery = true →
    ∃ t u, exec (.xmodemBlock num data crcOk final sigs) s = .next t ∧
      exec (.xmodemBlock num data crcOk final sigs) (s.setReg .yem 0x40 w) = .next u ∧ u.out = t.out ∧ u.boot = t.boot ∧
      u.console = t.console) ∧
  (∀ (s : State) (w : Word), s.boot.recovery = true → s.console.rloadOk = true →
    ∃ u, exec .rboot (s.setReg .yem 0x40 w) = .next u ∧ bitOn (u.reg .unit 0x50) 0 = true)

/-- SAF's commands: publication, start and restart, inputs, telegrams, the cycle's end, and the commissioning requests. SAF
shows its state as one applied write. A start loads the best block and sets START; a restart ends with RESTART, or LOCKOUT
as the third in 24 h. An active input, chatter, a discrepancy, a failed output test, a low supply, a silent peer and an
accepted STOP set their cause and open SAFE_OUT. A telegram that fails a check is counted with its reason and acts on
nothing. At the end of a cycle held releases clear the causes whose condition holds, or are dropped where a STOP was
accepted; then each valid peer gets a telegram. PROPOSE, CONFIRM, CANCEL, ENROLL and STATUS do what chapter 19 says, or end
refused with their reason. -/
def Obligations.SafetyPartition : Prop :=
  (∀ s : State, s.saf.started = true →
    ∃ t, exec .safPublish s = .next t ∧ (∀ e ∈ s.saf.shown, t.reg (.saf 0) e.1 = e.2) ∧
      t.reg (.saf 0) 0x2C = s.reg (.saf 0) 0x2C + 1 ∧
      s.keepsRegs t ((.saf 0, 0x2C) :: s.saf.shown.map (fun e => (Page.saf 0, e.1))) ∧ s.keeps t [.regs]) ∧
  (∀ (s : State) (copies : List (List Byte × Nat)), s.saf.started = false → s.saf.testing = false → s.pwr.started = true →
    (∀ c ∈ copies, c ∈ s.saf.store) →
    ∃ t, exec (.safStart copies) s = .next t ∧ t.saf.started = true ∧ t.saf.high = false ∧ t.saf.low = false ∧
      t.saf.block = (bestCopy copies).1 ∧ t.saf.count = word (bestCopy copies).2 ∧ t.saf.cause.getLsbD 1 = true ∧
      t.saf.cause.getLsbD 0 = (bestCopy copies).1.isEmpty ∧ t.saf.cause.getLsbD 10 = !s.saf.supply ∧ t.saf.prop = [] ∧
      t.saf.key1 = s.saf.key1 ∧ t.saf.key2 = s.saf.key2 ∧ t.saf.store = s.saf.store ∧
      (∀ i, i < 512 → t.reg (.saf 1) (0x40 + 4 * i) = word (leAt (bestCopy copies).1 (4 * i) 4)) ∧
      ((bestCopy copies).1 = [] → t.saf.sent = 0 ∧ t.frames = s.frames ∧ ∀ p, p < 4 → (t.gate p).safOn = false)) ∧
  (∀ (s : State) (inB quiet : Bool), s.saf.started = true → s.saf.useEstop = true → s.saf.cause.getLsbD 2 = false →
    ∃ t, exec (.estopInputChange inB true quiet) s = .next t ∧
      { s with saf := { s.saf with actA := s.saf.actA || !inB, actB := s.saf.actB || inB, quiet := false } }.caused t 2) ∧
  (∀ (s : State) (inB quiet : Bool),
    ∃ t, exec (.estopInputChange inB false quiet) s = .next t ∧
      t.saf = { s.saf with actA := s.saf.actA && inB, actB := s.saf.actB && !inB, quiet := quiet && !(s.saf.actA && inB) && !(s.saf.actB && !inB) } ∧
      s.keeps t [.saf]) ∧
  (∀ (s : State) (inB high : Bool) (recent : Nat), 5 ≤ recent → s.saf.started = true → s.saf.useEstop = true →
    s.saf.cause.getLsbD 4 = false →
    ∃ t, exec (.estopRawChange inB high recent) s = .next t ∧ s.caused t 4 ∧ bitOn (t.reg (.saf 0) 0x10) 4 = true) ∧
  (∀ (s : State) (inB high : Bool) (recent : Nat), recent < 5 → exec (.estopRawChange inB high recent) s = .next s) ∧
  (∀ s : State, s.saf.started = true → s.saf.useEstop = true → s.saf.actA ≠ s.saf.actB → s.saf.cause.getLsbD 3 = false →
    ∃ t, exec .discrepancy s = .next t ∧ s.caused t 3 ∧ bitOn (t.reg (.saf 0) 0x10) 3 = true) ∧
  (∀ (s : State) (ms : Nat), s.saf.started = true → s.saf.useLocal = true → 100 ≤ ms → ms ≤ 5000 →
    ∃ t, exec (.localReset ms) s = .next t ∧ t.saf = { s.saf with rstIn := false, heldLoc := s.saf.heldLoc + 1 } ∧
      s.keeps t [.saf]) ∧
  (∀ (s : State) (ms : Nat), s.saf.useLocal = false ∨ ms < 100 ∨ 5000 < ms →
    ∃ t, exec (.localReset ms) s = .next t ∧ t.saf = { s.saf with rstIn := false } ∧ s.keeps t [.saf]) ∧
  (∀ s : State, s.saf.on = true → s.saf.started = true → s.saf.cause = 0 →
    ∃ t, exec (.safeOutTest false) s = .next t ∧ s.caused t 9 ∧ bitOn (t.reg (.saf 0) 0x10) 5 = true) ∧
  (∀ s : State, exec (.safeOutTest true) s = .next s) ∧
  (∀ (s : State) (mv : Nat), mv < 19200 → s.saf.started = true → s.saf.cause.getLsbD 10 = false →
    ∃ t, exec (.outSupplyLow mv) s = .next t ∧ { s with saf := { s.saf with supply := false } }.caused t 10) ∧
  (∀ (s : State) (mv : Nat), 20400 ≤ mv → s.saf.started = true → s.saf.cause = 0x400 →
    ∃ t, exec (.outSupplyRestored mv) s = .next t ∧
      t.saf = { s.saf with supply := true, cause := 0, high := true, low := true } ∧ bitOn (t.reg (.saf 0) 0x10) 1 = true ∧
      s.keepsRegs t safRegs ∧ s.keeps t [.regs, .saf, .log, .host, .out]) ∧
  (∀ (s : State) (mv : Nat), 20400 ≤ mv → s.saf.cause &&& ~~~0x400 ≠ 0 →
    ∃ t, exec (.outSupplyRestored mv) s = .next t ∧ t.saf = { s.saf with supply := true, cause := s.saf.cause &&& ~~~0x400 } ∧
      s.keeps t [.saf]) ∧
  (∀ (x : SafSt) (b : List Byte) (k : Nat), x.judge b = (0, some k) →
    b.length = 64 ∧ safCrc (b.take 60) = beAt b 60 4 ∧ byteAt b 12 = 1 ∧ zeros b 44 16 = true ∧
      (beAt b 0 4 = beAt x.block 8 4 ∨ beAt b 0 4 = 0xFFFFFFFF) ∧ k ∈ x.validPeers ∧ beAt b 4 4 = x.peerAddr k ∧
      beAt b 14 2 = x.peerWdog k ∧
      ((x.peer k).any = true → 1 ≤ (word (beAt b 8 4) - (x.peer k).last).toNat ∧ (word (beAt b 8 4) - (x.peer k).last).toNat < 2 ^ 31) ∧
      1 ≤ byteAt b 13 ∧ byteAt b 13 ≤ 4 ∧ (byteAt b 13 = 2 → x.peerBit k 1 = true) ∧ (byteAt b 13 = 3 → x.peerBit k 2 = true)) ∧
  (∀ (s : State) (tel : List Byte) (k : Nat), s.saf.started = true → s.saf.block ≠ [] → byteAt tel 13 = 1 →
    s.saf.judge tel = (0, some k) →
    ∃ t, exec (.heartbeat tel) s = .next t ∧ s.saf.heard t.saf k tel ∧
      { t.saf with rxOk := s.saf.rxOk, peers := s.saf.peers } = s.saf ∧ s.keeps t [.saf]) ∧
  (∀ (s : State) (tel : List Byte) (k : Nat), s.saf.started = true → s.saf.block ≠ [] → byteAt tel 13 = 2 →
    s.saf.judge tel = (0, some k) → s.saf.cause.getLsbD 5 = false →
    ∃ t, exec (.stopTelegram tel) s = .next t ∧ s.saf.heard t.saf k tel ∧ t.saf.cause = s.saf.cause ||| 0x20 ∧
      t.saf.high = false ∧ t.saf.low = false ∧ t.saf.anyStop = true ∧ t.saf.sent = s.saf.sent ∧
      (s.saf.on = true → bitOn (t.reg (.saf 0) 0x10) 0 = true) ∧ s.keepsRegs t safRegs ∧
      s.keeps t [.regs, .saf, .log, .host, .out]) ∧
  (∀ (s : State) (tel : List Byte) (k : Nat), s.saf.started = true → s.saf.block ≠ [] → byteAt tel 13 = 3 →
    s.saf.judge tel = (0, some k) →
    ∃ t, exec (.release tel) s = .next t ∧ s.saf.heard t.saf k tel ∧
      { t.saf with rxOk := s.saf.rxOk, peers := s.saf.peers } = { s.saf with heldRel := s.saf.heldRel + 1 } ∧ s.keeps t [.saf]) ∧
  (∀ (s : State) (tel : List Byte) (k : Nat), s.saf.started = true → s.saf.block ≠ [] → byteAt tel 13 = 4 →
    s.saf.judge tel = (0, some k) →
    ∃ t, exec (.dyingGasp tel) s = .next t ∧ s.saf.heard t.saf k tel ∧
      { t.saf with rxOk := s.saf.rxOk, peers := s.saf.peers } = { s.saf with gasp := word (beAt tel 4 4) } ∧
      bitOn (t.reg (.saf 0) 0x10) 10 = true ∧ s.keepsRegs t safRegs ∧ s.keeps t [.regs, .saf, .log, .host, .out]) ∧
  (∀ (s : State) (tel : List Byte) (r : Nat) (k : Option Nat) (o : Host.Outcome State Fault Refusal), s.saf.started = true →
    s.saf.block ≠ [] → s.saf.judge tel = (r, k) → r ≠ 0 →
    (o = exec (.heartbeat tel) s ∧ byteAt tel 13 = 1) ∨ (o = exec (.stopTelegram tel) s ∧ byteAt tel 13 = 2) ∨
      (o = exec (.release tel) s ∧ byteAt tel 13 = 3) ∨ (o = exec (.dyingGasp tel) s ∧ byteAt tel 13 = 4) →
    ∃ t, o = .next t ∧ { t.saf with peers := s.saf.peers } = { s.saf with rxBad := s.saf.rxBad + 1, rxLast := r } ∧
      (∀ j, k ≠ some j → t.saf.peer j = s.saf.peer j) ∧ (r = 7 → t.saf.peers = s.saf.peers) ∧
      (∀ j, k = some j → r ≠ 7 → t.saf.peer j = { s.saf.peer j with run := 0 }) ∧ s.keeps t [.saf]) ∧
  (∀ (s : State) (id r : Nat) (k : Option Nat) (x : Frame), s.frame id = some x → x.loc = .safIn → x.bad = false → x.func = false →
    s.saf.started = true → s.saf.block ≠ [] →
    s.saf.judge (x.body.drop (etherPos (hsrPos x.body).isSome x.body + 2)) = (r, k) → r ≠ 0 →
    ∃ t, exec (.kptRx id) s = .next t ∧ t.frame id = none ∧
      { t.saf with peers := s.saf.peers } = { s.saf with rxBad := s.saf.rxBad + 1, rxLast := r } ∧ s.keeps t [.saf, .frames, .ham]) ∧
  (∀ (s : State) (id k : Nat) (x : Frame) (tel : List Byte), s.frame id = some x → x.loc = .safIn → x.bad = false → x.func = false →
    s.saf.started = true → s.saf.block ≠ [] → tel = x.body.drop (etherPos (hsrPos x.body).isSome x.body + 2) →
    s.saf.judge tel = (0, some k) →
    ∃ t, exec (.kptRx id) s = .next t ∧ t.frame id = none ∧ s.saf.heard t.saf k tel ∧
      (byteAt tel 13 = 2 → t.saf.cause = s.saf.cause ||| 0x20 ∧ t.saf.anyStop = true) ∧
      (byteAt tel 13 ≠ 2 → t.saf.cause = s.saf.cause ∧ t.saf.high = s.saf.high ∧ t.saf.low = s.saf.low) ∧
      t.saf.heldRel = (if byteAt tel 13 = 3 then s.saf.heldRel + 1 else s.saf.heldRel) ∧
      s.keepsRegs t safRegs ∧ s.keeps t [.regs, .saf, .frames, .ham, .log, .host, .out]) ∧
  (∀ s : State, s.saf.started = true → s.saf.heldRel + s.saf.heldLoc = 0 →
    ∃ t, exec .telegramCycleEnd s = .next t ∧ t.saf.cause = s.saf.cause ∧ t.saf.high = s.saf.high ∧ t.saf.low = s.saf.low ∧
      t.saf.dropped = s.saf.dropped ∧ t.saf.anyStop = false ∧ t.saf.sent = s.saf.sent + word s.saf.validPeers.length ∧
      (∀ k, (t.saf.peer k).stop = false ∧ (t.saf.peer k).run = (s.saf.peer k).run) ∧ s.keeps t safTraffic) ∧
  (∀ s : State, s.saf.started = true → 0 < s.saf.heldRel + s.saf.heldLoc → s.saf.anyStop = true →
    ∃ t, exec .telegramCycleEnd s = .next t ∧ t.saf.cause = s.saf.cause ∧ t.saf.high = s.saf.high ∧ t.saf.low = s.saf.low ∧
      t.saf.dropped = s.saf.dropped + word (s.saf.heldRel + s.saf.heldLoc) ∧ t.saf.heldRel = 0 ∧ t.saf.heldLoc = 0 ∧
      t.saf.anyStop = false ∧ t.saf.sent = s.saf.sent + word s.saf.validPeers.length ∧ s.keeps t safTraffic) ∧
  (∀ (s : State) (watched : Bool), s.saf.started = true → 0 < s.saf.heldRel + s.saf.heldLoc → s.saf.anyStop = false →
    (watched = true ↔ ∀ k ∈ s.saf.validPeers, s.saf.peerBit k 4 = true → 3 ≤ (s.saf.peer k).run) →
    ∃ t, exec .telegramCycleEnd s = .next t ∧
      (∀ i, t.saf.cause.getLsbD i = (s.saf.cause.getLsbD i && !((watched && [1, 6].contains i) || (s.saf.quiet && [2, 3, 4].contains i) || [5, 7, 8].contains i || (decide (0 < s.saf.heldLoc) && decide (i = 9))))) ∧
      (s.saf.cause ≠ 0 → t.saf.cause = 0 → t.saf.high = true ∧ t.saf.low = true ∧ bitOn (t.reg (.saf 0) 0x10) 1 = true) ∧
      (t.saf.cause ≠ 0 → t.saf.high = s.saf.high ∧ t.saf.low = s.saf.low) ∧ t.saf.heldRel = 0 ∧ t.saf.heldLoc = 0 ∧
      t.saf.dropped = s.saf.dropped ∧ t.saf.sent = s.saf.sent + word s.saf.validPeers.length ∧ s.keeps t safTraffic) ∧
  (∀ (s : State) (k : Fin 8), s.saf.started = true → k.val ∈ s.saf.validPeers → s.saf.peerBit k.val 4 = true →
    s.saf.cause.getLsbD 6 = false →
    ∃ t, exec (.kptWatchdogExpiry k) s = .next t ∧
      { s with saf := { s.saf with peers := setAt PeerSt.reset s.saf.peers k.val { s.saf.peer k.val with expired := true, run := 0 } } }.caused t 6 ∧
      bitOn (t.reg (.saf 0) 0x10) 2 = true) ∧
  (∀ (s : State) (k : Fin 8), s.saf.peerBit k.val 4 = false → exec (.kptWatchdogExpiry k) s = .next s) ∧
  (∀ s : State, s.saf.started = true →
    ∃ t, exec .safInternalFault s = .next t ∧ t.saf = { s.saf with started := false, testing := true, high := false, low := false } ∧
      (s.saf.on = true → bitOn (t.reg (.saf 0) 0x10) 0 = true) ∧ s.keepsRegs t safRegs ∧
      s.keeps t [.regs, .saf, .log, .host, .out]) ∧
  (∀ (s : State) (within : Nat), s.saf.testing = true →
    ∃ t, exec (.safRestartDone within) s = .next t ∧ t.saf.started = true ∧ t.saf.testing = false ∧ t.saf.high = false ∧
      t.saf.low = false ∧ t.saf.block = s.saf.block ∧ t.saf.rest24 = within ∧ t.saf.restAll = s.saf.restAll + 1 ∧
      t.saf.cause.getLsbD 1 = true ∧ t.saf.cause.getLsbD 11 = (decide (3 ≤ within) || s.saf.cause.getLsbD 11) ∧
      t.saf.cause.getLsbD 8 = !t.saf.cause.getLsbD 11 ∧
      bitOn (t.reg (.saf 0) 0x10) (if t.saf.cause.getLsbD 11 then 9 else 8) = true) ∧
  (∀ (s : State) (block : List Byte) (slot : Nat) (seq : BitVec 16), s.asked seq = true → s.saf.key slot ≠ [] → blockFault block = 0 →
    ∃ t, exec (.propose block slot true seq) s = .next t ∧
      t.saf = { s.saf with prop := block, propBy := slot, auth1 := decide (slot = 1), auth2 := decide (slot = 2), comm := slot, reason := 0, doneSeq := seq.toNat } ∧
      s.keeps t [.saf]) ∧
  (∀ (s : State) (block : List Byte) (slot reason : Nat) (sigOk : Bool) (seq : BitVec 16), s.asked seq = true →
    (s.saf.key slot = [] ∧ reason = 5) ∨ (s.saf.key slot ≠ [] ∧ blockFault block ≠ 0 ∧ reason = blockFault block) ∨
      (s.saf.key slot ≠ [] ∧ blockFault block = 0 ∧ sigOk = false ∧ reason = 1) →
    ∃ t, exec (.propose block slot sigOk seq) s = .next t ∧
      s.safRefused t { s.saf with prop := [], propBy := 0, auth1 := false, auth2 := false } reason seq.toNat) ∧
  (∀ (s : State) (slot : Nat) (seq : BitVec 16), s.asked seq = true → s.outSafe → s.saf.prop ≠ [] → s.saf.key slot ≠ [] →
    slot ≠ s.saf.propBy →
    ∃ t, exec (.safConfirm slot true seq) s = .next t ∧ t.saf.block = s.saf.prop ∧ t.saf.count = s.saf.count + 1 ∧ t.saf.prop = [] ∧
      t.saf.store = List.replicate 2 (s.saf.prop, (s.saf.count + 1).toNat) ∧
      t.saf.comm = 3 ∧ t.saf.reason = 0 ∧ t.saf.doneSeq = seq.toNat ∧ t.saf.high = false ∧ t.saf.low = false ∧
      t.saf.cause = ((s.saf.cause ||| 0x80) &&& ~~~1) ||| (if nbit (byteAt s.saf.prop 26) 0 && (s.saf.actA || s.saf.actB) then 4 else 0) ∧
      (∀ k, t.saf.peer k = PeerSt.reset) ∧ bitOn (t.reg (.saf 0) 0x10) 6 = true ∧
      (∀ i, i < 512 → t.reg (.saf 1) (0x40 + 4 * i) = word (leAt s.saf.prop (4 * i) 4)) ∧
      (∀ p, p < 4 → (listOf s.saf.prop p).len = 0 → (t.gate p).safOn = false ∧ (t.gate p).safArmed = none) ∧
      (∀ p, p < 4 → (listOf s.saf.prop p).len ≠ 0 → (t.gate p).safPend = listOf s.saf.prop p ∧ (t.gate p).safArmed.isSome = true)) ∧
  (∀ (s : State) (slot reason : Nat) (sigOk : Bool) (seq : BitVec 16), s.asked seq = true →
    (s.saf.prop = [] ∧ reason = 2) ∨ (s.saf.prop ≠ [] ∧ s.saf.key slot = [] ∧ reason = 5) ∨
      (s.saf.prop ≠ [] ∧ s.saf.key slot ≠ [] ∧ slot = s.saf.propBy ∧ reason = 4) ∨
      (s.saf.prop ≠ [] ∧ s.saf.key slot ≠ [] ∧ slot ≠ s.saf.propBy ∧ sigOk = false ∧ reason = 1) →
    ∃ t, exec (.safConfirm slot sigOk seq) s = .next t ∧ s.safRefused t s.saf reason seq.toNat) ∧
  (∀ (s : State) (seq : BitVec 16), s.asked seq = true →
    ∃ t, exec (.cancel seq) s = .next t ∧
      t.saf = { s.saf with prop := [], propBy := 0, auth1 := false, auth2 := false, comm := 0, reason := 0, doneSeq := seq.toNat, enSlot := 0, enKey := [] } ∧
      s.keeps t [.saf]) ∧
  (∀ (s : State) (slot : Nat) (key : List Byte) (seq : BitVec 16), s.asked seq = true → slot = 1 ∨ slot = 2 → key.length = 97 →
    byteAt key 0 = 4 → key ≠ s.saf.key (3 - slot) →
    ∃ t, exec (.enroll slot key seq) s = .next t ∧
      t.saf = { s.saf with enSlot := slot, enKey := key, prop := [], propBy := 0, auth1 := false, auth2 := false, comm := 6, reason := 0, doneSeq := seq.toNat } ∧
      s.keeps t [.saf]) ∧
  (∀ (s : State) (slot : Nat) (key : List Byte) (seq : BitVec 16), s.asked seq = true →
    slot ≠ 1 ∧ slot ≠ 2 ∨ key.length ≠ 97 ∨ key = s.saf.key (3 - slot) →
    ∃ t, exec (.enroll slot key seq) s = .next t ∧
      s.safRefused t { s.saf with prop := [], propBy := 0, auth1 := false, auth2 := false } 2 seq.toNat) ∧
  (∀ (s : State) (sec : Nat), s.saf.started = true → s.saf.enSlot = 1 ∨ s.saf.enSlot = 2 → 10 ≤ sec → sec ≤ 20 →
    ∃ t, exec (.enrollConfirmation sec) s = .next t ∧ t.saf.key s.saf.enSlot = s.saf.enKey ∧
      t.saf.key (3 - s.saf.enSlot) = s.saf.key (3 - s.saf.enSlot) ∧
      { t.saf with key1 := s.saf.key1, key2 := s.saf.key2 } = { s.saf with enSlot := 0, enKey := [], comm := 7, reason := 0 } ∧
      s.keeps t [.saf]) ∧
  (∀ (s : State) (sec : Nat), s.saf.enSlot = 0 ∨ sec < 10 ∨ 20 < sec → exec (.enrollConfirmation sec) s = .next s) ∧
  (∀ s : State, s.saf.enSlot ≠ 0 →
    ∃ t, exec .enrollTimeout s = .next t ∧ s.safRefused t { s.saf with enSlot := 0, enKey := [] } 6 s.saf.doneSeq) ∧
  (∀ s : State, s.saf.prop ≠ [] →
    ∃ t, exec .proposalExpiry s = .next t ∧
      t.saf = { s.saf with prop := [], propBy := 0, auth1 := false, auth2 := false, comm := 5 } ∧ s.keeps t [.saf]) ∧
  (∀ (s : State) (session : Nat), s.krds.any (fun x => x.id = session) = true →
    ∃ t, exec (.safStatus session) s = .next t ∧
      t.out = .krds session 0 0 [s.view (.saf 0) 0x48, s.view (.saf 0) 0x5C, s.view (.saf 0) 0x54] :: s.out ∧ s.keeps t [.out]) ∧
  (∀ (s : State) (seq : BitVec 16), s.saf.doneSeq = seq.toNat → exec (.cancel seq) s = .next s)

/-- The commands of the KMC-3 meter: energy, records, the legal log, the ring, its three commands, supply, clock and display.
Each second adds the active energy to A+ or A- and the reactive to its quadrant and moves the clock on. At a period boundary
and at midnight a signed record is made, kept and placed in the ring. Status events, steps and changes under the seal enter
the legal log, or are counted once 1,000 entries are used. READ_RECORD, TIME_PROPOSAL and PING are answered with the result
chapter 20 gives. A calibration fault, a phase loss, a cover, loss and return of supply, the display and a replacement do
what it says. -/
def Obligations.MeterCore : Prop :=
  (∀ (s : State) (ppm : Nat) (matched : Bool), s.metOn = true → s.meter.measuring = true → ppm ≤ 500 →
    s.meter.slot = 0 ∨ matched = true →
    ∃ t, exec (.calibrationSlot ppm matched) s = .next t ∧
      t.meter = { s.meter with faulted := s.meter.faulted.filter (fun c => c ≠ s.meter.slot), slot := (s.meter.slot + 1) % 7 } ∧
      s.keeps t [.meter]) ∧
  (∀ (s : State) (ppm : Nat) (matched : Bool), s.metOn = true → s.meter.measuring = true → s.meter.slot ≠ 0 →
    500 < ppm ∨ matched = false → s.meter.log.length < 1000 →
    ∃ t, exec (.calibrationSlot ppm matched) s = .next t ∧
      { s with meter := { s.meter with flags := s.meter.flags ||| 32, faulted := [s.meter.slot] } }.entered t 10 s.meter.slot ppm ∧
      (s.pwr.started = true → bitOn (t.reg .met 0x10) 4 = true)) ∧
  (∀ (s : State) (p q : Int) (volts amps : List Nat), s.metOn = true → s.meter.measuring = true →
    ∃ t, exec (.energyIntegrate p q volts amps) s = .next t ∧
      (∀ i, i < 6 → t.meter.regs.getD i 0 = s.meter.regs.getD i 0 + (if i = (if 0 ≤ p then 0 else 1) then p.natAbs else 0) + (if i = (if 0 ≤ p ∧ 0 ≤ q then 2 else if p < 0 ∧ 0 ≤ q then 3 else if p < 0 then 4 else 5) then q.natAbs else 0)) ∧
      t.meter.mono = s.meter.mono + 1 ∧ t.meter.pNow = p ∧ t.meter.qNow = q ∧ t.meter.volts = volts ∧ t.meter.amps = amps ∧
      (s.meter.clockSet = true → s.meter.slew = 0 → t.meter.time = s.meter.time + 1000 ∧ t.meter.slew = 0) ∧
      (s.meter.clockSet = true → 0 < s.meter.slew → t.meter.time = s.meter.time + 1001 ∧ t.meter.slew = s.meter.slew - 1) ∧
      (s.meter.clockSet = true → s.meter.slew < 0 → t.meter.time = s.meter.time + 999 ∧ t.meter.slew = s.meter.slew + 1) ∧
      (s.meter.clockSet = false → t.meter.time = s.meter.time) ∧
      { t.meter with regs := s.meter.regs, vmin := s.meter.vmin, mono := s.meter.mono, time := s.meter.time, slew := s.meter.slew, volts := s.meter.volts, amps := s.meter.amps, pNow := s.meter.pNow, qNow := s.meter.qNow } = s.meter ∧
      s.keeps t [.meter]) ∧
  (∀ s : State, s.metOn = true → s.meter.periodOf s.meter.time ≠ s.meter.mark →
    ∃ (t : State) (r : MetRec), exec .intervalRecord s = .next t ∧ s.recorded t r ∧ t.meter.interval = (r :: s.meter.interval).take 8192 ∧
      r.type = 1 ∧ r.time = s.meter.periodOf s.meter.time * (s.meter.period * 60000) ∧ r.regs = s.meter.whole ∧
      r.period = s.meter.period ∧ r.count = s.meter.log.length ∧ r.vmin = s.meter.vmin ∧
      nbit r.flags 4 = (nbit s.meter.flagsNow 4 || decide ((r.time : Int) - s.meter.started ≠ (s.meter.period * 60000 : Nat))) ∧
      t.meter.flags = 0 ∧ t.meter.vmin = 65535 ∧ t.meter.started = r.time ∧ t.meter.log = s.meter.log ∧
      t.meter.daily = s.meter.daily ∧ t.meter.regs = s.meter.regs ∧
      (s.meter.newPeriod = none → t.meter.period = s.meter.period ∧ t.meter.mark = s.meter.periodOf r.time) ∧
      (∀ q, s.meter.newPeriod = some q → r.time % (q * 60000) = 0 → t.meter.period = q)) ∧
  (∀ s : State, s.metOn = true → s.meter.periodOf s.meter.time = s.meter.mark → exec .intervalRecord s = .next s) ∧
  (∀ s : State, s.metOn = true → dayOf s.meter.time ≠ s.meter.dayMark → s.meter.unlogged = 0 →
    ∃ (t : State) (r : MetRec), exec .dailyRecord s = .next t ∧ s.recorded t r ∧ t.meter.daily = (r :: s.meter.daily).take 1024 ∧
      r.type = 2 ∧ r.time = dayOf s.meter.time * 86400000 ∧ r.regs = s.meter.whole ∧ t.meter.dayMark = dayOf s.meter.time ∧
      t.meter.interval = s.meter.interval ∧ t.meter.log = s.meter.log ∧ t.meter.regs = s.meter.regs) ∧
  (∀ s : State, s.metOn = true → dayOf s.meter.time ≠ s.meter.dayMark → 0 < s.meter.unlogged → s.meter.log.length < 1024 →
    ∃ (t : State) (d e : MetRec), exec .dailyRecord s = .next t ∧ t.meter.daily = (d :: s.meter.daily).take 1024 ∧ d.type = 2 ∧
      t.meter.log = s.meter.log ++ [e] ∧ e.code = 12 ∧ e.new = s.meter.unlogged ∧ t.meter.unlogged = 0 ∧
      t.meter.placed = s.meter.placed + 2 ∧ s.keepsRegs t metRegs ∧ s.keeps t [.regs, .meter, .log, .host, .out]) ∧
  (∀ s : State, s.metOn = true → s.pwr.started = true →
    ∃ t, exec .metPublish s = .next t ∧ t.metShows ∧ t.reg .met 0x2C = s.reg .met 0x2C + 1 ∧
      t.meter = { s.meter with answered := true } ∧ bitOn (t.reg .mbxMet 0x4C) 0 = true ∧
      (bitOn (s.reg .mbxMet 0x4C) 0 = false → bitOn (t.reg .mbxMet 0x10) 1 = true) ∧
      (bitOn (t.reg .mbxMet 0x4C) 1 = (bitOn (s.reg .mbxMet 0x4C) 1 && !(decide (fld s.meter.done 31 24 = s.field .mbxMet 0x4C 31 24) && decide (fld s.meter.done 17 16 = s.meter.op)))) ∧
      s.keepsRegs t metRegs ∧ s.keeps t [.regs, .meter, .log, .host, .out]) ∧
  (∀ s : State, s.metOn = false → exec .metPublish s = .next s ∧ exec .intervalRecord s = .next s ∧ exec .dailyRecord s = .next s) ∧
  (∀ (s : State) (r : MetRec), s.metAsked 1 = true → s.field .mbxMet 0x48 1 0 < 3 →
    s.field .mbxMet 0x48 1 0 = 2 → (s.reg .mbxMet 0x44).toNat < 1024 →
    s.meter.held (s.field .mbxMet 0x48 1 0) (s.reg .mbxMet 0x44).toNat = some r →
    ∃ t, exec .readRecord s = .next t ∧ s.metEnds t 0 ∧ t.meter.ring = (r :: s.meter.ring).take 128 ∧
      t.meter.placed = s.meter.placed + 1 ∧
      { t.meter with ring := s.meter.ring, placed := s.meter.placed, done := s.meter.done, answered := s.meter.answered } = s.meter) ∧
  (∀ (s : State) (r : MetRec), s.metAsked 1 = true → s.field .mbxMet 0x48 1 0 < 2 →
    s.meter.held (s.field .mbxMet 0x48 1 0) (s.reg .mbxMet 0x44).toNat = some r →
    ∃ t, exec .readRecord s = .next t ∧ s.metEnds t 0 ∧ t.meter.ring = (r :: s.meter.ring).take 128 ∧
      t.meter.placed = s.meter.placed + 1) ∧
  (∀ s : State, s.metAsked 1 = true → s.field .mbxMet 0x48 1 0 = 3 ∨ (s.field .mbxMet 0x48 1 0 = 2 ∧ 1024 ≤ (s.reg .mbxMet 0x44).toNat) →
    ∃ t, exec .readRecord s = .next t ∧ s.metEnds t 2 ∧ t.meter.ring = s.meter.ring ∧ t.meter.placed = s.meter.placed) ∧
  (∀ s : State, s.metAsked 1 = true → s.field .mbxMet 0x48 1 0 < 2 →
    s.meter.held (s.field .mbxMet 0x48 1 0) (s.reg .mbxMet 0x44).toNat = none →
    ∃ t, exec .readRecord s = .next t ∧ s.metEnds t 1 ∧ t.meter.ring = s.meter.ring ∧ t.meter.placed = s.meter.placed) ∧
  (∀ (s : State) (arg : Nat), s.meter.held 2 arg = s.meter.log[arg]? ∧
    (∀ r, s.meter.held 0 arg = some r → r ∈ s.meter.interval ∧ r.recno = arg) ∧
    (∀ r, s.meter.held 1 arg = some r → r ∈ s.meter.daily ∧ r.recno = arg)) ∧
  (∀ s : State, s.metAsked 3 = true →
    ∃ t, exec .ping s = .next t ∧ s.metEnds t 0 ∧ t.meter.echo = s.reg .mbxMet 0x44 ∧
      { t.meter with echo := s.meter.echo, done := s.meter.done, answered := s.meter.answered } = s.meter) ∧
  (∀ s : State, s.metAsked 3 = false → exec .ping s = .next s) ∧
  (∀ (s : State) (ns : Nat) (state : Fin 4), s.metAsked 2 = false ∨ s.ptpSample ns state.val = false →
    exec (.timeProposal ns state) s = .next s) ∧
  (∀ (s : State) (ns : Nat) (state : Fin 4) (off : Int), s.metAsked 2 = true → s.ptpSample ns state.val = true →
    off = (ns / 1000000 : Nat) - (BitVec.ofNat 16 (s.field .mbxMet 0x48 15 0)).toInt * 1000 - s.meter.time →
    (state.val ≠ 2 →
      ∃ t, exec (.timeProposal ns state) s = .next t ∧ s.metEnds t 6 ∧ t.meter.refused = s.meter.refused + 1 ∧
        t.meter.time = s.meter.time ∧ t.meter.slew = s.meter.slew ∧ t.meter.offset = off ∧ t.meter.log = s.meter.log ∧
        (s.pwr.started = true → bitOn (t.reg .met 0x10) 2 = true)) ∧
    (state.val = 2 → off.natAbs ≤ 9000 →
      ∃ t, exec (.timeProposal ns state) s = .next t ∧ s.metEnds t 3 ∧ t.meter.slew = off ∧ t.meter.time = s.meter.time ∧
        t.meter.offset = off ∧ t.meter.refused = s.meter.refused ∧ t.meter.log = s.meter.log) ∧
    (state.val = 2 → 9000 < off.natAbs → 1024 ≤ s.meter.log.length →
      ∃ t, exec (.timeProposal ns state) s = .next t ∧ s.metEnds t 7 ∧ t.meter.refused = s.meter.refused + 1 ∧
        t.meter.time = s.meter.time ∧ t.meter.log = s.meter.log) ∧
    (∀ l, state.val = 2 → 9000 < off.natAbs → s.meter.log.length < 1024 → s.meter.lastStep = some l → s.meter.mono < l + 86400 →
      ∃ t, exec (.timeProposal ns state) s = .next t ∧ s.metEnds t 5 ∧ t.meter.refused = s.meter.refused + 1 ∧
        t.meter.time = s.meter.time ∧ t.meter.log = s.meter.log) ∧
    (state.val = 2 → 9000 < off.natAbs → s.meter.log.length < 1024 → (∀ l, s.meter.lastStep = some l → l + 86400 ≤ s.meter.mono) →
      ∃ (t : State) (r : MetRec), exec (.timeProposal ns state) s = .next t ∧ s.metEnds t 4 ∧ t.meter.time = (off + s.meter.time).toNat ∧
        t.meter.clockSet = true ∧ t.meter.slew = 0 ∧ t.meter.lastStep = some s.meter.mono ∧ t.meter.log = s.meter.log ++ [r] ∧
        r.code = 3 ∧ r.old = s.meter.time ∧ r.new = t.meter.time ∧ t.meter.refused = s.meter.refused ∧
        nbit t.meter.flags 1 = true ∧ t.meter.interval = s.meter.interval ∧ t.meter.regs = s.meter.regs ∧
        (s.pwr.started = true → bitOn (t.reg .met 0x10) 1 = true))) ∧
  (∀ s : State, s.hasMeter = true → bitOn (s.reg .mbxMet 0x4C) 1 = true →
    ∃ t, exec .meterLost s = .next t ∧ t.meter = { s.meter with answered := false } ∧ bitOn (t.reg .mbxMet 0x4C) 0 = false ∧
      bitOn (t.reg .mbxMet 0x4C) 1 = false ∧ bitOn (t.reg .mbxMet 0x10) 0 = true ∧
      s.keepsRegs t ((.mbxMet, 0x4C) :: eventRegs .mbxMet) ∧ s.keeps t [.regs, .meter, .log, .host, .out]) ∧
  (∀ s : State, s.hasMeter = false ∨ bitOn (s.reg .mbxMet 0x4C) 1 = false → exec .meterLost s = .next s) ∧
  (∀ s : State, s.metOn = true → s.meter.slew ≠ 0 → s.meter.clockSet = true → 0 ≤ s.meter.time + s.meter.slew →
    ∃ t, exec .meterSlewEnd s = .next t ∧ (t.meter.time : Int) = s.meter.time + s.meter.slew ∧
      { t.meter with time := s.meter.time } = { s.meter with slew := 0 } ∧ s.keeps t [.meter]) ∧
  (∀ s : State, s.hasMeter = true → s.meter.fitted = true → s.meter.supplied = true →
    ∃ t, exec .meterSupplyLost s = .next t ∧ t.meter = { s.meter with supplied := false, holdup := true } ∧ s.keeps t [.meter]) ∧
  (∀ s : State, s.hasMeter = true → s.meter.fitted = true → s.meter.holdup = true → s.meter.log.length < 1000 →
    ∃ (t : State) (r e : MetRec), exec .meterHoldupEnd s = .next t ∧ t.meter.holdup = false ∧ t.meter.measuring = false ∧
      t.meter.answered = false ∧ t.meter.slew = 0 ∧ t.meter.downAt = s.meter.time ∧ t.meter.time = s.meter.time ∧
      t.meter.interval = (r :: s.meter.interval).take 8192 ∧ r.type = 1 ∧ r.time = s.meter.time ∧ nbit r.flags 0 = true ∧
      t.meter.log = s.meter.log ++ [e] ∧ e.code = 1 ∧ e.old = s.meter.time ∧ t.meter.regs = s.meter.regs ∧
      bitOn (t.reg .mbxMet 0x4C) 0 = false ∧ s.keepsRegs t metRegs ∧ s.keeps t [.regs, .meter, .log, .host, .out]) ∧
  (∀ s : State, s.hasMeter = true → s.meter.fitted = true → s.meter.supplied = false → s.meter.holdup = false →
    ∃ t, exec .meterClockBackupExhausted s = .next t ∧ t.meter = { s.meter with backupGone := true } ∧ s.keeps t [.meter]) ∧
  (∀ s : State, s.hasMeter = false ∨ s.meter.supplied = true ∨ s.meter.holdup = true → exec .meterClockBackupExhausted s = .next s) ∧
  (∀ (s : State) (sec : Nat), s.hasMeter = true → s.meter.fitted = true → s.meter.supplied = false → s.meter.holdup = true →
    ∃ t, exec (.meterSupplyRestored sec) s = .next t ∧ t.meter = { s.meter with supplied := true, holdup := false } ∧
      s.keeps t [.meter]) ∧
  (∀ (s : State) (sec : Nat), s.hasMeter = true → s.meter.fitted = true → s.meter.supplied = false → s.meter.holdup = false →
    s.meter.backupGone = false → s.meter.clockSet = true → s.meter.log.length < 1000 →
    ∃ t, exec (.meterSupplyRestored sec) s = .next t ∧ t.meter.supplied = true ∧ t.meter.measuring = true ∧
      t.meter.time = s.meter.time + 1000 * sec ∧ t.meter.mono = s.meter.mono + sec ∧ t.meter.regs = s.meter.regs ∧
      t.meter.clockSet = true ∧ (∃ r : MetRec, t.meter.log = s.meter.log ++ [r] ∧ r.code = 2 ∧ r.old = t.meter.time) ∧
      (s.pwr.started = true → t.metShows) ∧ s.keepsRegs t metRegs ∧ s.keeps t [.regs, .meter, .log, .host, .out]) ∧
  (∀ (s : State) (sec : Nat), s.hasMeter = true → s.meter.fitted = true → s.meter.supplied = false → s.meter.holdup = false →
    s.meter.backupGone = true → s.meter.log.length < 999 →
    ∃ t, exec (.meterSupplyRestored sec) s = .next t ∧ t.meter.supplied = true ∧ t.meter.clockSet = false ∧
      t.meter.time = s.meter.downAt ∧ t.meter.mono = 0 ∧ t.meter.lastStep = none ∧ t.meter.backupGone = false ∧
      (∃ r e : MetRec, t.meter.log = s.meter.log ++ [r, e] ∧ r.code = 2 ∧ e.code = 11) ∧ s.keepsRegs t metRegs ∧
      s.keeps t [.regs, .meter, .log, .host, .out]) ∧
  (∀ (s : State) (k : Fin 3), s.metOn = true → s.meter.phase.getD k.val false = false → s.meter.log.length < 1000 →
    ∃ t, exec (.phaseLoss k true) s = .next t ∧
      { s with meter := { s.meter with phase := setAt false s.meter.phase k.val true, flags := s.meter.flags ||| 8 } }.entered t 8 (k.val + 1) 0) ∧
  (∀ (s : State) (k : Fin 3), s.metOn = true → s.meter.phase.getD k.val false = true → s.meter.log.length < 1000 →
    ∃ t, exec (.phaseLoss k false) s = .next t ∧
      { s with meter := { s.meter with phase := setAt false s.meter.phase k.val false } }.entered t 9 (k.val + 1) 0) ∧
  (∀ (s : State) (k : Fin 3) (began : Bool), s.meter.phase.getD k.val false = began → exec (.phaseLoss k began) s = .next s) ∧
  (∀ (s : State) (opened : Bool), s.metOn = true → s.meter.log.length < 1000 →
    ∃ t, exec (.terminalCoverOpened opened) s = .next t ∧ s.entered t (if opened then 6 else 7) 0 0 ∧
      (s.meter.log.length = 999 → s.pwr.started = true → bitOn (t.reg .met 0x10) 3 = true)) ∧
  (∀ (s : State) (opened : Bool), s.metOn = true → 1000 ≤ s.meter.log.length →
    ∃ t, exec (.terminalCoverOpened opened) s = .next t ∧ t.meter = { s.meter with unlogged := min 65535 (s.meter.unlogged + 1) } ∧
      s.keeps t [.meter]) ∧
  (∀ s : State, s.metOn = true →
    ∃ t, exec (.displayButton false) s = .next t ∧ t.meter = { s.meter with item := (s.meter.item + 1) % 12, allSeg := false } ∧
      t.out = .display ((s.meter.item + 1) % 12) :: s.out ∧ s.keeps t [.meter, .out]) ∧
  (∀ s : State, s.metOn = true →
    ∃ t, exec (.displayButton true) s = .next t ∧ t.meter = { s.meter with allSeg := true } ∧ s.keeps t [.meter]) ∧
  (∀ s : State, s.metOn = true →
    ∃ t, exec .displayTimeout s = .next t ∧ t.meter = { s.meter with item := 1, allSeg := false } ∧ t.out = .display 1 :: s.out ∧
      s.keeps t [.meter, .out]) ∧
  (∀ (s : State) (id fw : Nat) (pubkey : List Byte), s.hasMeter = true →
    ∃ t, exec (.meterModuleReplace id fw pubkey) s = .next t ∧
      t.meter = { MeterSt.reset with id := id, fw := fw, pubkey := pubkey } ∧ t.reg .mbxMet 0x4C = putBit (s.reg .mbxMet 0x4C) 0 false ∧
      s.keepsRegs t [(.mbxMet, 0x4C)] ∧ s.keeps t [.regs, .meter]) ∧
  (∀ (s : State) (setting old new : Nat), s.metOn = true → s.meter.log.length < 1024 →
    ∃ t, exec (.meterServicePortChange true setting old new) s = .next t ∧ t.meter.fw = new % 2 ^ 32 ∧
      (∃ r : MetRec, t.meter.log = s.meter.log ++ [r] ∧ r.code = 5 ∧ r.old = s.meter.fw ∧ r.new = new ∧ r.fw = s.meter.fw) ∧
      t.meter.regs = s.meter.regs ∧ s.keepsRegs t metRegs ∧ s.keeps t [.regs, .meter, .log, .host, .out]) ∧
  (∀ (s : State) (old new : Nat), s.metOn = true → s.meter.log.length < 1024 → new ∈ [1, 5, 10, 15, 30, 60] → new ≠ s.meter.period →
    ∃ t, exec (.meterServicePortChange false 0 old new) s = .next t ∧ t.meter.newPeriod = some new ∧ t.meter.period = s.meter.period ∧
      (∃ r : MetRec, t.meter.log = s.meter.log ++ [r] ∧ r.code = 4 ∧ r.new = new) ∧ s.keepsRegs t metRegs ∧
      s.keeps t [.regs, .meter, .log, .host, .out]) ∧
  (∀ (s : State) (firmware : Bool) (setting old new : Nat), 1024 ≤ s.meter.log.length →
    exec (.meterServicePortChange firmware setting old new) s = .next s)

/-- A thread that holds a taken frame longer than NYC_HOLD.US faults with HOLD_LIMIT; the frame is dropped and its gate place
released. For a thread that has not ended and a running, unhalted cluster with room in its fault queue: once the thread has
held a taken frame longer than NYC_HOLD.US it is HALTED, a record of cause 8 with the microseconds held, saturating, stands
at the end of the fault queue, the frame no longer exists, and a frame that waited in the order gate for this one alone may
leave. A thread that holds a frame no longer than that does not fault. -/
def Obligations.HoldLimitFaultsAndFreesTheFrame : Prop :=
  (∀ (s : State) (c : Fin 8) (k : Fin 128) (id slot us : Nat) (x : Frame), (s.thread c.val k.val).slots.getD slot none = some id →
    s.frame id = some x → x.loc = .held c.val k.val slot → s.field (.nyc c) 0x4C 15 0 < us →
    (s.thread c.val k.val).st ≠ .halted → (s.thread c.val k.val).st ≠ .idle → s.runs (.nyc c) = true →
    (s.cluster c.val).halt = 0 → (s.cluster c.val).faults.length < 64 →
    ∃ (t : State) (r : FaultRec), exec (.holdLimit c k us) s = .next t ∧ (t.thread c.val k.val).st = .halted ∧
      (t.cluster c.val).faults = (s.cluster c.val).faults ++ [r] ∧
      r.w0.toNat = k.val / 16 * 2 ^ 15 + k.val % 16 * 2 ^ 11 + 8 * 2 ^ 5 ∧ r.w2.toNat = min us 262143 ∧
      t.frame id = none ∧ (∀ y ∈ t.frames, y.id ≠ id) ∧
      (∀ j : Nat, (∀ z ∈ s.frames, z.id ≠ id → z.id ≠ j → z.gate ≠ x.gate) → gateClear j x.gate t.frames = true)) ∧
  (∀ (s : State) (c : Fin 8) (k : Fin 128) (us : Nat), us ≤ s.field (.nyc c) 0x4C 15 0 →
    exec (.holdLimit c k us) s = .next s)
end

