-- ==== Sys2Proof/Laws/Sparse.lean ====
section
/-!
SUPPORT. Laws/Sparse.lean: the laws of the finite maps: a read after a write gives the value written, a write leaves every
other key alone, and every operation keeps the canonical form.
-/
namespace Sys2Proof.Machine

variable {α : Type}

@[simp] theorem Sparse.find_nil (k : Nat) : Sparse.find ([] : Sparse α) k = none := rfl

@[simp] theorem Sparse.get_nil (d : α) (k : Nat) : Sparse.get d [] k = d := rfl

@[simp] theorem Sparse.find_put_same (m : Sparse α) (k : Nat) (v : α) : Sparse.find (Sparse.put m k v) k = some v := by
  induction m with
  | nil => simp [Sparse.put, Sparse.find]
  | cons e r ih =>
    obtain ⟨j, w⟩ := e
    simp only [Sparse.put]
    split
    · simp [Sparse.find]
    · split
      · simp [Sparse.find]
      · rename_i h; simp [Sparse.find, h, ih]

theorem Sparse.find_put_ne (m : Sparse α) {k j : Nat} (h : j ≠ k) (v : α) :
    Sparse.find (Sparse.put m k v) j = Sparse.find m j := by
  induction m with
  | nil => simp [Sparse.put, Sparse.find, Ne.symm h]
  | cons e r ih =>
    obtain ⟨i, w⟩ := e
    simp only [Sparse.put]
    split
    · simp [Sparse.find, Ne.symm h]
    · split
      · rename_i hi; subst hi; simp [Sparse.find, Ne.symm h]
      · simp [Sparse.find, ih]

@[simp] theorem Sparse.find_del_same (m : Sparse α) (k : Nat) : Sparse.find (Sparse.del m k) k = none := by
  induction m with
  | nil => rfl
  | cons e r ih =>
    obtain ⟨i, w⟩ := e
    by_cases hi : i = k
    · simpa [Sparse.del, hi] using ih
    · simpa [Sparse.del, hi, Sparse.find] using ih

theorem Sparse.find_del_ne (m : Sparse α) {k j : Nat} (h : j ≠ k) : Sparse.find (Sparse.del m k) j = Sparse.find m j := by
  induction m with
  | nil => rfl
  | cons e r ih =>
    obtain ⟨i, w⟩ := e
    by_cases hi : i = k
    · subst hi; simpa [Sparse.del, Sparse.find, Ne.symm h] using ih
    · have e : Sparse.del ((i, w) :: r) k = (i, w) :: Sparse.del r k := by simp [Sparse.del, hi]
      rw [e]; simp only [Sparse.find, ih]

/-- What a key reads as after an entry was listed. -/
theorem Sparse.find_put (m : Sparse α) (k j : Nat) (v : α) :
    Sparse.find (Sparse.put m k v) j = if j = k then some v else Sparse.find m j := by
  by_cases h : j = k
  · subst h; simp
  · simp [h, Sparse.find_put_ne m h]

/-- What a key reads as after a key was unlisted. -/
theorem Sparse.find_del (m : Sparse α) (k j : Nat) :
    Sparse.find (Sparse.del m k) j = if j = k then none else Sparse.find m j := by
  by_cases h : j = k
  · subst h; simp
  · simp [h, Sparse.find_del_ne m h]

@[simp] theorem Sparse.get_put_same (d : α) (m : Sparse α) (k : Nat) (v : α) : Sparse.get d (Sparse.put m k v) k = v := by
  simp [Sparse.get]

theorem Sparse.get_put_ne (d : α) (m : Sparse α) {k j : Nat} (h : j ≠ k) (v : α) :
    Sparse.get d (Sparse.put m k v) j = Sparse.get d m j := by
  simp [Sparse.get, Sparse.find_put_ne m h]

/-- A read after a write gives the value written. -/
@[simp] theorem Sparse.get_set_same [DecidableEq α] (d : α) (m : Sparse α) (k : Nat) (v : α) :
    Sparse.get d (Sparse.set d m k v) k = v := by
  unfold Sparse.set
  split <;> simp_all [Sparse.get]

/-- A write leaves every other key alone, whatever its default. -/
theorem Sparse.get_set_ne [DecidableEq α] (d d' : α) (m : Sparse α) {k j : Nat} (h : j ≠ k) (v : α) :
    Sparse.get d' (Sparse.set d m k v) j = Sparse.get d' m j := by
  unfold Sparse.set Sparse.get
  split <;> simp [Sparse.find_put_ne m h, Sparse.find_del_ne m h]

theorem Sparse.find_set_ne [DecidableEq α] (d : α) (m : Sparse α) {k j : Nat} (h : j ≠ k) (v : α) :
    Sparse.find (Sparse.set d m k v) j = Sparse.find m j := by
  unfold Sparse.set
  split <;> simp [Sparse.find_put_ne m h, Sparse.find_del_ne m h]

/-! ## The canonical form -/

theorem Sparse.above_mono {lo lo' : Nat} (h : lo' ≤ lo) (m : Sparse α) (hm : Sparse.above lo m = true) :
    Sparse.above lo' m = true := by
  cases m with
  | nil => rfl
  | cons e r => simp_all [Sparse.above]; omega

theorem Sparse.above_put {lo k : Nat} (h : lo < k) (m : Sparse α) (v : α) (hm : Sparse.above lo m = true) :
    Sparse.above lo (Sparse.put m k v) = true := by
  induction m generalizing lo with
  | nil => simp [Sparse.put, Sparse.above, h]
  | cons e r ih =>
    obtain ⟨j, w⟩ := e
    simp only [Sparse.above, Bool.and_eq_true, decide_eq_true_eq] at hm
    simp only [Sparse.put]
    split
    · simp_all [Sparse.above]
    · split
      · simp_all [Sparse.above]
      · have hj : j < k := by omega
        simp [Sparse.above, hm.1, ih hj hm.2]

theorem Sparse.above_filter (lo : Nat) (m : Sparse α) (p : Nat × α → Bool) (hm : Sparse.above lo m = true) :
    Sparse.above lo (m.filter p) = true := by
  induction m generalizing lo with
  | nil => rfl
  | cons e r ih =>
    obtain ⟨j, w⟩ := e
    simp only [Sparse.above, Bool.and_eq_true, decide_eq_true_eq] at hm
    by_cases hp : p (j, w) = true
    · simp [hp, Sparse.above, hm.1, ih j hm.2]
    · simpa [hp] using ih lo (Sparse.above_mono (Nat.le_of_lt hm.1) r hm.2)

theorem Sparse.sorted_of_above (lo : Nat) (m : Sparse α) (hm : Sparse.above lo m = true) : Sparse.sorted m = true := by
  cases m with
  | nil => rfl
  | cons e r => simp_all [Sparse.above, Sparse.sorted]

theorem Sparse.sorted_put (m : Sparse α) (k : Nat) (v : α) (hm : Sparse.sorted m = true) :
    Sparse.sorted (Sparse.put m k v) = true := by
  cases m with
  | nil => rfl
  | cons e r =>
    obtain ⟨j, w⟩ := e
    simp only [Sparse.sorted] at hm
    simp only [Sparse.put]
    split
    · simp_all [Sparse.sorted, Sparse.above]
    · split
      · simp_all [Sparse.sorted]
      · simp only [Sparse.sorted]; exact Sparse.above_put (by omega) r v hm

theorem Sparse.sorted_filter (m : Sparse α) (p : Nat × α → Bool) (hm : Sparse.sorted m = true) :
    Sparse.sorted (m.filter p) = true := by
  cases m with
  | nil => rfl
  | cons e r =>
    obtain ⟨j, w⟩ := e
    simp only [Sparse.sorted] at hm
    by_cases hp : p (j, w) = true
    · simpa [hp, Sparse.sorted] using Sparse.above_filter j r p hm
    · simpa [hp] using Sparse.sorted_of_above j _ (Sparse.above_filter j r p hm)

theorem Sparse.sorted_del (m : Sparse α) (k : Nat) (hm : Sparse.sorted m = true) : Sparse.sorted (Sparse.del m k) = true :=
  Sparse.sorted_filter m _ hm

theorem Sparse.sorted_keep (p : Nat → Bool) (m : Sparse α) (hm : Sparse.sorted m = true) :
    Sparse.sorted (Sparse.keep p m) = true :=
  Sparse.sorted_filter m _ hm

theorem Sparse.sorted_set [DecidableEq α] (d : α) (m : Sparse α) (k : Nat) (v : α) (hm : Sparse.sorted m = true) :
    Sparse.sorted (Sparse.set d m k v) = true := by
  unfold Sparse.set
  split
  · exact Sparse.sorted_del m k hm
  · exact Sparse.sorted_put m k v hm

theorem Sparse.mem_put {m : Sparse α} {k : Nat} {v : α} {e : Nat × α} (h : e ∈ Sparse.put m k v) : e = (k, v) ∨ e ∈ m := by
  induction m with
  | nil => simpa [Sparse.put] using h
  | cons x r ih =>
    obtain ⟨j, w⟩ := x
    simp only [Sparse.put] at h
    split at h
    · simpa using h
    · split at h
      · simp only [List.mem_cons] at h ⊢; exact h.imp_right .inr
      · simp only [List.mem_cons] at h ⊢
        rcases h with h | h
        · exact .inr (.inl h)
        · exact (ih h).imp_right .inr

/-- A write of `v` at `k` keeps the canonical form: the default is never listed. -/
theorem Sparse.wf_set [DecidableEq α] (d : Nat → α) (m : Sparse α) (k : Nat) (v : α) (hm : Sparse.wf d m = true) :
    Sparse.wf d (Sparse.set (d k) m k v) = true := by
  simp only [Sparse.wf, Bool.and_eq_true, List.all_eq_true, Bool.not_eq_true', decide_eq_false_iff_not] at hm ⊢
  refine ⟨Sparse.sorted_set _ _ _ _ hm.1, fun e he => ?_⟩
  unfold Sparse.set at he
  split at he
  · exact hm.2 e (List.mem_filter.mp he).1
  · rcases Sparse.mem_put he with rfl | he
    · assumption
    · exact hm.2 e he

end Sys2Proof.Machine
end

