-- ==== Sys2Proof/Laws/State.lean ====
section
/-!
SUPPORT. Laws/State.lean: what each update of the state leaves alone, field by field, each true by definition and a rewrite
rule; then what a register reads as after each of them.
-/
namespace Sys2Proof.Machine

open Sys2Proof

/-! ## Every other field -/

@[simp] theorem State.setReg_frame (s : State) (p : Page) (off : Nat) (v : Word) :
    (s.setReg p off v).locks = s.locks ∧ (s.setReg p off v).snaps = s.snaps ∧ (s.setReg p off v).held = s.held ∧
    (s.setReg p off v).log = s.log ∧ (s.setReg p off v).pwr = s.pwr ∧ (s.setReg p off v).boot = s.boot ∧
    (s.setReg p off v).keys = s.keys ∧ (s.setReg p off v).fram = s.fram ∧ (s.setReg p off v).isl = s.isl ∧
    (s.setReg p off v).clk = s.clk ∧ (s.setReg p off v).host = s.host ∧ (s.setReg p off v).funcs = s.funcs ∧
    (s.setReg p off v).queues = s.queues ∧ (s.setReg p off v).ham = s.ham ∧ (s.setReg p off v).frames = s.frames ∧
    (s.setReg p off v).nextId = s.nextId ∧ (s.setReg p off v).ports = s.ports ∧ (s.setReg p off v).gates = s.gates ∧
    (s.setReg p off v).ptp = s.ptp ∧ (s.setReg p off v).ring = s.ring ∧ (s.setReg p off v).tbl = s.tbl ∧
    (s.setReg p off v).cry = s.cry ∧ (s.setReg p off v).tun = s.tun ∧ (s.setReg p off v).sto = s.sto ∧
    (s.setReg p off v).nyate = s.nyate ∧ (s.setReg p off v).krds = s.krds ∧ (s.setReg p off v).console = s.console ∧
    (s.setReg p off v).twp = s.twp ∧ (s.setReg p off v).sens = s.sens ∧ (s.setReg p off v).safBox = s.safBox ∧
    (s.setReg p off v).saf = s.saf ∧ (s.setReg p off v).meter = s.meter ∧ (s.setReg p off v).out = s.out ∧
    (s.setReg p off v).pending = s.pending :=
  by and_intros <;> rfl

@[simp] theorem State.setField_frame (s : State) (p : Page) (off hi lo v : Nat) :
    (s.setField p off hi lo v).locks = s.locks ∧ (s.setField p off hi lo v).snaps = s.snaps ∧
    (s.setField p off hi lo v).held = s.held ∧ (s.setField p off hi lo v).log = s.log ∧
    (s.setField p off hi lo v).pwr = s.pwr ∧ (s.setField p off hi lo v).boot = s.boot ∧
    (s.setField p off hi lo v).keys = s.keys ∧ (s.setField p off hi lo v).fram = s.fram ∧
    (s.setField p off hi lo v).isl = s.isl ∧ (s.setField p off hi lo v).clk = s.clk ∧
    (s.setField p off hi lo v).host = s.host ∧ (s.setField p off hi lo v).funcs = s.funcs ∧
    (s.setField p off hi lo v).queues = s.queues ∧ (s.setField p off hi lo v).ham = s.ham ∧
    (s.setField p off hi lo v).frames = s.frames ∧ (s.setField p off hi lo v).nextId = s.nextId ∧
    (s.setField p off hi lo v).ports = s.ports ∧ (s.setField p off hi lo v).gates = s.gates ∧
    (s.setField p off hi lo v).ptp = s.ptp ∧ (s.setField p off hi lo v).ring = s.ring ∧
    (s.setField p off hi lo v).tbl = s.tbl ∧ (s.setField p off hi lo v).cry = s.cry ∧
    (s.setField p off hi lo v).tun = s.tun ∧ (s.setField p off hi lo v).sto = s.sto ∧
    (s.setField p off hi lo v).nyate = s.nyate ∧ (s.setField p off hi lo v).krds = s.krds ∧
    (s.setField p off hi lo v).console = s.console ∧ (s.setField p off hi lo v).twp = s.twp ∧
    (s.setField p off hi lo v).sens = s.sens ∧ (s.setField p off hi lo v).safBox = s.safBox ∧
    (s.setField p off hi lo v).saf = s.saf ∧ (s.setField p off hi lo v).meter = s.meter ∧
    (s.setField p off hi lo v).out = s.out ∧ (s.setField p off hi lo v).pending = s.pending :=
  State.setReg_frame s p off _

@[simp] theorem State.setBit_frame (s : State) (p : Page) (off i : Nat) (b : Bool) :
    (s.setBit p off i b).locks = s.locks ∧ (s.setBit p off i b).snaps = s.snaps ∧ (s.setBit p off i b).held = s.held ∧
    (s.setBit p off i b).log = s.log ∧ (s.setBit p off i b).pwr = s.pwr ∧ (s.setBit p off i b).boot = s.boot ∧
    (s.setBit p off i b).keys = s.keys ∧ (s.setBit p off i b).fram = s.fram ∧ (s.setBit p off i b).isl = s.isl ∧
    (s.setBit p off i b).clk = s.clk ∧ (s.setBit p off i b).host = s.host ∧ (s.setBit p off i b).funcs = s.funcs ∧
    (s.setBit p off i b).queues = s.queues ∧ (s.setBit p off i b).ham = s.ham ∧ (s.setBit p off i b).frames = s.frames ∧
    (s.setBit p off i b).nextId = s.nextId ∧ (s.setBit p off i b).ports = s.ports ∧ (s.setBit p off i b).gates = s.gates ∧
    (s.setBit p off i b).ptp = s.ptp ∧ (s.setBit p off i b).ring = s.ring ∧ (s.setBit p off i b).tbl = s.tbl ∧
    (s.setBit p off i b).cry = s.cry ∧ (s.setBit p off i b).tun = s.tun ∧ (s.setBit p off i b).sto = s.sto ∧
    (s.setBit p off i b).nyate = s.nyate ∧ (s.setBit p off i b).krds = s.krds ∧ (s.setBit p off i b).console = s.console ∧
    (s.setBit p off i b).twp = s.twp ∧ (s.setBit p off i b).sens = s.sens ∧ (s.setBit p off i b).safBox = s.safBox ∧
    (s.setBit p off i b).saf = s.saf ∧ (s.setBit p off i b).meter = s.meter ∧ (s.setBit p off i b).out = s.out ∧
    (s.setBit p off i b).pending = s.pending :=
  State.setReg_frame s p off _

@[simp] theorem State.add_frame (s : State) (p : Page) (off hi lo n : Nat) :
    (s.add p off hi lo n).locks = s.locks ∧ (s.add p off hi lo n).snaps = s.snaps ∧ (s.add p off hi lo n).held = s.held ∧
    (s.add p off hi lo n).log = s.log ∧ (s.add p off hi lo n).pwr = s.pwr ∧ (s.add p off hi lo n).boot = s.boot ∧
    (s.add p off hi lo n).keys = s.keys ∧ (s.add p off hi lo n).fram = s.fram ∧ (s.add p off hi lo n).isl = s.isl ∧
    (s.add p off hi lo n).clk = s.clk ∧ (s.add p off hi lo n).host = s.host ∧ (s.add p off hi lo n).funcs = s.funcs ∧
    (s.add p off hi lo n).queues = s.queues ∧ (s.add p off hi lo n).ham = s.ham ∧ (s.add p off hi lo n).frames = s.frames ∧
    (s.add p off hi lo n).nextId = s.nextId ∧ (s.add p off hi lo n).ports = s.ports ∧
    (s.add p off hi lo n).gates = s.gates ∧ (s.add p off hi lo n).ptp = s.ptp ∧ (s.add p off hi lo n).ring = s.ring ∧
    (s.add p off hi lo n).tbl = s.tbl ∧ (s.add p off hi lo n).cry = s.cry ∧ (s.add p off hi lo n).tun = s.tun ∧
    (s.add p off hi lo n).sto = s.sto ∧ (s.add p off hi lo n).nyate = s.nyate ∧ (s.add p off hi lo n).krds = s.krds ∧
    (s.add p off hi lo n).console = s.console ∧ (s.add p off hi lo n).twp = s.twp ∧ (s.add p off hi lo n).sens = s.sens ∧
    (s.add p off hi lo n).safBox = s.safBox ∧ (s.add p off hi lo n).saf = s.saf ∧ (s.add p off hi lo n).meter = s.meter ∧
    (s.add p off hi lo n).out = s.out ∧ (s.add p off hi lo n).pending = s.pending :=
  State.setReg_frame s p off _

@[simp] theorem State.addSat_frame (s : State) (p : Page) (off hi lo n : Nat) :
    (s.addSat p off hi lo n).locks = s.locks ∧ (s.addSat p off hi lo n).snaps = s.snaps ∧
    (s.addSat p off hi lo n).held = s.held ∧ (s.addSat p off hi lo n).log = s.log ∧ (s.addSat p off hi lo n).pwr = s.pwr ∧
    (s.addSat p off hi lo n).boot = s.boot ∧ (s.addSat p off hi lo n).keys = s.keys ∧
    (s.addSat p off hi lo n).fram = s.fram ∧ (s.addSat p off hi lo n).isl = s.isl ∧ (s.addSat p off hi lo n).clk = s.clk ∧
    (s.addSat p off hi lo n).host = s.host ∧ (s.addSat p off hi lo n).funcs = s.funcs ∧
    (s.addSat p off hi lo n).queues = s.queues ∧ (s.addSat p off hi lo n).ham = s.ham ∧
    (s.addSat p off hi lo n).frames = s.frames ∧ (s.addSat p off hi lo n).nextId = s.nextId ∧
    (s.addSat p off hi lo n).ports = s.ports ∧ (s.addSat p off hi lo n).gates = s.gates ∧
    (s.addSat p off hi lo n).ptp = s.ptp ∧ (s.addSat p off hi lo n).ring = s.ring ∧ (s.addSat p off hi lo n).tbl = s.tbl ∧
    (s.addSat p off hi lo n).cry = s.cry ∧ (s.addSat p off hi lo n).tun = s.tun ∧ (s.addSat p off hi lo n).sto = s.sto ∧
    (s.addSat p off hi lo n).nyate = s.nyate ∧ (s.addSat p off hi lo n).krds = s.krds ∧
    (s.addSat p off hi lo n).console = s.console ∧ (s.addSat p off hi lo n).twp = s.twp ∧
    (s.addSat p off hi lo n).sens = s.sens ∧ (s.addSat p off hi lo n).safBox = s.safBox ∧
    (s.addSat p off hi lo n).saf = s.saf ∧ (s.addSat p off hi lo n).meter = s.meter ∧ (s.addSat p off hi lo n).out = s.out ∧
    (s.addSat p off hi lo n).pending = s.pending :=
  State.setReg_frame s p off _

@[simp] theorem State.count_frame (s : State) (p : Page) (off : Nat) :
    (s.count p off).locks = s.locks ∧ (s.count p off).snaps = s.snaps ∧ (s.count p off).held = s.held ∧
    (s.count p off).log = s.log ∧ (s.count p off).pwr = s.pwr ∧ (s.count p off).boot = s.boot ∧
    (s.count p off).keys = s.keys ∧ (s.count p off).fram = s.fram ∧ (s.count p off).isl = s.isl ∧
    (s.count p off).clk = s.clk ∧ (s.count p off).host = s.host ∧ (s.count p off).funcs = s.funcs ∧
    (s.count p off).queues = s.queues ∧ (s.count p off).ham = s.ham ∧ (s.count p off).frames = s.frames ∧
    (s.count p off).nextId = s.nextId ∧ (s.count p off).ports = s.ports ∧ (s.count p off).gates = s.gates ∧
    (s.count p off).ptp = s.ptp ∧ (s.count p off).ring = s.ring ∧ (s.count p off).tbl = s.tbl ∧
    (s.count p off).cry = s.cry ∧ (s.count p off).tun = s.tun ∧ (s.count p off).sto = s.sto ∧
    (s.count p off).nyate = s.nyate ∧ (s.count p off).krds = s.krds ∧ (s.count p off).console = s.console ∧
    (s.count p off).twp = s.twp ∧ (s.count p off).sens = s.sens ∧ (s.count p off).safBox = s.safBox ∧
    (s.count p off).saf = s.saf ∧ (s.count p off).meter = s.meter ∧ (s.count p off).out = s.out ∧
    (s.count p off).pending = s.pending :=
  State.setReg_frame s p off _

@[simp] theorem State.add64_frame (s : State) (p : Page) (off n : Nat) :
    (s.add64 p off n).locks = s.locks ∧ (s.add64 p off n).snaps = s.snaps ∧ (s.add64 p off n).held = s.held ∧
    (s.add64 p off n).log = s.log ∧ (s.add64 p off n).pwr = s.pwr ∧ (s.add64 p off n).boot = s.boot ∧
    (s.add64 p off n).keys = s.keys ∧ (s.add64 p off n).fram = s.fram ∧ (s.add64 p off n).isl = s.isl ∧
    (s.add64 p off n).clk = s.clk ∧ (s.add64 p off n).host = s.host ∧ (s.add64 p off n).funcs = s.funcs ∧
    (s.add64 p off n).queues = s.queues ∧ (s.add64 p off n).ham = s.ham ∧ (s.add64 p off n).frames = s.frames ∧
    (s.add64 p off n).nextId = s.nextId ∧ (s.add64 p off n).ports = s.ports ∧ (s.add64 p off n).gates = s.gates ∧
    (s.add64 p off n).ptp = s.ptp ∧ (s.add64 p off n).ring = s.ring ∧ (s.add64 p off n).tbl = s.tbl ∧
    (s.add64 p off n).cry = s.cry ∧ (s.add64 p off n).tun = s.tun ∧ (s.add64 p off n).sto = s.sto ∧
    (s.add64 p off n).nyate = s.nyate ∧ (s.add64 p off n).krds = s.krds ∧ (s.add64 p off n).console = s.console ∧
    (s.add64 p off n).twp = s.twp ∧ (s.add64 p off n).sens = s.sens ∧ (s.add64 p off n).safBox = s.safBox ∧
    (s.add64 p off n).saf = s.saf ∧ (s.add64 p off n).meter = s.meter ∧ (s.add64 p off n).out = s.out ∧
    (s.add64 p off n).pending = s.pending :=
  by
  simp only [State.add64, State.setReg_frame, and_self]

@[simp] theorem State.setReg64_frame (s : State) (p : Page) (off v : Nat) :
    (s.setReg64 p off v).locks = s.locks ∧ (s.setReg64 p off v).snaps = s.snaps ∧ (s.setReg64 p off v).held = s.held ∧
    (s.setReg64 p off v).log = s.log ∧ (s.setReg64 p off v).pwr = s.pwr ∧ (s.setReg64 p off v).boot = s.boot ∧
    (s.setReg64 p off v).keys = s.keys ∧ (s.setReg64 p off v).fram = s.fram ∧ (s.setReg64 p off v).isl = s.isl ∧
    (s.setReg64 p off v).clk = s.clk ∧ (s.setReg64 p off v).host = s.host ∧ (s.setReg64 p off v).funcs = s.funcs ∧
    (s.setReg64 p off v).queues = s.queues ∧ (s.setReg64 p off v).ham = s.ham ∧ (s.setReg64 p off v).frames = s.frames ∧
    (s.setReg64 p off v).nextId = s.nextId ∧ (s.setReg64 p off v).ports = s.ports ∧ (s.setReg64 p off v).gates = s.gates ∧
    (s.setReg64 p off v).ptp = s.ptp ∧ (s.setReg64 p off v).ring = s.ring ∧ (s.setReg64 p off v).tbl = s.tbl ∧
    (s.setReg64 p off v).cry = s.cry ∧ (s.setReg64 p off v).tun = s.tun ∧ (s.setReg64 p off v).sto = s.sto ∧
    (s.setReg64 p off v).nyate = s.nyate ∧ (s.setReg64 p off v).krds = s.krds ∧ (s.setReg64 p off v).console = s.console ∧
    (s.setReg64 p off v).twp = s.twp ∧ (s.setReg64 p off v).sens = s.sens ∧ (s.setReg64 p off v).safBox = s.safBox ∧
    (s.setReg64 p off v).saf = s.saf ∧ (s.setReg64 p off v).meter = s.meter ∧ (s.setReg64 p off v).out = s.out ∧
    (s.setReg64 p off v).pending = s.pending :=
  by
  simp only [State.setReg64, State.setReg_frame, and_self]

@[simp] theorem State.emit_frame (s : State) (o : Out) :
    (s.emit o).regs = s.regs ∧ (s.emit o).locks = s.locks ∧ (s.emit o).snaps = s.snaps ∧ (s.emit o).held = s.held ∧
    (s.emit o).log = s.log ∧ (s.emit o).pwr = s.pwr ∧ (s.emit o).boot = s.boot ∧ (s.emit o).keys = s.keys ∧
    (s.emit o).fram = s.fram ∧ (s.emit o).isl = s.isl ∧ (s.emit o).clk = s.clk ∧ (s.emit o).funcs = s.funcs ∧
    (s.emit o).queues = s.queues ∧ (s.emit o).ham = s.ham ∧ (s.emit o).frames = s.frames ∧ (s.emit o).nextId = s.nextId ∧
    (s.emit o).ports = s.ports ∧ (s.emit o).gates = s.gates ∧ (s.emit o).ptp = s.ptp ∧ (s.emit o).ring = s.ring ∧
    (s.emit o).tbl = s.tbl ∧ (s.emit o).cry = s.cry ∧ (s.emit o).tun = s.tun ∧ (s.emit o).sto = s.sto ∧
    (s.emit o).nyate = s.nyate ∧ (s.emit o).krds = s.krds ∧ (s.emit o).console = s.console ∧ (s.emit o).twp = s.twp ∧
    (s.emit o).sens = s.sens ∧ (s.emit o).safBox = s.safBox ∧ (s.emit o).saf = s.saf ∧ (s.emit o).meter = s.meter ∧
    (s.emit o).pending = s.pending :=
  by and_intros <;> rfl

@[simp] theorem State.unlock_frame (s : State) (code : Nat) :
    (s.unlock code).snaps = s.snaps ∧ (s.unlock code).held = s.held ∧ (s.unlock code).log = s.log ∧
    (s.unlock code).pwr = s.pwr ∧ (s.unlock code).boot = s.boot ∧ (s.unlock code).keys = s.keys ∧
    (s.unlock code).fram = s.fram ∧ (s.unlock code).isl = s.isl ∧ (s.unlock code).clk = s.clk ∧
    (s.unlock code).host = s.host ∧ (s.unlock code).funcs = s.funcs ∧ (s.unlock code).queues = s.queues ∧
    (s.unlock code).ham = s.ham ∧ (s.unlock code).frames = s.frames ∧ (s.unlock code).nextId = s.nextId ∧
    (s.unlock code).ports = s.ports ∧ (s.unlock code).gates = s.gates ∧ (s.unlock code).ptp = s.ptp ∧
    (s.unlock code).ring = s.ring ∧ (s.unlock code).tbl = s.tbl ∧ (s.unlock code).cry = s.cry ∧
    (s.unlock code).tun = s.tun ∧ (s.unlock code).sto = s.sto ∧ (s.unlock code).nyate = s.nyate ∧
    (s.unlock code).krds = s.krds ∧ (s.unlock code).console = s.console ∧ (s.unlock code).twp = s.twp ∧
    (s.unlock code).sens = s.sens ∧ (s.unlock code).safBox = s.safBox ∧ (s.unlock code).saf = s.saf ∧
    (s.unlock code).meter = s.meter ∧ (s.unlock code).out = s.out ∧ (s.unlock code).pending = s.pending :=
  by and_intros <;> rfl

@[simp] theorem State.clearPages_frame (s : State) (p : Nat → Bool) :
    (s.clearPages p).pwr = s.pwr ∧ (s.clearPages p).boot = s.boot ∧ (s.clearPages p).keys = s.keys ∧
    (s.clearPages p).fram = s.fram ∧ (s.clearPages p).isl = s.isl ∧ (s.clearPages p).clk = s.clk ∧
    (s.clearPages p).host = s.host ∧ (s.clearPages p).funcs = s.funcs ∧ (s.clearPages p).queues = s.queues ∧
    (s.clearPages p).ham = s.ham ∧ (s.clearPages p).frames = s.frames ∧ (s.clearPages p).nextId = s.nextId ∧
    (s.clearPages p).ports = s.ports ∧ (s.clearPages p).gates = s.gates ∧ (s.clearPages p).ptp = s.ptp ∧
    (s.clearPages p).ring = s.ring ∧ (s.clearPages p).tbl = s.tbl ∧ (s.clearPages p).cry = s.cry ∧
    (s.clearPages p).tun = s.tun ∧ (s.clearPages p).sto = s.sto ∧ (s.clearPages p).nyate = s.nyate ∧
    (s.clearPages p).krds = s.krds ∧ (s.clearPages p).console = s.console ∧ (s.clearPages p).twp = s.twp ∧
    (s.clearPages p).sens = s.sens ∧ (s.clearPages p).safBox = s.safBox ∧ (s.clearPages p).saf = s.saf ∧
    (s.clearPages p).meter = s.meter ∧ (s.clearPages p).out = s.out ∧ (s.clearPages p).pending = s.pending :=
  by and_intros <;> rfl

@[simp] theorem State.setIsland_frame (s : State) (i : Island) (x : IslSt) :
    (s.setIsland i x).regs = s.regs ∧ (s.setIsland i x).locks = s.locks ∧ (s.setIsland i x).snaps = s.snaps ∧
    (s.setIsland i x).held = s.held ∧ (s.setIsland i x).log = s.log ∧ (s.setIsland i x).pwr = s.pwr ∧
    (s.setIsland i x).boot = s.boot ∧ (s.setIsland i x).keys = s.keys ∧ (s.setIsland i x).fram = s.fram ∧
    (s.setIsland i x).clk = s.clk ∧ (s.setIsland i x).host = s.host ∧ (s.setIsland i x).funcs = s.funcs ∧
    (s.setIsland i x).queues = s.queues ∧ (s.setIsland i x).ham = s.ham ∧ (s.setIsland i x).frames = s.frames ∧
    (s.setIsland i x).nextId = s.nextId ∧ (s.setIsland i x).ports = s.ports ∧ (s.setIsland i x).gates = s.gates ∧
    (s.setIsland i x).ptp = s.ptp ∧ (s.setIsland i x).ring = s.ring ∧ (s.setIsland i x).tbl = s.tbl ∧
    (s.setIsland i x).cry = s.cry ∧ (s.setIsland i x).tun = s.tun ∧ (s.setIsland i x).sto = s.sto ∧
    (s.setIsland i x).nyate = s.nyate ∧ (s.setIsland i x).krds = s.krds ∧ (s.setIsland i x).console = s.console ∧
    (s.setIsland i x).twp = s.twp ∧ (s.setIsland i x).sens = s.sens ∧ (s.setIsland i x).safBox = s.safBox ∧
    (s.setIsland i x).saf = s.saf ∧ (s.setIsland i x).meter = s.meter ∧ (s.setIsland i x).out = s.out ∧
    (s.setIsland i x).pending = s.pending :=
  by and_intros <;> rfl

@[simp] theorem State.setFunc_frame (s : State) (f : Nat) (x : Func) :
    (s.setFunc f x).regs = s.regs ∧ (s.setFunc f x).locks = s.locks ∧ (s.setFunc f x).snaps = s.snaps ∧
    (s.setFunc f x).held = s.held ∧ (s.setFunc f x).log = s.log ∧ (s.setFunc f x).pwr = s.pwr ∧
    (s.setFunc f x).boot = s.boot ∧ (s.setFunc f x).keys = s.keys ∧ (s.setFunc f x).fram = s.fram ∧
    (s.setFunc f x).isl = s.isl ∧ (s.setFunc f x).clk = s.clk ∧ (s.setFunc f x).host = s.host ∧
    (s.setFunc f x).queues = s.queues ∧ (s.setFunc f x).ham = s.ham ∧ (s.setFunc f x).frames = s.frames ∧
    (s.setFunc f x).nextId = s.nextId ∧ (s.setFunc f x).ports = s.ports ∧ (s.setFunc f x).gates = s.gates ∧
    (s.setFunc f x).ptp = s.ptp ∧ (s.setFunc f x).ring = s.ring ∧ (s.setFunc f x).tbl = s.tbl ∧
    (s.setFunc f x).cry = s.cry ∧ (s.setFunc f x).tun = s.tun ∧ (s.setFunc f x).sto = s.sto ∧
    (s.setFunc f x).nyate = s.nyate ∧ (s.setFunc f x).krds = s.krds ∧ (s.setFunc f x).console = s.console ∧
    (s.setFunc f x).twp = s.twp ∧ (s.setFunc f x).sens = s.sens ∧ (s.setFunc f x).safBox = s.safBox ∧
    (s.setFunc f x).saf = s.saf ∧ (s.setFunc f x).meter = s.meter ∧ (s.setFunc f x).out = s.out ∧
    (s.setFunc f x).pending = s.pending :=
  by and_intros <;> rfl

@[simp] theorem State.setPort_frame (s : State) (p : Nat) (x : PortSt) :
    (s.setPort p x).regs = s.regs ∧ (s.setPort p x).locks = s.locks ∧ (s.setPort p x).snaps = s.snaps ∧
    (s.setPort p x).held = s.held ∧ (s.setPort p x).log = s.log ∧ (s.setPort p x).pwr = s.pwr ∧
    (s.setPort p x).boot = s.boot ∧ (s.setPort p x).keys = s.keys ∧ (s.setPort p x).fram = s.fram ∧
    (s.setPort p x).isl = s.isl ∧ (s.setPort p x).clk = s.clk ∧ (s.setPort p x).host = s.host ∧
    (s.setPort p x).funcs = s.funcs ∧ (s.setPort p x).queues = s.queues ∧ (s.setPort p x).ham = s.ham ∧
    (s.setPort p x).frames = s.frames ∧ (s.setPort p x).nextId = s.nextId ∧ (s.setPort p x).gates = s.gates ∧
    (s.setPort p x).ptp = s.ptp ∧ (s.setPort p x).ring = s.ring ∧ (s.setPort p x).tbl = s.tbl ∧
    (s.setPort p x).cry = s.cry ∧ (s.setPort p x).tun = s.tun ∧ (s.setPort p x).sto = s.sto ∧
    (s.setPort p x).nyate = s.nyate ∧ (s.setPort p x).krds = s.krds ∧ (s.setPort p x).console = s.console ∧
    (s.setPort p x).twp = s.twp ∧ (s.setPort p x).sens = s.sens ∧ (s.setPort p x).safBox = s.safBox ∧
    (s.setPort p x).saf = s.saf ∧ (s.setPort p x).meter = s.meter ∧ (s.setPort p x).out = s.out ∧
    (s.setPort p x).pending = s.pending :=
  by and_intros <;> rfl

@[simp] theorem State.setGate_frame (s : State) (p : Nat) (x : GateSt) :
    (s.setGate p x).regs = s.regs ∧ (s.setGate p x).locks = s.locks ∧ (s.setGate p x).snaps = s.snaps ∧
    (s.setGate p x).held = s.held ∧ (s.setGate p x).log = s.log ∧ (s.setGate p x).pwr = s.pwr ∧
    (s.setGate p x).boot = s.boot ∧ (s.setGate p x).keys = s.keys ∧ (s.setGate p x).fram = s.fram ∧
    (s.setGate p x).isl = s.isl ∧ (s.setGate p x).clk = s.clk ∧ (s.setGate p x).host = s.host ∧
    (s.setGate p x).funcs = s.funcs ∧ (s.setGate p x).queues = s.queues ∧ (s.setGate p x).ham = s.ham ∧
    (s.setGate p x).frames = s.frames ∧ (s.setGate p x).nextId = s.nextId ∧ (s.setGate p x).ports = s.ports ∧
    (s.setGate p x).ptp = s.ptp ∧ (s.setGate p x).ring = s.ring ∧ (s.setGate p x).tbl = s.tbl ∧
    (s.setGate p x).cry = s.cry ∧ (s.setGate p x).tun = s.tun ∧ (s.setGate p x).sto = s.sto ∧
    (s.setGate p x).nyate = s.nyate ∧ (s.setGate p x).krds = s.krds ∧ (s.setGate p x).console = s.console ∧
    (s.setGate p x).twp = s.twp ∧ (s.setGate p x).sens = s.sens ∧ (s.setGate p x).safBox = s.safBox ∧
    (s.setGate p x).saf = s.saf ∧ (s.setGate p x).meter = s.meter ∧ (s.setGate p x).out = s.out ∧
    (s.setGate p x).pending = s.pending :=
  by and_intros <;> rfl

@[simp] theorem State.setThread_frame (s : State) (c t : Nat) (x : Thread) :
    (s.setThread c t x).regs = s.regs ∧ (s.setThread c t x).locks = s.locks ∧ (s.setThread c t x).snaps = s.snaps ∧
    (s.setThread c t x).held = s.held ∧ (s.setThread c t x).log = s.log ∧ (s.setThread c t x).pwr = s.pwr ∧
    (s.setThread c t x).boot = s.boot ∧ (s.setThread c t x).keys = s.keys ∧ (s.setThread c t x).fram = s.fram ∧
    (s.setThread c t x).isl = s.isl ∧ (s.setThread c t x).clk = s.clk ∧ (s.setThread c t x).host = s.host ∧
    (s.setThread c t x).funcs = s.funcs ∧ (s.setThread c t x).queues = s.queues ∧ (s.setThread c t x).ham = s.ham ∧
    (s.setThread c t x).frames = s.frames ∧ (s.setThread c t x).nextId = s.nextId ∧ (s.setThread c t x).ports = s.ports ∧
    (s.setThread c t x).gates = s.gates ∧ (s.setThread c t x).ptp = s.ptp ∧ (s.setThread c t x).ring = s.ring ∧
    (s.setThread c t x).tbl = s.tbl ∧ (s.setThread c t x).cry = s.cry ∧ (s.setThread c t x).tun = s.tun ∧
    (s.setThread c t x).sto = s.sto ∧ (s.setThread c t x).krds = s.krds ∧ (s.setThread c t x).console = s.console ∧
    (s.setThread c t x).twp = s.twp ∧ (s.setThread c t x).sens = s.sens ∧ (s.setThread c t x).safBox = s.safBox ∧
    (s.setThread c t x).saf = s.saf ∧ (s.setThread c t x).meter = s.meter ∧ (s.setThread c t x).out = s.out ∧
    (s.setThread c t x).pending = s.pending :=
  by and_intros <;> rfl

@[simp] theorem State.setCluster_frame (s : State) (c : Nat) (x : Cluster) :
    (s.setCluster c x).regs = s.regs ∧ (s.setCluster c x).locks = s.locks ∧ (s.setCluster c x).snaps = s.snaps ∧
    (s.setCluster c x).held = s.held ∧ (s.setCluster c x).log = s.log ∧ (s.setCluster c x).pwr = s.pwr ∧
    (s.setCluster c x).boot = s.boot ∧ (s.setCluster c x).keys = s.keys ∧ (s.setCluster c x).fram = s.fram ∧
    (s.setCluster c x).isl = s.isl ∧ (s.setCluster c x).clk = s.clk ∧ (s.setCluster c x).host = s.host ∧
    (s.setCluster c x).funcs = s.funcs ∧ (s.setCluster c x).queues = s.queues ∧ (s.setCluster c x).ham = s.ham ∧
    (s.setCluster c x).frames = s.frames ∧ (s.setCluster c x).nextId = s.nextId ∧ (s.setCluster c x).ports = s.ports ∧
    (s.setCluster c x).gates = s.gates ∧ (s.setCluster c x).ptp = s.ptp ∧ (s.setCluster c x).ring = s.ring ∧
    (s.setCluster c x).tbl = s.tbl ∧ (s.setCluster c x).cry = s.cry ∧ (s.setCluster c x).tun = s.tun ∧
    (s.setCluster c x).sto = s.sto ∧ (s.setCluster c x).krds = s.krds ∧ (s.setCluster c x).console = s.console ∧
    (s.setCluster c x).twp = s.twp ∧ (s.setCluster c x).sens = s.sens ∧ (s.setCluster c x).safBox = s.safBox ∧
    (s.setCluster c x).saf = s.saf ∧ (s.setCluster c x).meter = s.meter ∧ (s.setCluster c x).out = s.out ∧
    (s.setCluster c x).pending = s.pending :=
  by and_intros <;> rfl

@[simp] theorem State.setEntry_frame (s : State) (k i : Nat) (e : List Byte) :
    (s.setEntry k i e).regs = s.regs ∧ (s.setEntry k i e).locks = s.locks ∧ (s.setEntry k i e).snaps = s.snaps ∧
    (s.setEntry k i e).held = s.held ∧ (s.setEntry k i e).log = s.log ∧ (s.setEntry k i e).pwr = s.pwr ∧
    (s.setEntry k i e).boot = s.boot ∧ (s.setEntry k i e).keys = s.keys ∧ (s.setEntry k i e).fram = s.fram ∧
    (s.setEntry k i e).isl = s.isl ∧ (s.setEntry k i e).clk = s.clk ∧ (s.setEntry k i e).host = s.host ∧
    (s.setEntry k i e).funcs = s.funcs ∧ (s.setEntry k i e).queues = s.queues ∧ (s.setEntry k i e).ham = s.ham ∧
    (s.setEntry k i e).frames = s.frames ∧ (s.setEntry k i e).nextId = s.nextId ∧ (s.setEntry k i e).ports = s.ports ∧
    (s.setEntry k i e).gates = s.gates ∧ (s.setEntry k i e).ptp = s.ptp ∧ (s.setEntry k i e).ring = s.ring ∧
    (s.setEntry k i e).cry = s.cry ∧ (s.setEntry k i e).tun = s.tun ∧ (s.setEntry k i e).sto = s.sto ∧
    (s.setEntry k i e).nyate = s.nyate ∧ (s.setEntry k i e).krds = s.krds ∧ (s.setEntry k i e).console = s.console ∧
    (s.setEntry k i e).twp = s.twp ∧ (s.setEntry k i e).sens = s.sens ∧ (s.setEntry k i e).safBox = s.safBox ∧
    (s.setEntry k i e).saf = s.saf ∧ (s.setEntry k i e).meter = s.meter ∧ (s.setEntry k i e).out = s.out ∧
    (s.setEntry k i e).pending = s.pending :=
  by and_intros <;> rfl

@[simp] theorem State.setConn_frame (s : State) (c : Nat) (b : List Byte) :
    (s.setConn c b).regs = s.regs ∧ (s.setConn c b).locks = s.locks ∧ (s.setConn c b).snaps = s.snaps ∧
    (s.setConn c b).held = s.held ∧ (s.setConn c b).log = s.log ∧ (s.setConn c b).pwr = s.pwr ∧
    (s.setConn c b).boot = s.boot ∧ (s.setConn c b).keys = s.keys ∧ (s.setConn c b).fram = s.fram ∧
    (s.setConn c b).isl = s.isl ∧ (s.setConn c b).clk = s.clk ∧ (s.setConn c b).host = s.host ∧
    (s.setConn c b).funcs = s.funcs ∧ (s.setConn c b).queues = s.queues ∧ (s.setConn c b).ham = s.ham ∧
    (s.setConn c b).frames = s.frames ∧ (s.setConn c b).nextId = s.nextId ∧ (s.setConn c b).ports = s.ports ∧
    (s.setConn c b).gates = s.gates ∧ (s.setConn c b).ptp = s.ptp ∧ (s.setConn c b).ring = s.ring ∧
    (s.setConn c b).tbl = s.tbl ∧ (s.setConn c b).cry = s.cry ∧ (s.setConn c b).tun = s.tun ∧
    (s.setConn c b).nyate = s.nyate ∧ (s.setConn c b).krds = s.krds ∧ (s.setConn c b).console = s.console ∧
    (s.setConn c b).twp = s.twp ∧ (s.setConn c b).sens = s.sens ∧ (s.setConn c b).safBox = s.safBox ∧
    (s.setConn c b).saf = s.saf ∧ (s.setConn c b).meter = s.meter ∧ (s.setConn c b).out = s.out ∧
    (s.setConn c b).pending = s.pending :=
  by and_intros <;> rfl

@[simp] theorem State.setWq_frame (s : State) (f q : Nat) (x : Option WqSt) :
    (s.setWq f q x).regs = s.regs ∧ (s.setWq f q x).locks = s.locks ∧ (s.setWq f q x).snaps = s.snaps ∧
    (s.setWq f q x).held = s.held ∧ (s.setWq f q x).log = s.log ∧ (s.setWq f q x).pwr = s.pwr ∧
    (s.setWq f q x).boot = s.boot ∧ (s.setWq f q x).keys = s.keys ∧ (s.setWq f q x).fram = s.fram ∧
    (s.setWq f q x).isl = s.isl ∧ (s.setWq f q x).clk = s.clk ∧ (s.setWq f q x).host = s.host ∧
    (s.setWq f q x).funcs = s.funcs ∧ (s.setWq f q x).ham = s.ham ∧ (s.setWq f q x).frames = s.frames ∧
    (s.setWq f q x).nextId = s.nextId ∧ (s.setWq f q x).ports = s.ports ∧ (s.setWq f q x).gates = s.gates ∧
    (s.setWq f q x).ptp = s.ptp ∧ (s.setWq f q x).ring = s.ring ∧ (s.setWq f q x).tbl = s.tbl ∧
    (s.setWq f q x).cry = s.cry ∧ (s.setWq f q x).tun = s.tun ∧ (s.setWq f q x).sto = s.sto ∧
    (s.setWq f q x).nyate = s.nyate ∧ (s.setWq f q x).krds = s.krds ∧ (s.setWq f q x).console = s.console ∧
    (s.setWq f q x).twp = s.twp ∧ (s.setWq f q x).sens = s.sens ∧ (s.setWq f q x).safBox = s.safBox ∧
    (s.setWq f q x).saf = s.saf ∧ (s.setWq f q x).meter = s.meter ∧ (s.setWq f q x).out = s.out ∧
    (s.setWq f q x).pending = s.pending :=
  by and_intros <;> rfl

@[simp] theorem State.setCq_frame (s : State) (f q : Nat) (x : Option CqSt) :
    (s.setCq f q x).regs = s.regs ∧ (s.setCq f q x).locks = s.locks ∧ (s.setCq f q x).snaps = s.snaps ∧
    (s.setCq f q x).held = s.held ∧ (s.setCq f q x).log = s.log ∧ (s.setCq f q x).pwr = s.pwr ∧
    (s.setCq f q x).boot = s.boot ∧ (s.setCq f q x).keys = s.keys ∧ (s.setCq f q x).fram = s.fram ∧
    (s.setCq f q x).isl = s.isl ∧ (s.setCq f q x).clk = s.clk ∧ (s.setCq f q x).host = s.host ∧
    (s.setCq f q x).funcs = s.funcs ∧ (s.setCq f q x).ham = s.ham ∧ (s.setCq f q x).frames = s.frames ∧
    (s.setCq f q x).nextId = s.nextId ∧ (s.setCq f q x).ports = s.ports ∧ (s.setCq f q x).gates = s.gates ∧
    (s.setCq f q x).ptp = s.ptp ∧ (s.setCq f q x).ring = s.ring ∧ (s.setCq f q x).tbl = s.tbl ∧
    (s.setCq f q x).cry = s.cry ∧ (s.setCq f q x).tun = s.tun ∧ (s.setCq f q x).sto = s.sto ∧
    (s.setCq f q x).nyate = s.nyate ∧ (s.setCq f q x).krds = s.krds ∧ (s.setCq f q x).console = s.console ∧
    (s.setCq f q x).twp = s.twp ∧ (s.setCq f q x).sens = s.sens ∧ (s.setCq f q x).safBox = s.safBox ∧
    (s.setCq f q x).saf = s.saf ∧ (s.setCq f q x).meter = s.meter ∧ (s.setCq f q x).out = s.out ∧
    (s.setCq f q x).pending = s.pending :=
  by and_intros <;> rfl

@[simp] theorem State.mapFrames_frame (s : State) (p : Frame → Bool) (g : Frame → Frame) :
    (s.mapFrames p g).regs = s.regs ∧ (s.mapFrames p g).locks = s.locks ∧ (s.mapFrames p g).snaps = s.snaps ∧
    (s.mapFrames p g).held = s.held ∧ (s.mapFrames p g).log = s.log ∧ (s.mapFrames p g).pwr = s.pwr ∧
    (s.mapFrames p g).boot = s.boot ∧ (s.mapFrames p g).keys = s.keys ∧ (s.mapFrames p g).fram = s.fram ∧
    (s.mapFrames p g).isl = s.isl ∧ (s.mapFrames p g).clk = s.clk ∧ (s.mapFrames p g).host = s.host ∧
    (s.mapFrames p g).funcs = s.funcs ∧ (s.mapFrames p g).queues = s.queues ∧ (s.mapFrames p g).ham = s.ham ∧
    (s.mapFrames p g).nextId = s.nextId ∧ (s.mapFrames p g).ports = s.ports ∧ (s.mapFrames p g).gates = s.gates ∧
    (s.mapFrames p g).ptp = s.ptp ∧ (s.mapFrames p g).ring = s.ring ∧ (s.mapFrames p g).tbl = s.tbl ∧
    (s.mapFrames p g).cry = s.cry ∧ (s.mapFrames p g).tun = s.tun ∧ (s.mapFrames p g).sto = s.sto ∧
    (s.mapFrames p g).nyate = s.nyate ∧ (s.mapFrames p g).krds = s.krds ∧ (s.mapFrames p g).console = s.console ∧
    (s.mapFrames p g).twp = s.twp ∧ (s.mapFrames p g).sens = s.sens ∧ (s.mapFrames p g).safBox = s.safBox ∧
    (s.mapFrames p g).saf = s.saf ∧ (s.mapFrames p g).meter = s.meter ∧ (s.mapFrames p g).out = s.out ∧
    (s.mapFrames p g).pending = s.pending :=
  by and_intros <;> rfl

@[simp] theorem State.setFrame_frame (s : State) (x : Frame) :
    (s.setFrame x).regs = s.regs ∧ (s.setFrame x).locks = s.locks ∧ (s.setFrame x).snaps = s.snaps ∧
    (s.setFrame x).held = s.held ∧ (s.setFrame x).log = s.log ∧ (s.setFrame x).pwr = s.pwr ∧ (s.setFrame x).boot = s.boot ∧
    (s.setFrame x).keys = s.keys ∧ (s.setFrame x).fram = s.fram ∧ (s.setFrame x).isl = s.isl ∧ (s.setFrame x).clk = s.clk ∧
    (s.setFrame x).host = s.host ∧ (s.setFrame x).funcs = s.funcs ∧ (s.setFrame x).queues = s.queues ∧
    (s.setFrame x).ham = s.ham ∧ (s.setFrame x).nextId = s.nextId ∧ (s.setFrame x).ports = s.ports ∧
    (s.setFrame x).gates = s.gates ∧ (s.setFrame x).ptp = s.ptp ∧ (s.setFrame x).ring = s.ring ∧
    (s.setFrame x).tbl = s.tbl ∧ (s.setFrame x).cry = s.cry ∧ (s.setFrame x).tun = s.tun ∧ (s.setFrame x).sto = s.sto ∧
    (s.setFrame x).nyate = s.nyate ∧ (s.setFrame x).krds = s.krds ∧ (s.setFrame x).console = s.console ∧
    (s.setFrame x).twp = s.twp ∧ (s.setFrame x).sens = s.sens ∧ (s.setFrame x).safBox = s.safBox ∧
    (s.setFrame x).saf = s.saf ∧ (s.setFrame x).meter = s.meter ∧ (s.setFrame x).out = s.out ∧
    (s.setFrame x).pending = s.pending :=
  by and_intros <;> rfl

@[simp] theorem State.toBack_frame (s : State) (x : Frame) :
    (s.toBack x).regs = s.regs ∧ (s.toBack x).locks = s.locks ∧ (s.toBack x).snaps = s.snaps ∧ (s.toBack x).held = s.held ∧
    (s.toBack x).log = s.log ∧ (s.toBack x).pwr = s.pwr ∧ (s.toBack x).boot = s.boot ∧ (s.toBack x).keys = s.keys ∧
    (s.toBack x).fram = s.fram ∧ (s.toBack x).isl = s.isl ∧ (s.toBack x).clk = s.clk ∧ (s.toBack x).host = s.host ∧
    (s.toBack x).funcs = s.funcs ∧ (s.toBack x).queues = s.queues ∧ (s.toBack x).ham = s.ham ∧
    (s.toBack x).nextId = s.nextId ∧ (s.toBack x).ports = s.ports ∧ (s.toBack x).gates = s.gates ∧
    (s.toBack x).ptp = s.ptp ∧ (s.toBack x).ring = s.ring ∧ (s.toBack x).tbl = s.tbl ∧ (s.toBack x).cry = s.cry ∧
    (s.toBack x).tun = s.tun ∧ (s.toBack x).sto = s.sto ∧ (s.toBack x).nyate = s.nyate ∧ (s.toBack x).krds = s.krds ∧
    (s.toBack x).console = s.console ∧ (s.toBack x).twp = s.twp ∧ (s.toBack x).sens = s.sens ∧
    (s.toBack x).safBox = s.safBox ∧ (s.toBack x).saf = s.saf ∧ (s.toBack x).meter = s.meter ∧ (s.toBack x).out = s.out ∧
    (s.toBack x).pending = s.pending :=
  by and_intros <;> rfl

@[simp] theorem State.closeReads_frame (s : State) (p : HostRead → Bool) :
    (s.closeReads p).regs = s.regs ∧ (s.closeReads p).locks = s.locks ∧ (s.closeReads p).snaps = s.snaps ∧
    (s.closeReads p).held = s.held ∧ (s.closeReads p).log = s.log ∧ (s.closeReads p).pwr = s.pwr ∧
    (s.closeReads p).boot = s.boot ∧ (s.closeReads p).keys = s.keys ∧ (s.closeReads p).fram = s.fram ∧
    (s.closeReads p).isl = s.isl ∧ (s.closeReads p).clk = s.clk ∧ (s.closeReads p).funcs = s.funcs ∧
    (s.closeReads p).queues = s.queues ∧ (s.closeReads p).ham = s.ham ∧ (s.closeReads p).frames = s.frames ∧
    (s.closeReads p).nextId = s.nextId ∧ (s.closeReads p).ports = s.ports ∧ (s.closeReads p).gates = s.gates ∧
    (s.closeReads p).ptp = s.ptp ∧ (s.closeReads p).ring = s.ring ∧ (s.closeReads p).tbl = s.tbl ∧
    (s.closeReads p).cry = s.cry ∧ (s.closeReads p).tun = s.tun ∧ (s.closeReads p).sto = s.sto ∧
    (s.closeReads p).nyate = s.nyate ∧ (s.closeReads p).krds = s.krds ∧ (s.closeReads p).console = s.console ∧
    (s.closeReads p).twp = s.twp ∧ (s.closeReads p).sens = s.sens ∧ (s.closeReads p).safBox = s.safBox ∧
    (s.closeReads p).saf = s.saf ∧ (s.closeReads p).meter = s.meter ∧ (s.closeReads p).out = s.out ∧
    (s.closeReads p).pending = s.pending :=
  by and_intros <;> rfl

/-! ## Registers -/

/-- A register reads as it was written. -/
@[simp] theorem State.reg_setReg_same (s : State) (p : Page) (off : Nat) (v : Word) : (s.setReg p off v).reg p off = v := by
  simp [State.reg, State.setReg]

/-- A register written at one key leaves the registers at every other key alone. -/
theorem State.reg_setReg_ne (s : State) (p q : Page) (off o : Nat) (v : Word) (h : regKey q o ≠ regKey p off) :
    (s.setReg p off v).reg q o = s.reg q o := by
  simp [State.reg, State.setReg, Sparse.get_set_ne _ _ _ h]

/-- Every write of a register leaves the registers at the other keys alone. -/
theorem State.reg_setField_ne (s : State) (p q : Page) (off hi lo v o : Nat) (h : regKey q o ≠ regKey p off) :
    (s.setField p off hi lo v).reg q o = s.reg q o := State.reg_setReg_ne s p q off o _ h

theorem State.reg_setBit_ne (s : State) (p q : Page) (off i o : Nat) (b : Bool) (h : regKey q o ≠ regKey p off) :
    (s.setBit p off i b).reg q o = s.reg q o := State.reg_setReg_ne s p q off o _ h

theorem State.reg_count_ne (s : State) (p q : Page) (off o : Nat) (h : regKey q o ≠ regKey p off) :
    (s.count p off).reg q o = s.reg q o := State.reg_setReg_ne s p q off o _ h

theorem State.reg_add_ne (s : State) (p q : Page) (off hi lo n o : Nat) (h : regKey q o ≠ regKey p off) :
    (s.add p off hi lo n).reg q o = s.reg q o := State.reg_setReg_ne s p q off o _ h

theorem State.reg_addSat_ne (s : State) (p q : Page) (off hi lo n o : Nat) (h : regKey q o ≠ regKey p off) :
    (s.addSat p off hi lo n).reg q o = s.reg q o := State.reg_setReg_ne s p q off o _ h

/-- A 32-bit counter rises by one. -/
@[simp] theorem State.reg_count_same (s : State) (p : Page) (off : Nat) : (s.count p off).reg p off = s.reg p off + 1 := by
  apply BitVec.eq_of_toNat_eq
  have h := (s.reg p off).isLt
  simp only [State.count, State.add, State.setField, State.reg_setReg_same, State.field, setFld, fld, BitVec.toNat_ofNat,
    BitVec.toNat_add]
  have e : (s.reg p off).toNat / 2 ^ 0 % 2 ^ (31 + 1 - 0) = (s.reg p off).toNat := by
    simp only [Nat.pow_zero, Nat.div_one]; exact Nat.mod_eq_of_lt h
  rw [e]; simp

/-- The registers do not depend on what else is in the state. -/
theorem State.reg_congr {s t : State} (h : t.regs = s.regs) (p : Page) (off : Nat) : t.reg p off = s.reg p off := by
  simp [State.reg, h]

@[simp] theorem State.reg_emit (s : State) (o : Out) (p : Page) (off : Nat) : (s.emit o).reg p off = s.reg p off := rfl

@[simp] theorem State.out_emit (s : State) (o : Out) : (s.emit o).out = o :: s.out := rfl

@[simp] theorem State.regs_emit (s : State) (o : Out) : (s.emit o).regs = s.regs := rfl

/-- Sending something changes nothing of the host link but its state. -/
theorem State.host_emit (s : State) (o : Out) : (s.emit o).host = { s.host with link := wakeLink s.host.link o } := rfl

/-! ## Sub-states -/

@[simp] theorem State.island_setIsland_same (s : State) (i : Island) (x : IslSt) : (s.setIsland i x).island i = x := by
  simp [State.island, State.setIsland]

theorem State.island_setIsland_ne (s : State) (i j : Island) (x : IslSt) (h : j.num ≠ i.num) :
    (s.setIsland i x).island j = s.island j := by
  simp [State.island, State.setIsland, Sparse.get_set_ne _ _ _ h]

@[simp] theorem State.func_setFunc_same (s : State) (f : Nat) (x : Func) : (s.setFunc f x).func f = x := by
  simp [State.func, State.setFunc]

theorem State.func_setFunc_ne (s : State) (f g : Nat) (x : Func) (h : g ≠ f) : (s.setFunc f x).func g = s.func g := by
  simp [State.func, State.setFunc, Sparse.get_set_ne _ _ _ h]

@[simp] theorem State.port_setPort_same (s : State) (p : Nat) (x : PortSt) : (s.setPort p x).port p = x := by
  simp [State.port, State.setPort]

theorem State.port_setPort_ne (s : State) (p q : Nat) (x : PortSt) (h : q ≠ p) : (s.setPort p x).port q = s.port q := by
  simp [State.port, State.setPort, Sparse.get_set_ne _ _ _ h]

@[simp] theorem State.gate_setGate_same (s : State) (p : Nat) (x : GateSt) : (s.setGate p x).gate p = x := by
  simp [State.gate, State.setGate]

theorem State.gate_setGate_ne (s : State) (p q : Nat) (x : GateSt) (h : q ≠ p) : (s.setGate p x).gate q = s.gate q := by
  simp [State.gate, State.setGate, Sparse.get_set_ne _ _ _ h]

@[simp] theorem State.thread_setThread_same (s : State) (c t : Nat) (x : Thread) : (s.setThread c t x).thread c t = x := by
  simp [State.thread, State.setThread]

theorem State.thread_setThread_ne (s : State) (c t d u : Nat) (x : Thread) (h : 128 * d + u ≠ 128 * c + t) :
    (s.setThread c t x).thread d u = s.thread d u := by
  simp [State.thread, State.setThread, Sparse.get_set_ne _ _ _ h]

@[simp] theorem State.conn_setConn_same (s : State) (c : Nat) (b : List Byte) : (s.setConn c b).conn c = b := by
  simp [State.conn, State.setConn]

theorem State.conn_setConn_ne (s : State) (c d : Nat) (b : List Byte) (h : d ≠ c) : (s.setConn c b).conn d = s.conn d := by
  simp [State.conn, State.setConn, Sparse.get_set_ne _ _ _ h]

/-! ## Lists read with a default -/

/-- The element written reads as written. -/
@[simp] theorem getD_setAt_same {α : Type} (d : α) (l : List α) (i : Nat) (x : α) : (setAt d l i x).getD i d = x := by
  induction i generalizing l with
  | zero => cases l <;> rfl
  | succ i ih => cases l <;> simpa [setAt] using ih _

/-- The others read as before. -/
theorem getD_setAt_ne {α : Type} (d : α) (l : List α) {i j : Nat} (h : j ≠ i) (x : α) :
    (setAt d l i x).getD j d = l.getD j d := by
  induction i generalizing l j with
  | zero => cases j <;> cases l <;> first | rfl | exact absurd rfl h
  | succ i ih =>
    cases j with
    | zero => cases l <;> rfl
    | succ j =>
      have hj : j ≠ i := fun e => h (by rw [e])
      cases l with
      | nil => exact (ih [] hj).trans rfl
      | cons y r => exact ih r hj

/-! ## Folds over the state -/

/-- What each step of a fold leaves alone, the fold leaves alone. -/
theorem State.foldl_keep {β γ : Type} (g : State → γ) (f : State → β → State) (l : List β) (s : State)
    (h : ∀ t x, g (f t x) = g t) : g (l.foldl f s) = g s := by
  induction l generalizing s with
  | nil => rfl
  | cons a l ih => simp [ih, h]

end Sys2Proof.Machine
end

