-- ==== Sys2Proof/Laws/Events.lean ====
section
/-!
SUPPORT. Laws/Events.lean: what raising an event, recording and sending can touch: the event register of the page, LOG_LOST and
the event register of LOG, the log, what has left the unit, and of the host link only its state and the pending bits.
-/
namespace Sys2Proof.Machine

open Sys2Proof

/-- The state without what an event can touch: registers, log, output, and the host link's state and pending bits. -/
def State.quiet (s : State) : State :=
  { s with regs := [], log := State.reset.log, out := [], host := { s.host with link := .down, pba := [] } }

/-- Two states that are alike but for what an event can touch are alike in every other field. -/
theorem State.quiet_fields {s t : State} (h : t.quiet = s.quiet) :
    (t).locks = s.locks ∧ (t).snaps = s.snaps ∧ (t).held = s.held ∧ (t).pwr = s.pwr ∧ (t).boot = s.boot ∧
    (t).keys = s.keys ∧ (t).fram = s.fram ∧ (t).isl = s.isl ∧ (t).clk = s.clk ∧ (t).funcs = s.funcs ∧
    (t).queues = s.queues ∧ (t).ham = s.ham ∧ (t).frames = s.frames ∧ (t).nextId = s.nextId ∧ (t).ports = s.ports ∧
    (t).gates = s.gates ∧ (t).ptp = s.ptp ∧ (t).ring = s.ring ∧ (t).tbl = s.tbl ∧ (t).cry = s.cry ∧ (t).tun = s.tun ∧
    (t).sto = s.sto ∧ (t).nyate = s.nyate ∧ (t).krds = s.krds ∧ (t).console = s.console ∧ (t).twp = s.twp ∧
    (t).sens = s.sens ∧ (t).safBox = s.safBox ∧ (t).saf = s.saf ∧ (t).meter = s.meter ∧ (t).pending = s.pending ∧
    (t.host).perst = s.host.perst ∧ (t.host).lastGen = s.host.lastGen ∧ (t.host).lastW = s.host.lastW ∧
    (t.host).rid = s.host.rid ∧ (t.host).nextRead = s.host.nextRead ∧ (t.host).reads = s.host.reads ∧
    (t.host).ended = s.host.ended ∧ (t.host).msix = s.host.msix ∧ (t.host).pme = s.host.pme ∧
    (t.host).ltrBusy = s.host.ltrBusy ∧ (t.host).ready = s.host.ready ∧ (t.host).startMs = s.host.startMs := by
  simp only [State.quiet, State.mk.injEq, HostSt.mk.injEq] at h
  and_intros <;> simp only [h]

theorem State.quiet_setReg (s : State) (p : Page) (off : Nat) (v : Word) : (s.setReg p off v).quiet = s.quiet := rfl

theorem State.quiet_count (s : State) (p : Page) (off : Nat) : (s.count p off).quiet = s.quiet := rfl

theorem State.quiet_emit (s : State) (o : Out) : (s.emit o).quiet = s.quiet := rfl

theorem State.quiet_emitAll (s : State) (l : List Out) : (s.emitAll l).quiet = s.quiet :=
  State.foldl_keep State.quiet State.emit l s (fun _ _ => rfl)

theorem State.quiet_logOne (s : State) (ty code page : Nat) (d0 d1 d2 : Word) :
    (s.logOne ty code page d0 d1 d2).quiet = s.quiet := by
  unfold State.logOne
  dsimp only
  split
  · split <;> rfl
  · rfl

theorem State.quiet_logRaw (s : State) (ty code page : Nat) (d0 d1 d2 : Word) :
    (s.logRaw ty code page d0 d1 d2).quiet = s.quiet := by
  unfold State.logRaw
  dsimp only
  split
  · exact State.quiet_logOne ..
  · rw [State.quiet_logOne, State.quiet_logOne]; rfl

theorem State.quiet_logEvent (s : State) (p : Page) (b rep : Nat) : (s.logEvent p b rep).quiet = s.quiet :=
  State.quiet_logRaw ..

theorem State.quiet_logRoute (s : State) (p : Page) (b : Nat) : (s.logRoute p b).quiet = s.quiet := by
  unfold State.logRoute
  split
  · rfl
  · exact State.quiet_logEvent s p b 0

theorem State.quiet_sendMsix (s : State) (f v : Nat) : (s.sendMsix f v).quiet = s.quiet := by
  unfold State.sendMsix
  split
  · rfl
  · split
    · rfl
    · split <;> rfl

theorem State.quiet_route (s : State) (p : Page) (b : Nat) : (s.route p b).quiet = s.quiet := by
  unfold State.route
  simp only []
  split <;> split <;> split <;>
    simp [State.quiet_sendMsix, State.quiet_logRoute, State.quiet_emit]

theorem State.quiet_routes (s : State) (p : Page) (w : Word) (l : List Nat) :
    (l.foldl (fun t b => if bitOn w b then t.route p b else t) s).quiet = s.quiet :=
  State.foldl_keep State.quiet _ l s (fun t b => by split; exact State.quiet_route t p b; rfl)

theorem State.quiet_raiseBits (s : State) (p : Page) (m : Word) : (s.raiseBits p m).quiet = s.quiet := by
  unfold State.raiseBits
  exact State.quiet_routes ..

theorem State.quiet_noteLoss (a s : State) : (State.noteLoss a s).quiet = s.quiet := by
  unfold State.noteLoss
  split
  · rfl
  · exact State.quiet_raiseBits ..

theorem State.quiet_raise (s : State) (p : Page) (b : Nat) : (s.raise p b).quiet = s.quiet := by
  unfold State.raise
  rw [State.quiet_noteLoss, State.quiet_raiseBits]

theorem State.quiet_raiseIf (s : State) (c : Bool) (p : Page) (b : Nat) : (s.raiseIf c p b).quiet = s.quiet := by
  unfold State.raiseIf
  split
  · exact State.quiet_raise s p b
  · rfl

theorem State.quiet_unmasked (s : State) (p : Page) (old : Word) : (s.unmasked p old).quiet = s.quiet := by
  unfold State.unmasked
  rw [State.quiet_noteLoss]
  exact State.quiet_routes ..

theorem State.quiet_note (s : State) (ty code : Nat) (d0 d1 d2 : Word) : (s.note ty code d0 d1 d2).quiet = s.quiet := by
  unfold State.note
  rw [State.quiet_noteLoss, State.quiet_logRaw]

theorem State.quiet_raiseSensor (s : State) (b : Nat) (sensor value limit : Word) :
    (s.raiseSensor b sensor value limit).quiet = s.quiet := by
  unfold State.raiseSensor
  exact State.quiet_raise ..

theorem State.quiet_noteSession (s : State) (master : Nat) (start operate : Bool) (peer : Word) (served : Nat) :
    (s.noteSession master start operate peer served).quiet = s.quiet := State.quiet_note ..

/-! ## Every other field -/

@[simp] theorem State.raise_frame (s : State) (p : Page) (b : Nat) :
    (s.raise p b).locks = s.locks ∧ (s.raise p b).snaps = s.snaps ∧ (s.raise p b).held = s.held ∧
    (s.raise p b).pwr = s.pwr ∧ (s.raise p b).boot = s.boot ∧ (s.raise p b).keys = s.keys ∧ (s.raise p b).fram = s.fram ∧
    (s.raise p b).isl = s.isl ∧ (s.raise p b).clk = s.clk ∧ (s.raise p b).funcs = s.funcs ∧
    (s.raise p b).queues = s.queues ∧ (s.raise p b).ham = s.ham ∧ (s.raise p b).frames = s.frames ∧
    (s.raise p b).nextId = s.nextId ∧ (s.raise p b).ports = s.ports ∧ (s.raise p b).gates = s.gates ∧
    (s.raise p b).ptp = s.ptp ∧ (s.raise p b).ring = s.ring ∧ (s.raise p b).tbl = s.tbl ∧ (s.raise p b).cry = s.cry ∧
    (s.raise p b).tun = s.tun ∧ (s.raise p b).sto = s.sto ∧ (s.raise p b).nyate = s.nyate ∧ (s.raise p b).krds = s.krds ∧
    (s.raise p b).console = s.console ∧ (s.raise p b).twp = s.twp ∧ (s.raise p b).sens = s.sens ∧
    (s.raise p b).safBox = s.safBox ∧ (s.raise p b).saf = s.saf ∧ (s.raise p b).meter = s.meter ∧
    (s.raise p b).pending = s.pending ∧
    ((s.raise p b).host).perst = s.host.perst ∧ ((s.raise p b).host).lastGen = s.host.lastGen ∧
    ((s.raise p b).host).lastW = s.host.lastW ∧ ((s.raise p b).host).rid = s.host.rid ∧
    ((s.raise p b).host).nextRead = s.host.nextRead ∧ ((s.raise p b).host).reads = s.host.reads ∧
    ((s.raise p b).host).ended = s.host.ended ∧ ((s.raise p b).host).msix = s.host.msix ∧
    ((s.raise p b).host).pme = s.host.pme ∧ ((s.raise p b).host).ltrBusy = s.host.ltrBusy ∧
    ((s.raise p b).host).ready = s.host.ready ∧ ((s.raise p b).host).startMs = s.host.startMs :=
  State.quiet_fields (State.quiet_raise s p b)

@[simp] theorem State.raiseIf_frame (s : State) (c : Bool) (p : Page) (b : Nat) :
    (s.raiseIf c p b).locks = s.locks ∧ (s.raiseIf c p b).snaps = s.snaps ∧ (s.raiseIf c p b).held = s.held ∧
    (s.raiseIf c p b).pwr = s.pwr ∧ (s.raiseIf c p b).boot = s.boot ∧ (s.raiseIf c p b).keys = s.keys ∧
    (s.raiseIf c p b).fram = s.fram ∧ (s.raiseIf c p b).isl = s.isl ∧ (s.raiseIf c p b).clk = s.clk ∧
    (s.raiseIf c p b).funcs = s.funcs ∧ (s.raiseIf c p b).queues = s.queues ∧ (s.raiseIf c p b).ham = s.ham ∧
    (s.raiseIf c p b).frames = s.frames ∧ (s.raiseIf c p b).nextId = s.nextId ∧ (s.raiseIf c p b).ports = s.ports ∧
    (s.raiseIf c p b).gates = s.gates ∧ (s.raiseIf c p b).ptp = s.ptp ∧ (s.raiseIf c p b).ring = s.ring ∧
    (s.raiseIf c p b).tbl = s.tbl ∧ (s.raiseIf c p b).cry = s.cry ∧ (s.raiseIf c p b).tun = s.tun ∧
    (s.raiseIf c p b).sto = s.sto ∧ (s.raiseIf c p b).nyate = s.nyate ∧ (s.raiseIf c p b).krds = s.krds ∧
    (s.raiseIf c p b).console = s.console ∧ (s.raiseIf c p b).twp = s.twp ∧ (s.raiseIf c p b).sens = s.sens ∧
    (s.raiseIf c p b).safBox = s.safBox ∧ (s.raiseIf c p b).saf = s.saf ∧ (s.raiseIf c p b).meter = s.meter ∧
    (s.raiseIf c p b).pending = s.pending ∧
    ((s.raiseIf c p b).host).perst = s.host.perst ∧ ((s.raiseIf c p b).host).lastGen = s.host.lastGen ∧
    ((s.raiseIf c p b).host).lastW = s.host.lastW ∧ ((s.raiseIf c p b).host).rid = s.host.rid ∧
    ((s.raiseIf c p b).host).nextRead = s.host.nextRead ∧ ((s.raiseIf c p b).host).reads = s.host.reads ∧
    ((s.raiseIf c p b).host).ended = s.host.ended ∧ ((s.raiseIf c p b).host).msix = s.host.msix ∧
    ((s.raiseIf c p b).host).pme = s.host.pme ∧ ((s.raiseIf c p b).host).ltrBusy = s.host.ltrBusy ∧
    ((s.raiseIf c p b).host).ready = s.host.ready ∧ ((s.raiseIf c p b).host).startMs = s.host.startMs :=
  State.quiet_fields (State.quiet_raiseIf s c p b)

@[simp] theorem State.unmasked_frame (s : State) (p : Page) (old : Word) :
    (s.unmasked p old).locks = s.locks ∧ (s.unmasked p old).snaps = s.snaps ∧ (s.unmasked p old).held = s.held ∧
    (s.unmasked p old).pwr = s.pwr ∧ (s.unmasked p old).boot = s.boot ∧ (s.unmasked p old).keys = s.keys ∧
    (s.unmasked p old).fram = s.fram ∧ (s.unmasked p old).isl = s.isl ∧ (s.unmasked p old).clk = s.clk ∧
    (s.unmasked p old).funcs = s.funcs ∧ (s.unmasked p old).queues = s.queues ∧ (s.unmasked p old).ham = s.ham ∧
    (s.unmasked p old).frames = s.frames ∧ (s.unmasked p old).nextId = s.nextId ∧ (s.unmasked p old).ports = s.ports ∧
    (s.unmasked p old).gates = s.gates ∧ (s.unmasked p old).ptp = s.ptp ∧ (s.unmasked p old).ring = s.ring ∧
    (s.unmasked p old).tbl = s.tbl ∧ (s.unmasked p old).cry = s.cry ∧ (s.unmasked p old).tun = s.tun ∧
    (s.unmasked p old).sto = s.sto ∧ (s.unmasked p old).nyate = s.nyate ∧ (s.unmasked p old).krds = s.krds ∧
    (s.unmasked p old).console = s.console ∧ (s.unmasked p old).twp = s.twp ∧ (s.unmasked p old).sens = s.sens ∧
    (s.unmasked p old).safBox = s.safBox ∧ (s.unmasked p old).saf = s.saf ∧ (s.unmasked p old).meter = s.meter ∧
    (s.unmasked p old).pending = s.pending ∧
    ((s.unmasked p old).host).perst = s.host.perst ∧ ((s.unmasked p old).host).lastGen = s.host.lastGen ∧
    ((s.unmasked p old).host).lastW = s.host.lastW ∧ ((s.unmasked p old).host).rid = s.host.rid ∧
    ((s.unmasked p old).host).nextRead = s.host.nextRead ∧ ((s.unmasked p old).host).reads = s.host.reads ∧
    ((s.unmasked p old).host).ended = s.host.ended ∧ ((s.unmasked p old).host).msix = s.host.msix ∧
    ((s.unmasked p old).host).pme = s.host.pme ∧ ((s.unmasked p old).host).ltrBusy = s.host.ltrBusy ∧
    ((s.unmasked p old).host).ready = s.host.ready ∧ ((s.unmasked p old).host).startMs = s.host.startMs :=
  State.quiet_fields (State.quiet_unmasked s p old)

@[simp] theorem State.note_frame (s : State) (ty code : Nat) (d0 d1 d2 : Word) :
    (s.note ty code d0 d1 d2).locks = s.locks ∧ (s.note ty code d0 d1 d2).snaps = s.snaps ∧
    (s.note ty code d0 d1 d2).held = s.held ∧ (s.note ty code d0 d1 d2).pwr = s.pwr ∧
    (s.note ty code d0 d1 d2).boot = s.boot ∧ (s.note ty code d0 d1 d2).keys = s.keys ∧
    (s.note ty code d0 d1 d2).fram = s.fram ∧ (s.note ty code d0 d1 d2).isl = s.isl ∧
    (s.note ty code d0 d1 d2).clk = s.clk ∧ (s.note ty code d0 d1 d2).funcs = s.funcs ∧
    (s.note ty code d0 d1 d2).queues = s.queues ∧ (s.note ty code d0 d1 d2).ham = s.ham ∧
    (s.note ty code d0 d1 d2).frames = s.frames ∧ (s.note ty code d0 d1 d2).nextId = s.nextId ∧
    (s.note ty code d0 d1 d2).ports = s.ports ∧ (s.note ty code d0 d1 d2).gates = s.gates ∧
    (s.note ty code d0 d1 d2).ptp = s.ptp ∧ (s.note ty code d0 d1 d2).ring = s.ring ∧
    (s.note ty code d0 d1 d2).tbl = s.tbl ∧ (s.note ty code d0 d1 d2).cry = s.cry ∧ (s.note ty code d0 d1 d2).tun = s.tun ∧
    (s.note ty code d0 d1 d2).sto = s.sto ∧ (s.note ty code d0 d1 d2).nyate = s.nyate ∧
    (s.note ty code d0 d1 d2).krds = s.krds ∧ (s.note ty code d0 d1 d2).console = s.console ∧
    (s.note ty code d0 d1 d2).twp = s.twp ∧ (s.note ty code d0 d1 d2).sens = s.sens ∧
    (s.note ty code d0 d1 d2).safBox = s.safBox ∧ (s.note ty code d0 d1 d2).saf = s.saf ∧
    (s.note ty code d0 d1 d2).meter = s.meter ∧ (s.note ty code d0 d1 d2).pending = s.pending ∧
    ((s.note ty code d0 d1 d2).host).perst = s.host.perst ∧ ((s.note ty code d0 d1 d2).host).lastGen = s.host.lastGen ∧
    ((s.note ty code d0 d1 d2).host).lastW = s.host.lastW ∧ ((s.note ty code d0 d1 d2).host).rid = s.host.rid ∧
    ((s.note ty code d0 d1 d2).host).nextRead = s.host.nextRead ∧ ((s.note ty code d0 d1 d2).host).reads = s.host.reads ∧
    ((s.note ty code d0 d1 d2).host).ended = s.host.ended ∧ ((s.note ty code d0 d1 d2).host).msix = s.host.msix ∧
    ((s.note ty code d0 d1 d2).host).pme = s.host.pme ∧ ((s.note ty code d0 d1 d2).host).ltrBusy = s.host.ltrBusy ∧
    ((s.note ty code d0 d1 d2).host).ready = s.host.ready ∧ ((s.note ty code d0 d1 d2).host).startMs = s.host.startMs :=
  State.quiet_fields (State.quiet_note s ty code d0 d1 d2)

@[simp] theorem State.raiseSensor_frame (s : State) (b : Nat) (sensor value limit : Word) :
    (s.raiseSensor b sensor value limit).locks = s.locks ∧ (s.raiseSensor b sensor value limit).snaps = s.snaps ∧
    (s.raiseSensor b sensor value limit).held = s.held ∧ (s.raiseSensor b sensor value limit).pwr = s.pwr ∧
    (s.raiseSensor b sensor value limit).boot = s.boot ∧ (s.raiseSensor b sensor value limit).keys = s.keys ∧
    (s.raiseSensor b sensor value limit).fram = s.fram ∧ (s.raiseSensor b sensor value limit).isl = s.isl ∧
    (s.raiseSensor b sensor value limit).clk = s.clk ∧ (s.raiseSensor b sensor value limit).funcs = s.funcs ∧
    (s.raiseSensor b sensor value limit).queues = s.queues ∧ (s.raiseSensor b sensor value limit).ham = s.ham ∧
    (s.raiseSensor b sensor value limit).frames = s.frames ∧ (s.raiseSensor b sensor value limit).nextId = s.nextId ∧
    (s.raiseSensor b sensor value limit).ports = s.ports ∧ (s.raiseSensor b sensor value limit).gates = s.gates ∧
    (s.raiseSensor b sensor value limit).ptp = s.ptp ∧ (s.raiseSensor b sensor value limit).ring = s.ring ∧
    (s.raiseSensor b sensor value limit).tbl = s.tbl ∧ (s.raiseSensor b sensor value limit).cry = s.cry ∧
    (s.raiseSensor b sensor value limit).tun = s.tun ∧ (s.raiseSensor b sensor value limit).sto = s.sto ∧
    (s.raiseSensor b sensor value limit).nyate = s.nyate ∧ (s.raiseSensor b sensor value limit).krds = s.krds ∧
    (s.raiseSensor b sensor value limit).console = s.console ∧ (s.raiseSensor b sensor value limit).twp = s.twp ∧
    (s.raiseSensor b sensor value limit).sens = s.sens ∧ (s.raiseSensor b sensor value limit).safBox = s.safBox ∧
    (s.raiseSensor b sensor value limit).saf = s.saf ∧ (s.raiseSensor b sensor value limit).meter = s.meter ∧
    (s.raiseSensor b sensor value limit).pending = s.pending ∧
    ((s.raiseSensor b sensor value limit).host).perst = s.host.perst ∧
    ((s.raiseSensor b sensor value limit).host).lastGen = s.host.lastGen ∧
    ((s.raiseSensor b sensor value limit).host).lastW = s.host.lastW ∧
    ((s.raiseSensor b sensor value limit).host).rid = s.host.rid ∧
    ((s.raiseSensor b sensor value limit).host).nextRead = s.host.nextRead ∧
    ((s.raiseSensor b sensor value limit).host).reads = s.host.reads ∧
    ((s.raiseSensor b sensor value limit).host).ended = s.host.ended ∧
    ((s.raiseSensor b sensor value limit).host).msix = s.host.msix ∧
    ((s.raiseSensor b sensor value limit).host).pme = s.host.pme ∧
    ((s.raiseSensor b sensor value limit).host).ltrBusy = s.host.ltrBusy ∧
    ((s.raiseSensor b sensor value limit).host).ready = s.host.ready ∧
    ((s.raiseSensor b sensor value limit).host).startMs = s.host.startMs :=
  State.quiet_fields (State.quiet_raiseSensor s b sensor value limit)

@[simp] theorem State.noteSession_frame (s : State) (master : Nat) (start operate : Bool) (peer : Word) (served : Nat) :
    (s.noteSession master start operate peer served).locks = s.locks ∧
    (s.noteSession master start operate peer served).snaps = s.snaps ∧
    (s.noteSession master start operate peer served).held = s.held ∧
    (s.noteSession master start operate peer served).pwr = s.pwr ∧
    (s.noteSession master start operate peer served).boot = s.boot ∧
    (s.noteSession master start operate peer served).keys = s.keys ∧
    (s.noteSession master start operate peer served).fram = s.fram ∧
    (s.noteSession master start operate peer served).isl = s.isl ∧
    (s.noteSession master start operate peer served).clk = s.clk ∧
    (s.noteSession master start operate peer served).funcs = s.funcs ∧
    (s.noteSession master start operate peer served).queues = s.queues ∧
    (s.noteSession master start operate peer served).ham = s.ham ∧
    (s.noteSession master start operate peer served).frames = s.frames ∧
    (s.noteSession master start operate peer served).nextId = s.nextId ∧
    (s.noteSession master start operate peer served).ports = s.ports ∧
    (s.noteSession master start operate peer served).gates = s.gates ∧
    (s.noteSession master start operate peer served).ptp = s.ptp ∧
    (s.noteSession master start operate peer served).ring = s.ring ∧
    (s.noteSession master start operate peer served).tbl = s.tbl ∧
    (s.noteSession master start operate peer served).cry = s.cry ∧
    (s.noteSession master start operate peer served).tun = s.tun ∧
    (s.noteSession master start operate peer served).sto = s.sto ∧
    (s.noteSession master start operate peer served).nyate = s.nyate ∧
    (s.noteSession master start operate peer served).krds = s.krds ∧
    (s.noteSession master start operate peer served).console = s.console ∧
    (s.noteSession master start operate peer served).twp = s.twp ∧
    (s.noteSession master start operate peer served).sens = s.sens ∧
    (s.noteSession master start operate peer served).safBox = s.safBox ∧
    (s.noteSession master start operate peer served).saf = s.saf ∧
    (s.noteSession master start operate peer served).meter = s.meter ∧
    (s.noteSession master start operate peer served).pending = s.pending ∧
    ((s.noteSession master start operate peer served).host).perst = s.host.perst ∧
    ((s.noteSession master start operate peer served).host).lastGen = s.host.lastGen ∧
    ((s.noteSession master start operate peer served).host).lastW = s.host.lastW ∧
    ((s.noteSession master start operate peer served).host).rid = s.host.rid ∧
    ((s.noteSession master start operate peer served).host).nextRead = s.host.nextRead ∧
    ((s.noteSession master start operate peer served).host).reads = s.host.reads ∧
    ((s.noteSession master start operate peer served).host).ended = s.host.ended ∧
    ((s.noteSession master start operate peer served).host).msix = s.host.msix ∧
    ((s.noteSession master start operate peer served).host).pme = s.host.pme ∧
    ((s.noteSession master start operate peer served).host).ltrBusy = s.host.ltrBusy ∧
    ((s.noteSession master start operate peer served).host).ready = s.host.ready ∧
    ((s.noteSession master start operate peer served).host).startMs = s.host.startMs :=
  State.quiet_fields (State.quiet_noteSession s master start operate peer served)

@[simp] theorem State.sendMsix_frame (s : State) (f v : Nat) :
    (s.sendMsix f v).locks = s.locks ∧ (s.sendMsix f v).snaps = s.snaps ∧ (s.sendMsix f v).held = s.held ∧
    (s.sendMsix f v).pwr = s.pwr ∧ (s.sendMsix f v).boot = s.boot ∧ (s.sendMsix f v).keys = s.keys ∧
    (s.sendMsix f v).fram = s.fram ∧ (s.sendMsix f v).isl = s.isl ∧ (s.sendMsix f v).clk = s.clk ∧
    (s.sendMsix f v).funcs = s.funcs ∧ (s.sendMsix f v).queues = s.queues ∧ (s.sendMsix f v).ham = s.ham ∧
    (s.sendMsix f v).frames = s.frames ∧ (s.sendMsix f v).nextId = s.nextId ∧ (s.sendMsix f v).ports = s.ports ∧
    (s.sendMsix f v).gates = s.gates ∧ (s.sendMsix f v).ptp = s.ptp ∧ (s.sendMsix f v).ring = s.ring ∧
    (s.sendMsix f v).tbl = s.tbl ∧ (s.sendMsix f v).cry = s.cry ∧ (s.sendMsix f v).tun = s.tun ∧
    (s.sendMsix f v).sto = s.sto ∧ (s.sendMsix f v).nyate = s.nyate ∧ (s.sendMsix f v).krds = s.krds ∧
    (s.sendMsix f v).console = s.console ∧ (s.sendMsix f v).twp = s.twp ∧ (s.sendMsix f v).sens = s.sens ∧
    (s.sendMsix f v).safBox = s.safBox ∧ (s.sendMsix f v).saf = s.saf ∧ (s.sendMsix f v).meter = s.meter ∧
    (s.sendMsix f v).pending = s.pending ∧
    ((s.sendMsix f v).host).perst = s.host.perst ∧ ((s.sendMsix f v).host).lastGen = s.host.lastGen ∧
    ((s.sendMsix f v).host).lastW = s.host.lastW ∧ ((s.sendMsix f v).host).rid = s.host.rid ∧
    ((s.sendMsix f v).host).nextRead = s.host.nextRead ∧ ((s.sendMsix f v).host).reads = s.host.reads ∧
    ((s.sendMsix f v).host).ended = s.host.ended ∧ ((s.sendMsix f v).host).msix = s.host.msix ∧
    ((s.sendMsix f v).host).pme = s.host.pme ∧ ((s.sendMsix f v).host).ltrBusy = s.host.ltrBusy ∧
    ((s.sendMsix f v).host).ready = s.host.ready ∧ ((s.sendMsix f v).host).startMs = s.host.startMs :=
  State.quiet_fields (State.quiet_sendMsix s f v)

@[simp] theorem State.emitAll_frame (s : State) (l : List Out) :
    (s.emitAll l).locks = s.locks ∧ (s.emitAll l).snaps = s.snaps ∧ (s.emitAll l).held = s.held ∧
    (s.emitAll l).pwr = s.pwr ∧ (s.emitAll l).boot = s.boot ∧ (s.emitAll l).keys = s.keys ∧ (s.emitAll l).fram = s.fram ∧
    (s.emitAll l).isl = s.isl ∧ (s.emitAll l).clk = s.clk ∧ (s.emitAll l).funcs = s.funcs ∧
    (s.emitAll l).queues = s.queues ∧ (s.emitAll l).ham = s.ham ∧ (s.emitAll l).frames = s.frames ∧
    (s.emitAll l).nextId = s.nextId ∧ (s.emitAll l).ports = s.ports ∧ (s.emitAll l).gates = s.gates ∧
    (s.emitAll l).ptp = s.ptp ∧ (s.emitAll l).ring = s.ring ∧ (s.emitAll l).tbl = s.tbl ∧ (s.emitAll l).cry = s.cry ∧
    (s.emitAll l).tun = s.tun ∧ (s.emitAll l).sto = s.sto ∧ (s.emitAll l).nyate = s.nyate ∧ (s.emitAll l).krds = s.krds ∧
    (s.emitAll l).console = s.console ∧ (s.emitAll l).twp = s.twp ∧ (s.emitAll l).sens = s.sens ∧
    (s.emitAll l).safBox = s.safBox ∧ (s.emitAll l).saf = s.saf ∧ (s.emitAll l).meter = s.meter ∧
    (s.emitAll l).pending = s.pending ∧
    ((s.emitAll l).host).perst = s.host.perst ∧ ((s.emitAll l).host).lastGen = s.host.lastGen ∧
    ((s.emitAll l).host).lastW = s.host.lastW ∧ ((s.emitAll l).host).rid = s.host.rid ∧
    ((s.emitAll l).host).nextRead = s.host.nextRead ∧ ((s.emitAll l).host).reads = s.host.reads ∧
    ((s.emitAll l).host).ended = s.host.ended ∧ ((s.emitAll l).host).msix = s.host.msix ∧
    ((s.emitAll l).host).pme = s.host.pme ∧ ((s.emitAll l).host).ltrBusy = s.host.ltrBusy ∧
    ((s.emitAll l).host).ready = s.host.ready ∧ ((s.emitAll l).host).startMs = s.host.startMs :=
  State.quiet_fields (State.quiet_emitAll s l)

/-! ## Registers -/

/-- The registers that recording can touch: LOG_LOST and the event register of LOG. -/
abbrev logKeys : List Nat := [regKey .log 0x4C, regKey .log 0x10]

theorem State.reg_logOne (s : State) (ty code page : Nat) (d0 d1 d2 : Word) (q : Page) (o : Nat)
    (h : regKey q o ∉ logKeys) : (s.logOne ty code page d0 d1 d2).reg q o = s.reg q o := by
  simp only [List.mem_cons, List.not_mem_nil, or_false, not_or] at h
  unfold State.logOne
  dsimp only
  split
  · split
    · rfl
    · rw [State.reg_count_ne _ _ _ _ _ h.1]; rfl
  · rfl

theorem State.reg_logRaw (s : State) (ty code page : Nat) (d0 d1 d2 : Word) (q : Page) (o : Nat)
    (h : regKey q o ∉ logKeys) : (s.logRaw ty code page d0 d1 d2).reg q o = s.reg q o := by
  unfold State.logRaw
  dsimp only
  split
  · exact State.reg_logOne _ _ _ _ _ _ _ q o h
  · rw [State.reg_logOne _ _ _ _ _ _ _ q o h, State.reg_logOne _ _ _ _ _ _ _ q o h]; rfl

theorem State.reg_logRoute (s : State) (p : Page) (b : Nat) (q : Page) (o : Nat) (h : regKey q o ∉ logKeys) :
    (s.logRoute p b).reg q o = s.reg q o := by
  unfold State.logRoute
  split
  · rfl
  · exact State.reg_logRaw _ _ _ _ _ _ _ q o h

@[simp] theorem State.reg_sendMsix (s : State) (f v : Nat) (q : Page) (o : Nat) :
    (s.sendMsix f v).reg q o = s.reg q o := by
  unfold State.sendMsix
  split
  · rfl
  · split
    · rfl
    · split <;> rfl

theorem State.reg_route (s : State) (p : Page) (b : Nat) (q : Page) (o : Nat) (h : regKey q o ∉ logKeys) :
    (s.route p b).reg q o = s.reg q o := by
  unfold State.route
  simp only []
  split <;> split <;> split <;> simp [State.reg_logRoute _ _ _ q o h]

theorem State.reg_routes (s : State) (p : Page) (w : Word) (l : List Nat) (q : Page) (o : Nat) (h : regKey q o ∉ logKeys) :
    (l.foldl (fun t b => if bitOn w b then t.route p b else t) s).reg q o = s.reg q o :=
  State.foldl_keep (fun t => t.reg q o) _ l s (fun t b => by
    show (if bitOn w b then t.route p b else t).reg q o = t.reg q o
    split
    · exact State.reg_route t p b q o h
    · rfl)

theorem State.reg_raiseBits (s : State) (p : Page) (m : Word) (q : Page) (o : Nat) (h : regKey q o ∉ logKeys) :
    (s.raiseBits p m).reg q o = (s.setReg p 0x10 (s.reg p 0x10 ||| m)).reg q o := by
  unfold State.raiseBits
  exact State.reg_routes _ _ _ _ q o h

theorem State.reg_noteLoss (a s : State) (q : Page) (o : Nat) (h : regKey q o ∉ logKeys) :
    (State.noteLoss a s).reg q o = s.reg q o := by
  have h' := h
  simp only [List.mem_cons, List.not_mem_nil, or_false, not_or] at h'
  unfold State.noteLoss
  split
  · rfl
  · rw [State.reg_raiseBits _ _ _ q o h, State.reg_setReg_ne _ _ _ _ _ _ h'.2]

/-- Raising an event leaves every register alone but the page's event register and those recording can touch. -/
theorem State.reg_raise_ne (s : State) (p : Page) (b : Nat) (q : Page) (o : Nat) (hp : regKey q o ≠ regKey p 0x10)
    (h : regKey q o ∉ logKeys) : (s.raise p b).reg q o = s.reg q o := by
  unfold State.raise
  rw [State.reg_noteLoss _ _ q o h, State.reg_raiseBits _ _ _ q o h, State.reg_setReg_ne _ _ _ _ _ _ hp]

/-- Raising an event of a page other than LOG sets its bit and keeps the others. -/
theorem State.reg_raise_same (s : State) (p : Page) (b : Nat) (h : regKey p 0x10 ∉ logKeys) :
    (s.raise p b).reg p 0x10 = s.reg p 0x10 ||| bit b := by
  unfold State.raise
  rw [State.reg_noteLoss _ _ p _ h, State.reg_raiseBits _ _ _ p _ h, State.reg_setReg_same]

theorem State.reg_unmasked (s : State) (p : Page) (old : Word) (q : Page) (o : Nat) (h : regKey q o ∉ logKeys) :
    (s.unmasked p old).reg q o = s.reg q o := by
  unfold State.unmasked
  rw [State.reg_noteLoss _ _ q o h, State.reg_routes _ _ _ _ q o h]

theorem State.reg_note (s : State) (ty code : Nat) (d0 d1 d2 : Word) (q : Page) (o : Nat) (h : regKey q o ∉ logKeys) :
    (s.note ty code d0 d1 d2).reg q o = s.reg q o := by
  unfold State.note
  rw [State.reg_noteLoss _ _ q o h, State.reg_logRaw _ _ _ _ _ _ _ q o h]

@[simp] theorem State.reg_emitAll (s : State) (l : List Out) (q : Page) (o : Nat) : (s.emitAll l).reg q o = s.reg q o :=
  State.foldl_keep (fun t => t.reg q o) State.emit l s (fun _ _ => rfl)

end Sys2Proof.Machine
end

