-- ==== Sys2Proof/Laws/Arbiter.lean ====
section
/-!
SUPPORT. Laws/Arbiter.lean: what a page cycle does: which request it applies, what recording its discards can touch, and what a write
that the cycle grants comes to. The provers cite these for every command that is a register write.
-/
namespace Sys2Proof.Machine

open Sys2Proof

/-! ## The highest-ranked request -/

/-- The request picked is one of them. -/
theorem topReq_mem {l : List Req} {r : Req} (h : topReq l = some r) : r ∈ l := by
  induction l generalizing r with
  | nil => simp [topReq] at h
  | cons a l ih =>
    simp only [topReq] at h
    cases e : topReq l with
    | none => simp [e] at h; simp [h]
    | some x =>
      simp only [e] at h
      split at h <;> simp only [Option.some.injEq] at h
      · subst h; exact List.mem_cons_of_mem _ (ih e)
      · simp [h]

/-- None has a higher rank. -/
theorem topReq_rank {l : List Req} {r : Req} (h : topReq l = some r) : ∀ x ∈ l, r.master.rank ≤ x.master.rank := by
  induction l generalizing r with
  | nil => simp [topReq] at h
  | cons a l ih =>
    intro x hx
    simp only [topReq] at h
    cases e : topReq l with
    | none =>
      simp only [e, Option.some.injEq] at h
      have hl : l = [] := by
        cases l with
        | nil => rfl
        | cons b l =>
          exfalso
          simp only [topReq] at e
          cases e' : topReq l with
          | none => simp [e'] at e
          | some y => simp only [e'] at e; split at e <;> simp at e
      subst hl; subst h
      simp at hx; subst hx; exact Nat.le_refl _
    | some y =>
      simp only [e] at h
      have hy := ih e
      split at h <;> simp only [Option.some.injEq] at h
      · next lt =>
        subst h
        cases List.mem_cons.mp hx with
        | inl q => subst q; omega
        | inr q => exact hy x q
      · next nlt =>
        subst h
        cases List.mem_cons.mp hx with
        | inl q => subst q; exact Nat.le_refl _
        | inr q => have := hy x q; omega

/-- There is one wherever there is any. -/
theorem topReq_none {l : List Req} : topReq l = none ↔ l = [] := by
  cases l with
  | nil => simp [topReq]
  | cons a l =>
    simp only [topReq, reduceCtorEq, iff_false]
    cases topReq l with
    | none => simp
    | some y => dsimp only; split <;> simp

/-- The request a cycle applies is one of its requests, and one that may be applied. -/
theorem State.winner_spec {s : State} {p : Page} {rs : List Req} {w : Req} (h : s.winner p rs = some w) :
    w ∈ rs ∧ (if w.isRead then s.competes p w.master else s.accepts p w) = true := by
  have m := topReq_mem h
  rw [State.candidates, List.mem_filter] at m
  exact m

/-! ## Islands that take the access -/

/-- An island that takes an access is not off. -/
theorem State.islandOff_of_takes {s : State} {i : Island} (h : s.takes i) : s.islandOff i = false := by
  obtain ⟨c, m, _⟩ := h
  simp [State.islandOff, c, m]

/-- An island that takes an access is not asleep. -/
theorem State.wakeFor_of_takes {s : State} {i : Island} (h : s.takes i) : s.wakeFor i = s := by
  obtain ⟨_, m, _⟩ := h
  simp [State.wakeFor, m]

/-- Without TEMP_CRIT no level register is touched (R374). -/
@[simp] theorem State.coolDown_of_cool {s : State} (h : s.sens.hot = false) : s.coolDown = s := by simp [State.coolDown, h]

/-- The requests of a cycle are those that are writes or that their master can make (R27). -/
theorem State.settleWith_of_made {s : State} {p : Page} {rs l : List Req} {r : Req} (e : ImgEnv) (h : s.made p rs = r :: l) :
    s.settleWith p rs e = s.settleMade p (r :: l) e := by simp [State.settleWith, h]

/-- A cycle that no master can make is none. -/
theorem State.settleWith_of_unmade {s : State} {p : Page} {rs : List Req} (e : ImgEnv) (h : s.made p rs = []) : s.settleWith p rs e = s := by
  simp [State.settleWith, h]

/-- The requests of an island that takes them are arbitrated (R32, R359). -/
theorem State.settleMade_of_takes {s : State} {p : Page} {r : Req} {rs : List Req} (e : ImgEnv) (h : s.takes (accessIsland p r.off.toNat)) :
    s.settleMade p (r :: rs) e = (s.arbitrate p (r :: rs) e).coolDown := by
  have n := h.2.2
  simp only [State.settleMade, State.islandOff_of_takes h, State.wakeFor_of_takes h, n]
  simp

/-- Those of an island that is off are discarded and counted (R359). -/
theorem State.settleMade_of_off {s : State} {p : Page} {r : Req} {rs : List Req} (e : ImgEnv)
    (h : s.islandOff (accessIsland p r.off.toNat) = true) :
    s.settleMade p (r :: rs) e = (s.add .isl 0x64 31 0 (r :: rs).length).zeroAnswers (r :: rs) := by
  simp only [State.settleMade, h, if_true]

/-- A write is always made. -/
theorem State.made_cons_write {s : State} {p : Page} {r : Req} (rs : List Req) (h : r.isRead = false) :
    s.made p (r :: rs) = r :: s.made p rs := by simp [State.made, h]

/-- Those that a master cannot make would not have competed: the request applied is the same. -/
theorem State.candidates_made (s : State) (p : Page) (rs : List Req) : s.candidates p (s.made p rs) = s.candidates p rs := by
  simp only [State.candidates, State.made, List.filter_filter]
  refine List.filter_congr fun r _ => ?_
  cases e : r.isRead <;> simp [State.competes]
  intro a _ _; exact a

theorem State.winner_made (s : State) (p : Page) (rs : List Req) : s.winner p (s.made p rs) = s.winner p rs := by
  simp only [State.winner, State.candidates_made]

/-- Every refusal is of a write, so all of them are made. -/
theorem State.refusedOf_made (s : State) (p : Page) (rs : List Req) : s.refusedOf p (s.made p rs) = s.refusedOf p rs := by
  simp only [State.refusedOf, State.made, List.filter_filter]
  exact List.filter_congr fun r _ => by cases r.isRead <;> simp

/-! ## Recording the discards (R34, R47, R48) -/

theorem State.quiet_noteConflict (s : State) (p : Page) (r : Req) (b : Bool) (n : Nat) : (s.noteConflict p r b n).quiet = s.quiet :=
  State.quiet_setReg ..

/-- Recording discards: PG_CONFLICT of the page first, then what PREC counts and reports. -/
theorem State.noteDiscards_split (s : State) (p : Page) (lost refused : List Req) :
    ∃ t : State, t.quiet = s.quiet ∧ (∀ q o, regKey q o ≠ regKey p 0x28 → t.reg q o = s.reg q o) ∧
      s.noteDiscards p lost refused =
        (match topReq refused with
         | some r =>
             let w := ((t.add .prec 0x60 31 0 lost.length).add .prec 0x64 31 0 refused.length).setReg .prec 0x6C
               (word (r.master.num * 2 ^ 28 + r.word % 1024 * 2 ^ 16 + p.index))
             { w with log := { w.log with sens := Sparse.put w.log.sens 101 (word p.code) } }.raise .prec 1
         | none => (t.add .prec 0x60 31 0 lost.length).add .prec 0x64 31 0 refused.length) := by
  refine ⟨match topReq (refused ++ lost) with
      | some r => s.noteConflict p r (refused.contains r) (lost.length + refused.length)
      | none => s, ?_, ?_, rfl⟩
  · split
    · exact State.quiet_noteConflict ..
    · rfl
  · intro q o h
    split
    · rw [State.noteConflict, State.reg_setReg_ne _ _ _ _ _ _ h]
    · rfl

/-- The word of the last refusal changes neither what is quiet nor another register. -/
theorem State.quiet_logSens (s : State) (m : Sparse Word) : { s with log := { s.log with sens := m } }.quiet = s.quiet := rfl

theorem State.reg_logSens (s : State) (m : Sparse Word) (q : Page) (o : Nat) : { s with log := { s.log with sens := m } }.reg q o = s.reg q o := rfl

/-- Recording discards touches registers, the log, what leaves the unit, and of the host link what an event can touch. -/
theorem State.quiet_noteDiscards (s : State) (p : Page) (lost refused : List Req) : (s.noteDiscards p lost refused).quiet = s.quiet := by
  obtain ⟨t, ht, _, e⟩ := s.noteDiscards_split p lost refused
  rw [e]
  split
  · rw [State.quiet_raise, State.quiet_logSens, State.quiet_setReg]; exact ht
  · exact ht

/-- Recording discards leaves every register but those it names alone. -/
theorem State.reg_noteDiscards (s : State) (p : Page) (lost refused : List Req) (q : Page) (o : Nat)
    (h : ∀ x ∈ discardRegs p, regKey q o ≠ regKey x.1 x.2) : (s.noteDiscards p lost refused).reg q o = s.reg q o := by
  simp only [discardRegs, List.mem_cons, List.not_mem_nil, or_false, forall_eq_or_imp, forall_eq] at h
  obtain ⟨h1, h2, h3, h4, h5, h6, h7⟩ := h
  have k : regKey q o ∉ logKeys := by simp [logKeys, h6, h7]
  obtain ⟨t, _, ht, e⟩ := s.noteDiscards_split p lost refused
  have b := (State.reg_add_ne _ .prec q 0x64 31 0 refused.length o h3).trans ((State.reg_add_ne _ .prec q 0x60 31 0 lost.length o h2).trans (ht q o h1))
  rw [e]
  split
  · rw [State.reg_raise_ne _ _ _ _ _ h5 k, State.reg_logSens, State.reg_setReg_ne _ _ _ _ _ _ h4, b]
  · exact b

/-! ## A cycle -/

/-- What a cycle comes to that applies a request: its effect, the discards recorded, the lock reads answered. -/
theorem State.arbitrate_of_winner {s : State} {p : Page} {rs : List Req} {w : Req} (e : ImgEnv) (h : s.winner p rs = some w) :
    s.arbitrate p rs e =
      s.answerReads p rs ((s.applyReq p w e).noteDiscards p ((s.candidates p rs).erase w) (s.refusedOf p rs)) := by
  simp only [State.arbitrate, h]

/-- A cycle that applies nothing records its refusals. -/
theorem State.arbitrate_of_none {s : State} {p : Page} {rs : List Req} (e : ImgEnv) (h : s.winner p rs = none) :
    s.arbitrate p rs e =
      s.answerReads p rs (s.noteDiscards p [] (s.refusedOf p rs)) := by
  simp only [State.arbitrate, h]

/-- Sending several things: what no single one changes. -/
theorem State.emitAll_keep {α : Type} (g : State → α) (l : List Out) (t : State) (h : ∀ (u : State) (o : Out), g (u.emit o) = g u) :
    g (t.emitAll l) = g t := State.foldl_keep g _ l t h

/-- The answers of the lock reads change no register. -/
@[simp] theorem State.reg_answers (s t : State) (p : Page) (rs : List Req) (q : Page) (o : Nat) :
    (s.answerReads p rs t).reg q o = t.reg q o :=
  State.foldl_keep (fun u => u.reg q o) _ _ t (fun _ _ => State.emitAll_keep (fun u => u.reg q o) _ _ (fun _ _ => rfl))

/-- They touch only what leaves the unit and the state of the host link. -/
theorem State.quiet_answers (s t : State) (p : Page) (rs : List Req) : (s.answerReads p rs t).quiet = t.quiet :=
  State.foldl_keep State.quiet _ _ t (fun _ _ => State.emitAll_keep State.quiet _ _ (fun _ _ => rfl))

/-- A cycle without a lock read answers none. -/
theorem State.answerReads_of_writes {s t : State} {p : Page} {rs : List Req} (h : rs.filter Req.isRead = []) : s.answerReads p rs t = t := by
  simp [State.answerReads, h]

/-- A granted write: the write acts, and only the discards and answers of the cycle come after it. -/
theorem State.write_of_grants {s : State} {p : Page} {off : Nat} {m : Master} {v : Word} {rivals : List Req}
    (h : s.takes (accessIsland p (BitVec.ofNat 12 off).toNat)) (hw : s.winner p (wr m off v :: rivals) = some (wr m off v)) :
    s.write p off m v rivals =
      (s.answerReads p (wr m off v :: s.made p rivals)
        (((s.count p 0x2C).applyWrite p m (off % 4096) v noEnv).noteDiscards p ((s.candidates p (wr m off v :: rivals)).erase (wr m off v))
          (s.refusedOf p (wr m off v :: rivals)))).coolDown := by
  have k : s.made p (wr m off v :: rivals) = wr m off v :: s.made p rivals := State.made_cons_write rivals rfl
  have w' : s.winner p (wr m off v :: s.made p rivals) = some (wr m off v) := by rw [← k, State.winner_made, hw]
  rw [State.write, State.settle, State.settleWith_of_made noEnv k, State.settleMade_of_takes noEnv h,
    State.arbitrate_of_winner noEnv w', ← k, State.candidates_made, State.refusedOf_made]
  simp [State.applyReq, wr, BitVec.toNat_ofNat]

/-- Without a lock read among the rivals nothing answers. -/
theorem State.arbitrate_granted_alone {s : State} {p : Page} {r : Req} (e : ImgEnv) (hr : r.isRead = false) (h : s.accepts p r = true) :
    s.arbitrate p [r] e = (s.applyReq p r e).noteDiscards p [] [] := by
  have c : s.candidates p [r] = [r] := by simp [State.candidates, hr, h]
  have f : s.refusedOf p [r] = [] := by simp [State.refusedOf, hr, h]
  have w : s.winner p [r] = some r := by simp [State.winner, c, topReq]
  rw [State.arbitrate_of_winner e w, State.answerReads_of_writes (by simp [hr]), c, f]
  simp

/-- With nothing discarded nothing is recorded but two counts that rise by 0. -/
theorem State.noteDiscards_nil (s : State) (p : Page) :
    s.noteDiscards p [] [] = (s.add .prec 0x60 31 0 0).add .prec 0x64 31 0 0 := by
  simp [State.noteDiscards, topReq]

/-! ## Frames -/

/-- A frame lists what may change: listing more keeps it. -/
theorem State.keeps_mono {s t : State} {l k : List Area} (h : s.keeps t l) (hk : ∀ a ∈ l, a ∈ k) : s.keeps t k :=
  fun a ha => h a (fun m => ha (hk a m))

/-- Nothing changes from a state to itself. -/
theorem State.keeps_refl (s : State) (l : List Area) : s.keeps s l := fun a _ => by cases a <;> rfl

/-- Frames compose. -/
theorem State.keeps_trans {s t u : State} {l : List Area} (h : s.keeps t l) (k : t.keeps u l) : s.keeps u l := by
  intro a ha
  have x := h a ha
  have y := k a ha
  cases a <;> exact y.trans x

/-- The same for the registers. -/
theorem State.keepsRegs_mono {s t : State} {l k : List (Page × Nat)} (h : s.keepsRegs t l) (hk : ∀ x ∈ l, x ∈ k) : s.keepsRegs t k :=
  fun q o ho => h q o (fun x m => ho x (hk x m))

theorem State.keepsRegs_refl (s : State) (l : List (Page × Nat)) : s.keepsRegs s l := fun _ _ _ => rfl

theorem State.keepsRegs_trans {s t u : State} {l : List (Page × Nat)} (h : s.keepsRegs t l) (k : t.keepsRegs u l) : s.keepsRegs u l :=
  fun q o ho => (k q o ho).trans (h q o ho)

/-- States with the same registers have the same frame. -/
theorem State.keepsRegs_of_eq {s t : State} (h : t.regs = s.regs) (l : List (Page × Nat)) : s.keepsRegs t l :=
  fun q o _ => State.reg_congr h q o

/-- Writing one register changes only it. -/
theorem State.keepsRegs_setReg (s : State) (p : Page) (off : Nat) (v : Word) : s.keepsRegs (s.setReg p off v) [(p, off)] :=
  fun q o h => State.reg_setReg_ne s p q off o v (h (p, off) (by simp))

/-- Writing a register changes no other part of the state. -/
theorem State.keeps_setReg (s : State) (p : Page) (off : Nat) (v : Word) : s.keeps (s.setReg p off v) [.regs] := by
  intro a ha
  cases a <;> first | rfl | exact absurd (by simp) ha

/-- Raising an event changes the page's event register and those of the log. -/
theorem State.keepsRegs_raise (s : State) (p : Page) (b : Nat) : s.keepsRegs (s.raise p b) (eventRegs p) := by
  intro q o h
  simp only [eventRegs, List.mem_cons, List.not_mem_nil, or_false, forall_eq_or_imp, forall_eq] at h
  exact State.reg_raise_ne s p b q o h.1 (by simp [logKeys, h.2.1, h.2.2])

/-- Raising an event changes registers, log, host link and what leaves the unit. -/
theorem State.keeps_raise (s : State) (p : Page) (b : Nat) : s.keeps (s.raise p b) [.regs, .log, .host, .out] := by
  intro a ha
  cases a <;> first | (simp only [Area.same]; simp; done) | exact absurd (by simp) ha

/-- Sending something changes what leaves the unit and the host link. -/
theorem State.keeps_emit (s : State) (o : Out) : s.keeps (s.emit o) [.host, .out] := by
  intro a ha
  cases a <;> first | rfl | exact absurd (by simp) ha

/-- Recording discards: the registers. -/
theorem State.keepsRegs_noteDiscards (s : State) (p : Page) (lost refused : List Req) :
    s.keepsRegs (s.noteDiscards p lost refused) (discardRegs p) := fun q o h => State.reg_noteDiscards s p lost refused q o h

/-- Recording discards: the other parts. -/
theorem State.keeps_noteDiscards (s : State) (p : Page) (lost refused : List Req) :
    s.keeps (s.noteDiscards p lost refused) [.regs, .log, .host, .out] := by
  intro a ha
  have f := State.quiet_fields (State.quiet_noteDiscards s p lost refused)
  cases a <;> first | (simp only [Area.same]; simp [f]; done) | exact absurd (by simp) ha

end Sys2Proof.Machine
end

