-- ==== Sys2Proof/Laws/Bits.lean ====
section
/-!
SUPPORT. Laws/Bits.lean: a field of a register word reads as it was written and leaves the bits outside it alone; bytes spell the
number they came from.
-/
namespace Sys2Proof.Machine

open Sys2Proof

/-! ## Fields -/

/-- A field is less than the power of two of its width. -/
theorem fld_lt (w : Word) (hi lo : Nat) : fld w hi lo < 2 ^ (hi + 1 - lo) := Nat.mod_lt _ (Nat.two_pow_pos _)

/-- The whole word as a field. -/
@[simp] theorem fld_all (w : Word) : fld w 31 0 = w.toNat := by
  have h := w.isLt
  simp only [fld, Nat.pow_zero, Nat.div_one]
  exact Nat.mod_eq_of_lt h

/-- A number as a register, read back. -/
theorem toNat_word (n : Nat) : (word n).toNat = n % 2 ^ 32 := BitVec.toNat_ofNat ..

/-- What writing a field leaves: the bits above, the value, the bits below. -/
theorem toNat_setFld (w : Word) {hi lo : Nat} (v : Nat) (h : hi < 32) (hl : lo ≤ hi) :
    (setFld w hi lo v).toNat =
      w.toNat / 2 ^ (hi + 1) * 2 ^ (hi + 1) + v % 2 ^ (hi + 1 - lo) * 2 ^ lo + w.toNat % 2 ^ lo := by
  have hp : (2 : Nat) ^ (hi + 1) = 2 ^ lo * 2 ^ (hi + 1 - lo) := by rw [← Nat.pow_add]; congr 1; omega
  have hw := w.isLt
  simp only [setFld, fld, BitVec.toNat_ofNat]
  generalize w.toNat = x at hw
  have e1 := Nat.div_add_mod x (2 ^ lo)
  have e2 := Nat.div_add_mod (x / 2 ^ lo) (2 ^ (hi + 1 - lo))
  have e3 : x / 2 ^ lo / 2 ^ (hi + 1 - lo) = x / 2 ^ (hi + 1) := by rw [Nat.div_div_eq_div_mul, ← hp]
  have vlt : v % 2 ^ (hi + 1 - lo) < 2 ^ (hi + 1 - lo) := Nat.mod_lt _ (Nat.two_pow_pos _)
  have llt : x % 2 ^ lo < 2 ^ lo := Nat.mod_lt _ (Nat.two_pow_pos _)
  have dec : x = x / 2 ^ (hi + 1) * 2 ^ (hi + 1) + x / 2 ^ lo % 2 ^ (hi + 1 - lo) * 2 ^ lo + x % 2 ^ lo := by
    have e4 : x / 2 ^ lo * 2 ^ lo = x / 2 ^ (hi + 1) * 2 ^ (hi + 1) + x / 2 ^ lo % 2 ^ (hi + 1 - lo) * 2 ^ lo := by
      rw [e3] at e2
      calc x / 2 ^ lo * 2 ^ lo = (2 ^ (hi + 1 - lo) * (x / 2 ^ (hi + 1)) + x / 2 ^ lo % 2 ^ (hi + 1 - lo)) * 2 ^ lo := by rw [e2]
        _ = x / 2 ^ (hi + 1) * 2 ^ (hi + 1) + x / 2 ^ lo % 2 ^ (hi + 1 - lo) * 2 ^ lo := by
          rw [Nat.add_mul, hp]
          congr 1
          rw [Nat.mul_comm (2 ^ (hi + 1 - lo)), Nat.mul_assoc, Nat.mul_comm (2 ^ (hi + 1 - lo))]
    rw [← e4, Nat.mul_comm (x / 2 ^ lo)]; exact e1.symm
  have mid : v % 2 ^ (hi + 1 - lo) * 2 ^ lo + 2 ^ lo ≤ 2 ^ (hi + 1) := by
    rw [hp, Nat.mul_comm (2 ^ lo), ← Nat.succ_mul]
    exact Nat.mul_le_mul_right _ vlt
  have top : x / 2 ^ (hi + 1) * 2 ^ (hi + 1) + 2 ^ (hi + 1) ≤ 2 ^ 32 := by
    have hq : (2 : Nat) ^ 32 = 2 ^ (hi + 1) * 2 ^ (32 - (hi + 1)) := by rw [← Nat.pow_add]; congr 1; omega
    have lt : x / 2 ^ (hi + 1) < 2 ^ (32 - (hi + 1)) := by
      apply Nat.div_lt_of_lt_mul; rw [← hq]; exact hw
    rw [← Nat.succ_mul, hq, Nat.mul_comm (2 ^ (hi + 1))]
    exact Nat.mul_le_mul_right _ lt
  generalize hA : x / 2 ^ (hi + 1) * 2 ^ (hi + 1) = A at dec top
  generalize hB : x / 2 ^ lo % 2 ^ (hi + 1 - lo) * 2 ^ lo = B at dec
  generalize hC : v % 2 ^ (hi + 1 - lo) * 2 ^ lo = C at mid
  rw [Nat.mod_eq_of_lt] <;> omega

/-- A field reads as it was written, modulo its width. -/
theorem fld_setFld_same (w : Word) {hi lo : Nat} (v : Nat) (h : hi < 32) (hl : lo ≤ hi) :
    fld (setFld w hi lo v) hi lo = v % 2 ^ (hi + 1 - lo) := by
  have hp : (2 : Nat) ^ (hi + 1) = 2 ^ lo * 2 ^ (hi + 1 - lo) := by rw [← Nat.pow_add]; congr 1; omega
  have llt : w.toNat % 2 ^ lo < 2 ^ lo := Nat.mod_lt _ (Nat.two_pow_pos _)
  rw [fld, toNat_setFld w v h hl, hp]
  have e : w.toNat / (2 ^ lo * 2 ^ (hi + 1 - lo)) * (2 ^ lo * 2 ^ (hi + 1 - lo)) + v % 2 ^ (hi + 1 - lo) * 2 ^ lo + w.toNat % 2 ^ lo =
      2 ^ lo * (w.toNat / (2 ^ lo * 2 ^ (hi + 1 - lo)) * 2 ^ (hi + 1 - lo) + v % 2 ^ (hi + 1 - lo)) + w.toNat % 2 ^ lo := by
    rw [Nat.mul_add, Nat.mul_comm (v % _), Nat.mul_left_comm]
  rw [e, Nat.mul_add_div (Nat.two_pow_pos _), Nat.div_eq_of_lt llt, Nat.add_zero, Nat.mul_comm (_ / _), Nat.mul_add_mod, Nat.mod_mod]

/-- A field that lies below a written one reads as before. -/
theorem fld_setFld_below (w : Word) {hi lo h2 l2 : Nat} (v : Nat) (h : hi < 32) (hl : lo ≤ hi) (hb : h2 < lo) (h12 : l2 ≤ h2) :
    fld (setFld w hi lo v) h2 l2 = fld w h2 l2 := by
  have hp : (2 : Nat) ^ (hi + 1) = 2 ^ lo * 2 ^ (hi + 1 - lo) := by rw [← Nat.pow_add]; congr 1; omega
  have q : (2 : Nat) ^ lo = 2 ^ l2 * (2 ^ (h2 + 1 - l2) * 2 ^ (lo - (h2 + 1))) := by
    rw [← Nat.pow_add, ← Nat.pow_add]; congr 1; omega
  rw [fld, fld, toNat_setFld w v h hl, hp]
  have e : w.toNat / (2 ^ lo * 2 ^ (hi + 1 - lo)) * (2 ^ lo * 2 ^ (hi + 1 - lo)) + v % 2 ^ (hi + 1 - lo) * 2 ^ lo + w.toNat % 2 ^ lo =
      2 ^ lo * (w.toNat / (2 ^ lo * 2 ^ (hi + 1 - lo)) * 2 ^ (hi + 1 - lo) + v % 2 ^ (hi + 1 - lo)) + w.toNat % 2 ^ lo := by
    rw [Nat.mul_add, Nat.mul_comm (v % _), Nat.mul_left_comm]
  rw [e]
  generalize w.toNat / (2 ^ lo * 2 ^ (hi + 1 - lo)) * 2 ^ (hi + 1 - lo) + v % 2 ^ (hi + 1 - lo) = a
  have hx := Nat.div_add_mod w.toNat (2 ^ lo)
  generalize w.toNat % 2 ^ lo = r at hx
  generalize w.toNat / 2 ^ lo = b at hx
  have f : ∀ c : Nat, (2 ^ lo * c + r) / 2 ^ l2 % 2 ^ (h2 + 1 - l2) = r / 2 ^ l2 % 2 ^ (h2 + 1 - l2) := by
    intro c
    rw [q, Nat.mul_assoc, Nat.mul_add_div (Nat.two_pow_pos _), Nat.mul_assoc, Nat.mul_add_mod]
  rw [f a, ← hx, f b]

/-- A field that lies above a written one reads as before. -/
theorem fld_setFld_above (w : Word) {hi lo h2 l2 : Nat} (v : Nat) (h : hi < 32) (hl : lo ≤ hi) (hb : hi < l2) :
    fld (setFld w hi lo v) h2 l2 = fld w h2 l2 := by
  have q : (2 : Nat) ^ l2 = 2 ^ (hi + 1) * 2 ^ (l2 - (hi + 1)) := by rw [← Nat.pow_add]; congr 1; omega
  have hp : (2 : Nat) ^ (hi + 1) = 2 ^ lo * 2 ^ (hi + 1 - lo) := by rw [← Nat.pow_add]; congr 1; omega
  have vlt : v % 2 ^ (hi + 1 - lo) < 2 ^ (hi + 1 - lo) := Nat.mod_lt _ (Nat.two_pow_pos _)
  have llt : w.toNat % 2 ^ lo < 2 ^ lo := Nat.mod_lt _ (Nat.two_pow_pos _)
  have mid : v % 2 ^ (hi + 1 - lo) * 2 ^ lo + 2 ^ lo ≤ 2 ^ (hi + 1) := by
    rw [hp, Nat.mul_comm (2 ^ lo), ← Nat.succ_mul]
    exact Nat.mul_le_mul_right _ vlt
  have e : (setFld w hi lo v).toNat / 2 ^ (hi + 1) = w.toNat / 2 ^ (hi + 1) := by
    rw [toNat_setFld w v h hl, Nat.add_assoc, Nat.mul_comm (w.toNat / _), Nat.mul_add_div (Nat.two_pow_pos _),
      Nat.div_eq_of_lt (a := v % 2 ^ (hi + 1 - lo) * 2 ^ lo + w.toNat % 2 ^ lo) (by omega), Nat.add_zero]
  simp only [fld]
  rw [q, ← Nat.div_div_eq_div_mul, ← Nat.div_div_eq_div_mul, e]

/-! ## Single bits -/

/-- A bit is its field of one. -/
theorem bitOn_eq_fld (w : Word) (i : Nat) : bitOn w i = decide (fld w i i = 1) := by
  have e : i + 1 - i = 1 := by omega
  simp only [bitOn, fld, BitVec.getLsbD, Nat.testBit_eq_decide_div_mod_eq, e, Nat.pow_one]

/-- A bit reads as it was written. -/
@[simp] theorem bitOn_putBit_same (w : Word) {i : Nat} (b : Bool) (h : i < 32) : bitOn (putBit w i b) i = b := by
  have e : i + 1 - i = 1 := by omega
  rw [bitOn_eq_fld, putBit, fld_setFld_same w _ h (Nat.le_refl _), e]
  cases b <;> rfl

/-- A bit outside a written field reads as before. -/
theorem bitOn_setFld_out (w : Word) {hi lo i : Nat} (v : Nat) (h : hi < 32) (hl : lo ≤ hi) (ho : i < lo ∨ hi < i) :
    bitOn (setFld w hi lo v) i = bitOn w i := by
  rw [bitOn_eq_fld, bitOn_eq_fld]
  cases ho with
  | inl a => rw [fld_setFld_below w v h hl a (Nat.le_refl _)]
  | inr a => rw [fld_setFld_above w v h hl a]

/-- Another bit reads as before. -/
theorem bitOn_putBit_ne (w : Word) {i j : Nat} (b : Bool) (h : i < 32) (hj : j ≠ i) : bitOn (putBit w i b) j = bitOn w j :=
  bitOn_setFld_out w _ h (Nat.le_refl _) (by omega)

/-- A field outside a written bit reads as before. -/
theorem fld_putBit_out (w : Word) {i hi lo : Nat} (b : Bool) (h : i < 32) (hl : lo ≤ hi) (ho : hi < i ∨ i < lo) :
    fld (putBit w i b) hi lo = fld w hi lo := by
  cases ho with
  | inl a => exact fld_setFld_below w _ h (Nat.le_refl _) a hl
  | inr a => exact fld_setFld_above w _ h (Nat.le_refl _) a

/-! ## Bytes -/

/-- Bytes spell the number they came from, modulo their width. -/
theorem leNat_leBytes (k n : Nat) : leNat (leBytes k n) = n % 256 ^ k := by
  induction k generalizing n with
  | zero => simp [leBytes, leNat, Nat.mod_one]
  | succ k ih =>
    rw [leBytes, leNat, ih, BitVec.toNat_ofNat, show (256 : Nat) ^ (k + 1) = 256 * 256 ^ k by rw [Nat.pow_succ, Nat.mul_comm], Nat.mod_mul]

@[simp] theorem leBytes_length (k n : Nat) : (leBytes k n).length = k := by
  induction k generalizing n with
  | zero => rfl
  | succ k ih => simp [leBytes, ih]

@[simp] theorem beBytes_length (k n : Nat) : (beBytes k n).length = k := by simp [beBytes]

/-- The first n bytes are n bytes. -/
@[simp] theorem firstBytes_length (n : Nat) (b : List Byte) : (firstBytes n b).length = n := by
  induction n generalizing b with
  | zero => rfl
  | succ n ih => simp [firstBytes, ih]

/-- A slice has the length asked for. -/
@[simp] theorem slice_length (b : List Byte) (i n : Nat) : (slice b i n).length = n := by
  simp only [slice, List.length_append, List.length_replicate, List.length_take]
  omega

/-- Replacing bytes inside a string keeps its length. -/
theorem splice_length (b new : List Byte) (i : Nat) (h : i + new.length ≤ b.length) : (splice b i new).length = b.length := by
  simp only [splice, List.length_append, slice_length, List.length_drop]
  omega

/-- Masking bytes keeps the length. -/
theorem keepBits_length (masks : List (Nat × Nat)) (b : List Byte) (h : ∀ m ∈ masks, m.1 < b.length) :
    (keepBits masks b).length = b.length := by
  induction masks generalizing b with
  | nil => rfl
  | cons m l ih =>
    have hm := splice_length b [BitVec.ofNat 8 (byteAt b m.1 &&& m.2)] m.1 (h m (List.mem_cons_self ..))
    have hl := ih (splice b m.1 [BitVec.ofNat 8 (byteAt b m.1 &&& m.2)]) (fun x hx => hm.symm ▸ h x (List.mem_cons_of_mem _ hx))
    exact hl.trans hm

/-- Clearing the reserved bits of a DEST keeps the length. -/
theorem keepDest_length (i : Nat) (b : List Byte) (h : i + 4 ≤ b.length) : (keepDest i b).length = b.length :=
  splice_length b _ i (by simpa using h)

end Sys2Proof.Machine
end

