-- ==== Sys2Proof/Laws/Entries.lean ====
section
/-!
SUPPORT. Laws/Entries.lean: an entry that some bytes bring has the size of its table's entries, whatever the bytes are.
-/
namespace Sys2Proof.Machine

open Sys2Proof

/-- The bytes with reserved bits lie inside the entry. -/
theorem entryMasks_lt (k : Nat) (f : Bool) : ∀ m ∈ entryMasks k f, m.1 < entrySize k := by
  match k with
  | 0 | 1 | 2 => cases f <;> decide
  | k + 3 => simp [entryMasks, entrySize]

/-- The DEST of a MAC, flow or tunnel entry lies inside it. -/
theorem destByte_le (k : Nat) (h : k < 3) : destByte k + 4 ≤ entrySize k := by
  match k, h with
  | 0, _ | 1, _ | 2, _ => decide

/-- The entry of a table k has the size of R232, R233, R234 or R268. -/
@[simp] theorem cleanEntry_length (k : Nat) (e : List Byte) : (cleanEntry k e).length = entrySize k := by
  have hb (f : Bool) : (keepBits (entryMasks k f) (slice e 0 (entrySize k))).length = entrySize k := by
    rw [keepBits_length _ _ (by simpa using entryMasks_lt k f), slice_length]
  unfold cleanEntry
  by_cases h : k < 3
  · simp only [h, if_true]
    rw [keepDest_length _ _ (by rw [hb]; exact destByte_le k h), hb]
  · simp only [h, if_false, hb]

end Sys2Proof.Machine
end

