-- ==== Sys2Proof/Tests/Slice0.lean ====
section
/-!
SUPPORT. Tests/Slice0.lean: for each statement with hypotheses, states and operands that meet them clause by clause; commands that are
not well-formed; and single steps against the worked examples of the manual.
-/
namespace Sys2Proof.Tests

open Sys2Proof Sys2Proof.Machine

set_option linter.unusedVariables false
set_option Elab.async false

/-! ## States that the tests start from -/

/-- The unit right after reset. -/
def R : State := State.reset
/-- Registers set to values. -/
def put (s : State) (l : List (Page × Nat × Word)) : State := { s with regs := l.foldl (fun m e => Sparse.put m (regKey e.1 e.2.1) e.2.2) s.regs }
def inputOn : InputSt := { present := true, good := true, lost := false, cut := false, dc := false }
def inputOff : InputSt := { present := false, good := false, lost := true, cut := false, dc := false }
def ac (v : Nat) : Measure := { dc := false, volt := v, freq := 5000, crossing := true, polarity := true }
def dcv (v : Nat) : Measure := { dc := true, volt := v, freq := 0, crossing := false, polarity := true }
def ready : IslSt := { IslSt.reset with ready := true }
/-- A unit that runs on two good inputs, every island ready. -/
def U : State :=
  { R with
    regs := [(regKey .isl 0x50, 0x40044), (regKey .clk 0x44, 0xFFFF), (regKey .pwr 0x44, 0x138808fc), (regKey .pwr 0x48, 0x138808fc), (regKey .pwr 0x80, 0x03840384), (regKey .pwr 0x84, 0x03840384), (regKey .pwr 0x88, 3), (regKey (.saf 1) 0x2C, 1)]
    pwr := { R.pwr with a := inputOn, b := inputOn, started := true }
    isl := (List.range 18).map (fun i => (i, ready))
    clk := { R.clk with levels := List.replicate 10 4, assist := false }
    saf := { R.saf with cause := 3, started := true }
    host := { R.host with ready := true } }
/-- The same with the host link up. -/
def L : State := { U with regs := [(regKey .hlnk 0x40, 0x10105), (regKey .isl 0x50, 0x40044), (regKey .clk 0x44, 0xFFFF), (regKey .pwr 0x44, 0x138808fc), (regKey .pwr 0x48, 0x138808fc), (regKey .pwr 0x80, 0x03840384), (regKey .pwr 0x84, 0x03840384), (regKey .pwr 0x88, 3), (regKey (.saf 1) 0x2C, 1)], host := { U.host with perst := false, link := .l0, lastGen := 5, lastW := 16 } }
def withPwr (s : State) (f : PwrSt → PwrSt) : State := { s with pwr := f s.pwr }
def withLog (s : State) (f : LogSt → LogSt) : State := { s with log := f s.log }
/-- A charged store. -/
def charged : State := put U [(.pwr, 0x4C, 0x80030000), (.pwr, 0x54, 7692)]
/-- The same after mains loss. -/
def lossy : State := withPwr charged (fun p => { p with a := inputOff, b := inputOff })
def shed (n : Nat) : State := { lossy with pwr := { lossy.pwr with shed := n } }
def rec1 : LogRec := { seq := 0, time := 5, type := 1, code := 3, page := 7, d0 := 1, d1 := 2, d2 := 3 }
def withHost (s : State) (f : HostSt → HostSt) : State := { s with host := f s.host }
def withFunc (s : State) (k : Nat) (f : Func → Func) : State := s.setFunc k (f (s.func k))
/-- The same with two VFs and MSI-X. -/
def V : State := withFunc L 0 (fun x => { x with cfg := { x.cfg with vfEnable := true, numVFs := 2, ltrEnable := true, aspmL1 := true, l12 := true, msixEnable := true } })
/-- A work queue. -/
def wq0 : WqSt := { base := 0x10000, size := 16, kind := 0, v1 := false, spec := false, cq := 0, poll := 8, fetch := 0, lap := true, tail := 0, pend := false, idle := false, empty := 0, reading := none, noisy := false, aborting := false, items := [] }
/-- A completion queue. -/
def cq0 : CqSt := { base := 0x20000, size := 16, vector := 0, prod := 0, lap := true, head := 0, armed := false }
/-- A transmit item. -/
def item0 : Item := { idx := 0, kind := 1, opcode := 0, eop := true, cb := true, fence := false, tag := 7, addr := 0x40000, len := 64, tc := 0, flags := 0, vlan := 0, tun := 0, sa := 0, extra := [], busy := false, part := 0, fin := none, result := 0, eng := 0, sent := false, rxf := 0 }
/-- Work queue 0 of PF0 with one transmit item, and its completion queue. -/
def Q : State := (V.setWq 0 0 (some { wq0 with tail := 1, fetch := 1, items := [item0] })).setCq 0 0 (some cq0)
def pmeOn (s : State) : State := { (put s [(.hlnk, 0x4C, 0x70F)]) with host := { s.host with pme := List.replicate 4 { enable := true, status := false, sent := false } } }
def eth (src : Byte) (ty : List Byte) (n : Nat) : List Byte := [0x02, 0, 0, 0, 0, 9] ++ [0x02, 0, 0, 0, 0, src] ++ ty ++ List.replicate n 0x11
/-- A frame of one cell in an ingress. -/
def frame0 : Frame := { id := 1, part := .chan 0, cells := 1, nonets := stitched (eth 5 [0x08, 0x00] 50) [], func := false, src := 0, wq := 0, last := 0, dclass := 0, tc := 0, pcp := 0, ns := 0, sec := 0, tag := 0, txf := 0, tun := 0, sa := 0, room := 0, gate := none, dest := 0, flags := 0, seq := none, group := 1, bad := false, esp := false, loc := .ingress 0 }
def withFrames (s : State) (l : List Frame) (held : List (Nat × Nat)) : State := { s with frames := l, nextId := 10, ham := { s.ham with held := held } }
def queue (s : State) (w : WqSt) : State := s.setWq 0 0 (some w)
/-- The same with the four data ports up. -/
def P : State := { V with regs := [(regKey .hlnk 0x40, 0x10105), (regKey (.port 0) 0x40, 1), (regKey (.port 0) 0x48, 0xC), (regKey (.port 1) 0x40, 1), (regKey (.port 1) 0x48, 0xC), (regKey (.port 2) 0x40, 4), (regKey (.port 2) 0x48, 0xC), (regKey (.port 3) 0x40, 4), (regKey (.port 3) 0x48, 0xC), (regKey .isl 0x50, 0x40044), (regKey .clk 0x44, 0xFFFF), (regKey .pwr 0x44, 0x138808fc), (regKey .pwr 0x48, 0x138808fc), (regKey .pwr 0x80, 0x03840384), (regKey .pwr 0x84, 0x03840384), (regKey .pwr 0x88, 3), (regKey .mgt 0x100, 1), (regKey .mgt 0x104, 1), (regKey .mgt 0x108, 1), (regKey .mgt 0x10c, 1), (regKey (.saf 1) 0x2C, 1)] }
def withPort (s : State) (p : Nat) (f : PortSt → PortSt) : State := s.setPort p (f (s.port p))
def withGate (s : State) (p : Nat) (f : GateSt → GateSt) : State := s.setGate p (f (s.gate p))
def withRing (s : State) (f : RingSt → RingSt) : State := { s with ring := f s.ring }
def ringMac0 : State := put P [(.ring, 0x40, 1), (.ring, 0x44, 0x7), (.ring, 0x48, 0x200)]
def hsrFr (dst src : Byte) : List Byte := [0x02, 0, 0, 0, 0, dst, 0x02, 0, 0, 0, 0, src, 0x89, 0x2F, 0, 54, 0, 5, 8, 0] ++ List.replicate 50 0x22
def prpFr (lan : Byte) : List Byte := [0x02, 0, 0, 0, 0, 9, 0x02, 0, 0, 0, 0, 5, 8, 0] ++ List.replicate 60 0x22 ++ [0, 5, lan, 60, 0x88, 0xFB]
def at_ (l : Loc) (k : Part) : Frame := { frame0 with loc := l, part := k }
def ringF (dst src : Byte) : Frame := { frame0 with loc := .ringIn 0, part := .ring, nonets := stitched (hsrFr dst src) [] }
def ringS (dst src : Byte) : State := { ringMac0 with frames := [ringF dst src], nextId := 10, ham := { ringMac0.ham with ring := 1 } }
def prpF (lan : Byte) : Frame := { frame0 with loc := .prpIn 2, part := .chan 4, nonets := stitched (prpFr lan) [] }
def prpS (lan : Byte) : State := withFrames P [prpF lan] [(4, 1)]
def egF : Frame := at_ (.egress 2) (.chan 5)
def egS (s : State) (x : Frame) : State := withFrames s [x] [(5, 1)]
def shut : PegList := { base := 0, cycle := 1000, len := 2, pegs := [(0, 0x000001FF), (1, 0x0003E600)] }
def withTbl (s : State) (f : TblSt → TblSt) : State := { s with tbl := f s.tbl }
def macE (src : Nat) (vid : Nat) (dest : Nat) (fl age : Byte) : List Byte := beBytes 6 src ++ leBytes 2 vid ++ leBytes 4 dest ++ [0, 0, fl, age]
def flowE (ty : Byte) (fl age : Byte) : List Byte := [ty, 17] ++ List.replicate 40 7 ++ [0, 0] ++ leBytes 4 0x20000001 ++ List.replicate 8 0 ++ [fl, age] ++ List.replicate 6 0
def saE (ty fl : Byte) : List Byte := [ty, fl, 0x10, 0, 1, 2, 3, 4, 5, 6, 7, 8] ++ List.replicate 52 0
def stage (s : State) (e : List Byte) : State := (List.range 16).foldl (fun t w => t.setReg .tbl (0x80 + 4 * w) (word (leAt e (4 * w) 4))) s
def wayOf (k : Nat) (e : List Byte) (w : Nat) : Nat := bucketOf k e * 8 + w
def mac1 : List Byte := macE 0x020000000005 1 0x20000001 5 9
def flow1 : List Byte := flowE 1 5 9
/-- The same with tables of 30 s ageing. -/
def T : State := put P [(.swt, 0x44, 30), (.swt, 0x60, 2), (.swt, 0x64, 2), (.swt, 0x68, 2), (.swt, 0x6C, 2)]
def withMac (s : State) (l : List (Nat × List Byte)) : State := withTbl s (fun t => { t with mac := l })
def bucketFull : State := withMac T ((List.range 8).map (fun w => (wayOf 0 mac1 w, macE (0x100 + w) 1 5 5 9)))
def locked (k : Nat) (m : Master) (s : State) : State := withTbl s (fun t => { t with lock := (List.range 4).map (fun j => if j = k then some m else none) })
def dma1 : TblDma := { table := 0, toTbl := true, merge := false, first := wayOf 0 mac1 2, count := 1, addr := 0x1000, m := .pf0 }
def withDma (s : State) (d : TblDma) : State := withTbl s (fun t => { t with dma := some d })
def stageEnc (s : State) (e : List Byte) : State := (List.range 32).foldl (fun t w => t.setReg .tun (0x80 + 4 * w) (word (leAt e (4 * w) 4))) s
def enc1 : List Byte := [1, 4] ++ leBytes 2 4789 ++ [7, 0, 0, 0] ++ List.replicate 16 1 ++ List.replicate 16 2 ++ List.replicate 12 3 ++ [0, 0, 64, 0] ++ leBytes 4 0x20000001 ++ [0, 0x80, 0, 0] ++ List.replicate 64 0
def tunPkt (port : Nat) (a b c : Byte) : List Byte :=
  [0x02, 0, 0, 0, 0, 9, 0x02, 0, 0, 0, 0, 6, 8, 0] ++ [0x45, 0, 0, 92, 0, 0, 0, 0, 64, 17, 0, 0, 10, 0, 0, 1, 10, 0, 0, 2] ++ beBytes 2 5000 ++ beBytes 2 port ++
  [0, 72, 0, 0] ++ [a, b, if port = 6081 then 0x65 else 0, if port = 6081 then 0x58 else 0, 0, 0, 7, 0] ++ eth 5 [8, 0] 50
def tunF (ops port : Nat) (a : Byte) : Frame := { frame0 with loc := .engine 0 0 ops true, nonets := stitched (tunPkt port a 0 0) [] }
def tunS (ops port : Nat) (a : Byte) : State := withFrames T [tunF ops port a] [(0, 1)]
def saX (ty fl b2 : Byte) (a4 : List Byte) (addr : List Byte) (replay : Nat) (bind : Nat) (pn : Nat) (st : Byte) : List Byte :=
  [ty, fl, b2, 0] ++ a4 ++ addr ++ List.replicate 20 0 ++ leBytes 2 replay ++ leBytes 2 bind ++ leBytes 8 pn ++ [st, 64, 0, 0]
def keyed : KeySlot := { key := List.replicate 8 7, salt := List.replicate 3 1, k256 := true, loaded := true, wiping := false }
def withSa (s : State) (i : Nat) (e : List Byte) : State :=
  { s with tbl := { s.tbl with sa := [(i, e)] }, cry := { s.cry with slots := [(i, keyed)] } }
def secFr : List Byte := [0x02, 0, 0, 0, 0, 9, 0x02, 0, 0, 0, 0, 5, 0x88, 0xE5, 0x21, 0, 0, 0, 0, 9] ++ [1, 2, 3, 4, 5, 6, 7, 8] ++ List.replicate 60 3
def msF : Frame := { frame0 with loc := .macsec 2, part := .chan 4, nonets := stitched secFr [] }
def msSa (rep pn : Nat) : List Byte := saX 2 1 0x12 [1, 2, 3, 4, 5, 6, 7, 8] (List.replicate 16 0) rep 0 pn 0
def msS (rep pn : Nat) : State := withSa (withFrames P [msF] [(4, 1)]) 17 (msSa rep pn)
def espFr : List Byte := [0x02, 0, 0, 0, 0, 9, 0x02, 0, 0, 0, 0, 6, 8, 0] ++ [0x45, 0, 0, 92, 0, 0, 0, 0, 64, 50, 0, 0, 10, 0, 0, 1, 10, 0, 0, 2] ++ [9, 9, 9, 9, 0, 0, 0, 7] ++ List.replicate 64 5
def espF (l : Loc) (c : Nat) : Frame := { frame0 with loc := l, part := .chan c, nonets := stitched espFr [], sa := 17 }
def espSA (bind : Nat) : List Byte := saX 4 9 0 [9, 9, 9, 9, 0, 0, 0, 0] ([10, 0, 0, 2] ++ List.replicate 12 0) 0 bind 1 0
def espS (l : Loc) (c bind : Nat) : State := withSa (withFrames Q [espF l c] [(c, 1)]) 17 (espSA bind)
def espPlain : List Byte := [0x45, 0, 0, 40] ++ List.replicate 36 1 ++ [0, 0, 0, 4]
def okOf (r : State × Except FrameEnd Frame) : Frame := match r.2 with | .ok z => z | .error _ => frame0
def errOf (r : State × Except FrameEnd Frame) : FrameEnd := match r.2 with | .ok _ => .sent | .error e => e
def cryItem (i role len : Nat) (last : Bool) (op : Nat) : Item := { item0 with idx := i, kind := 8, opcode := op, eop := last, len := len, addr := 0x40000 + 0x1000 * i, extra := [17, 0, BitVec.ofNat 8 role, 0, 0, 0, 0, 0] }
def cryRun (op p : Nat) : List Item := ([cryItem 0 0 12 false op, cryItem 1 1 20 false op, cryItem 2 2 64 false op, cryItem 3 3 64 false op, cryItem 4 4 16 true op]).map (fun i => { i with part := p })
def cryWq (op p : Nat) : WqSt := { wq0 with kind := 2, tail := 5, fetch := 5, items := cryRun op p }
def cryLast (op p : Nat) : Item := { cryItem 4 4 16 true op with part := p }
def cryB : Burst := { id := 1, chan := 256, cells := 1, cls := 0, f := 0, q := 0, idx := 4, aged := false, bufs := [], op := none }
def cryS (op p bind : Nat) (l : List Burst) : State := withSa { (queue Q (cryWq op p)) with ham := { Q.ham with held := [(256, 1)], granted := l } } 17 (saX 5 1 0 (List.replicate 8 0) (List.replicate 16 0) 0 bind 1 0)
def ctx1 (st : Byte) (fl : Byte) (bind : Nat) (neg : Byte) (mx : Nat) : List Byte :=
  [st, fl] ++ leBytes 2 bind ++ leBytes 2 4420 ++ leBytes 2 4420 ++ List.replicate 16 1 ++ List.replicate 16 2 ++ List.replicate 16 3 ++ leBytes 4 0x20000001 ++
  leBytes 2 1460 ++ leBytes 2 32 ++ leBytes 2 100 ++ leBytes 2 30 ++ leBytes 2 30 ++ [5, 0] ++ leBytes 4 mx ++ [0, neg, 0, 0] ++ List.replicate 48 0
def withConn (s : State) (l : List (Nat × List Byte)) : State := { s with sto := { s.sto with ctx := l } }
def withSto (s : State) (f : StoSt → StoSt) : State := { s with sto := f s.sto }
def stageConn (s : State) (e : List Byte) : State := (List.range 32).foldl (fun t w => t.setReg .sto (0x80 + 4 * w) (word (leAt e (4 * w) 4))) s
def op1 (dir : Nat) : StoOp := { id := 3, conn := 7, f := 0, q := 0, last := 1, dir := dir, total := 100, resp := 0x9000, bufs := [(0x50000, 60), (0x60000, 40)], cid := 77, bytes := 0, digest := false, work := [] }
def stoRun (dir : Nat) : List Item := [{ item0 with idx := 0, kind := 12, eop := false, len := 64, extra := [7, 0, BitVec.ofNat 8 dir, 0, 0, 0x90, 0, 0, 0, 0, 0, 0] }, { item0 with idx := 1, kind := 13, eop := true, len := 1000, addr := 0x50000 }]
def stoWq (dir : Nat) : WqSt := { wq0 with kind := 3, tail := 2, fetch := 2, items := stoRun dir }
/-- Storage connections 7 and 9. -/
def C (st : Byte) : State := withSto (queue Q (stoWq 1)) (fun x => { x with ctx := [(7, ctx1 st 13 0x8000 2 4096), (9, ctx1 3 1 0x8000 0 4096)] })
def withOps (s : State) (l : List StoOp) : State := withSto s (fun x => { x with ops := l })
def thr (s : State) (c k : Nat) (f : Thread → Thread) : State := s.setThread c k (f (s.thread c k))
def clu (s : State) (c : Nat) (f : Cluster → Cluster) : State := s.setCluster c (f (s.cluster c))
def run0 (t : Thread) : Thread := { t with st := .runnable, code := 0x01000000, data := 0x04000040, entry := 5, pc := 7 }
/-- Thread 18 of cluster 2 runnable. -/
def N : State := thr (put T [(.nyc 2, 0x48, 0x7F), (.nyc 2, 0x90, 0x12), (.nyc 2, 0x4C, 1000)]) 2 18 run0
def dspF : Frame := { frame0 with loc := .dispatch 2 3, part := .chan 13 }
def dspS (s : State) : State := withFrames s [dspF] [(13, 1)]
def taker (pk : Nat) (t : Thread) : Thread := { t with st := .parked, park := pk, bind := 0x1FF, rd := 4, slot := 1 }
def bF (b : List Byte) : Frame := { dspF with src := 2, nonets := stitched b [] }
def bX (txf : Nat) : Frame := { dspF with func := true, src := 0, txf := txf, tun := 5 }
def bS (s : State) (x : Frame) : State := thr (withFrames (put s [(.swt, 0x68, 0x10)]) [x] [(13, 1)]) 2 18 (fun t => { t with bind := 0 })
def bG (x : Frame) : Frame := Frame.untagHsr { x with gate := some x.gateKey, dclass := 3 }
def ipB (dst : Byte) (port : Byte) : List Byte := eth 5 [8, 0] 0 ++ [0x45, 0, 0, 54, 0, 0, 0, 0, 64, 17, 0, 0, 10, 0, 0, 1, dst, dst, dst, dst, 0x12, 0x34, 0x12, port, 0, 34, 0, 0, 8, 0, 0, 0, 0, 0, 9, 0] ++ List.replicate 18 0
def tun9 : List Byte := [1, 4, 0xB5, 0x12, 9, 0, 0, 0, 3, 3, 3, 3] ++ List.replicate 12 0 ++ [1, 0, 0, 0x20, 0, 0, 1, 0]
def flow9 (acts : Byte) : List Byte := [1, 17, 0, 0, 2, 0, 0x34, 0x12, 0xB5, 0x12, 10, 0, 0, 1] ++ List.replicate 12 0 ++ [3, 3, 3, 3] ++ List.replicate 12 0 ++ [0, 0] ++ leBytes 4 0x20000003 ++ [acts, 0, 5, 0, 17, 0, 0, 0, 1, 9, 77, 0, 255, 255, 255, 255]
def bFlow (acts : Byte) : State := bS (withTbl { N with tun := { enc := [(5, enc1)] } } (fun t => { t with flow := [(wayOf 1 (flow9 acts) 3, flow9 acts)] })) (bF (ipB 3 0xB5))
def mac9 (vid : Nat) : List Byte := macE 0x020000000009 vid 0x20000003 1 9
def bMac (x : Frame) : State := bS (withMac { N with tun := { enc := [(5, enc1)] } } [(wayOf 0 (mac9 0) 3, mac9 0)]) x
def prog : List Byte := [0x4E, 0x59, 0x50, 0x47, 1, 0, 0, 0, 2, 0, 0, 0, 1, 0, 0, 0] ++ List.replicate 48 0 ++ [1, 2, 3, 4, 5, 0, 0, 0, 9, 8, 7, 6, 5, 0, 0, 0, 3, 2, 1, 0]
def engF (ops c : Nat) : Frame := { frame0 with loc := .engine 2 18 ops false, part := .chan c, nonets := stitched espFr [], sa := 17, tun := 5, dest := 0x20000002 }
def engS (ops c : Nat) : State := thr (withFrames (withSa { N with tun := { enc := [(5, enc1)] } } 17 (saX 3 9 0 [9, 9, 9, 9, 0, 0, 0, 0] ([10, 0, 0, 2] ++ List.replicate 12 0) 0 0 7 0)) [engF ops c] [(c, 1)]) 2 18 (fun t => { t with st := .parked, park := 4, slot := 1, slots := [none, some 1, none, none] })
def blockOf (s : State) (c core a : Nat) (e : List Byte) : State := s.writeBlock c core a (some e) 0
/-- The same with two operands and a status word. -/
def A (a b : NWord) (sw : NWord) : State := thr N 2 18 (fun t => { t with sw := sw, regs := [1, 2, 3, 4, 5, a, b, 8, 9, 10, 11, 12, 13, 14, 15, 16] })
def heldF : Frame := { frame0 with loc := .held 2 18 1, part := .chan 13, nonets := (List.range 64).map (fun i => BitVec.ofNat 9 (i * 5 + 3)), room := 100 }
/-- The same holding a frame in slot 1. -/
def W (a b : NWord) : State := thr (withFrames (A a b 5) [heldF] [(13, 1)]) 2 18 (fun t => { t with slots := [none, some 1, none, none] })
def badF : Frame := { heldF with bad := true }
/-- The same with a bad frame. -/
def WB (a b : NWord) : State := thr (withFrames (A a b 5) [badF] [(13, 1)]) 2 18 (fun t => { t with slots := [none, some 1, none, none] })
def plainF : Frame := { heldF with nonets := (List.range 64).map (fun i => BitVec.ofNat 9 (i * 3 + 3)) }
/-- The same with a frame that is not stitched. -/
def WP (a b : NWord) : State := thr (withFrames (A a b 5) [plainF] [(13, 1)]) 2 18 (fun t => { t with slots := [none, some 1, none, none] })
def bind1 (s : State) : State := thr s 2 18 (fun t => { t with bind := 0x80001C01 })
def dspS2 (s : State) : State := withFrames s [{ dspF with gate := some 0 }] [(13, 1)]
def isle (s : State) (i : Island) (f : IslSt → IslSt) : State := s.setIsland i (f (s.island i))
def slept (i : Island) : State := isle P i (fun x => { x with mode := .retain })
def withClk (s : State) (f : ClkSt → ClkSt) : State := { s with clk := f s.clk }
def chg (l : List LvlStep) : LvlChange := { todo := l, done := [], was0 := 0x44444444, was1 := 0x00040044, at0 := 0, at1 := 0, levelsWas := List.replicate 10 4, assistWas := false }
def changing (s : State) (l : List LvlStep) : State := withClk s (fun c => { c with change := some (chg l) })
def heldReq (r : Req) (p : Page) : State := { (isle P p.island (fun x => { x with noClock := true })) with held := [{ page := p, reqs := [r] }, { page := .unit, reqs := [r] }] }
def withBoot (s : State) (f : BootSt → BootSt) : State := { s with boot := f s.boot }
def other (s : State) (x : ImgSet) : State := withBoot s (fun b => b.putOther x)
def comp (k v : Nat) : List Byte := [0x4B, 0x42, 0x49, 0x4D, BitVec.ofNat 8 k, 0] ++ leBytes 2 v ++ [0, 0, 0, 0]
def imgOf (st v : Nat) : ImgSet := { st := st, ver := 0, sigOk := false, data := [1, 2, 3, 4].flatMap (fun k =>
  (List.range 12).map (fun i => (160 * (k - 1) + i, (comp k v).getD i 0))) }
def keyPkg : List Byte := [0x4B, 0x42, 0x4B, 0x59, 1, 0, 97, 0, 0, 0, 0, 0] ++ List.replicate 52 0 ++ [4] ++ List.replicate 96 7
/-- Sensor readings. -/
def SE : State := put P [(.mgt, 0x90, 0x03840320), (.mgt, 0xE8, 100)]
def ses0 (op : Bool) : KrdsSession := { id := 3, operate := op, peer := 5, served := 2, past := [(8, 0, [1, 2])] }
def withKrds (s : State) (op : Bool) : State := { s with krds := [ses0 op] }
/-- A charged unit with a KRDS session. -/
def K (op : Bool) : State := withKrds charged op
/-- A KRDS session. -/
def KP (op : Bool) : State := withKrds P op
/-- A console session that may write. -/
def Y : State := { (put P [(.yem, 0x40, 1)]) with console := { P.console with open_ := true } }
theorem Y_serves : Y.serves := by unfold State.serves; decide +kernel
/-- Recovery mode with a transfer going on. -/
def REC : State := withBoot { charged with console := { charged.console with loading := true, rloadB := true, block := 5, fill := 100 } } (fun b => { b with recovery := true, setB := imgOf 1 4 })
def twpS (ptr : Nat) (f : Option (Nat × Word)) : State := { (put P [(.twp, 0x40, 0x48), (.twp, 0x44, 0x80000000 + Page.unit.base / 4096)]) with twp := { P.twp with deaf := false, fetch := f, ptr := ptr } }
/-- A page locked by a master. -/
def lk (s : State) (p : Page) (m : Master) : State := { s with locks := Sparse.put s.locks p.code m }
def blkHead (cyc : Nat) : List Byte := [0x4B, 0x50, 0x54, 0x50, 0, 1, 0, 0] ++ beBytes 4 0x01020304 ++ beBytes 2 100 ++ beBytes 2 0x88B5 ++ [0x03, 0, 0, 0, 0, 1] ++ [3, 0] ++ beBytes 2 cyc ++ [3, 0, 0, 0, 0, 0] ++
  beBytes 4 0x0A0B0C0D ++ beBytes 2 20 ++ [31, 0] ++ beBytes 4 0x0A0B0C0E ++ beBytes 2 0 ++ [0x11, 0]
def blk0 (cyc : Nat) : List Byte := blkHead cyc ++ List.replicate 1996 0
/-- A parameter block of 2,048 bytes with its CRC. -/
def blk (cyc : Nat) : List Byte := blk0 cyc ++ beBytes 4 2584302584
/-- The safety CRC over n bytes of 0. -/
def crcZeros : Nat → Nat → Nat
  | 0, c => c
  | n + 1, c => if c = 0 then crcZeros n 0 else crcZeros n (safCrcByte 8 c)
theorem crcZeros_eq (n c : Nat) :
    (List.replicate n (0 : Byte)).foldl (fun c x => safCrcByte 8 (c ^^^ (x.toNat * 2 ^ 24))) c = crcZeros n c := by
  induction n generalizing c with
  | zero => rfl
  | succ n ih =>
    rw [List.replicate_succ, List.foldl_cons, ih]
    by_cases h : c = 0
    · have z : safCrcByte 8 0 = 0 := by decide
      simp [crcZeros, h, z]
    · simp [crcZeros, h]
theorem safCrc_pad (l : List Byte) (n c : Nat)
    (h : crcZeros n (l.foldl (fun c x => safCrcByte 8 (c ^^^ (x.toNat * 2 ^ 24))) 0xFFFFFFFF) ^^^ 0xFFFFFFFF = c) :
    safCrc (l ++ List.replicate n 0) = c := by
  rw [← h, safCrc, List.foldl_append, crcZeros_eq]
theorem blk_crc : safCrc (blk0 6) = 2584302584 := safCrc_pad (blkHead 6) 1996 2584302584 (by decide +kernel)
theorem blk_ok : blockFault (blk 6) = 0 := by
  have h : (blk 6).take 2044 = blk0 6 := List.take_left' (by decide +kernel)
  unfold blockFault
  rw [if_neg (by decide +kernel), h, blk_crc, if_neg (by decide +kernel), if_pos (by decide +kernel)]
def withSaf (s : State) (f : SafSt → SafSt) : State := { s with saf := f s.saf }
def peer0 : PeerSt := { last := 7, any := true, expired := false, stop := false, run := 3, ms := 4 }
/-- A commissioned safety partition with SAFE_OUT energised. -/
def SF : State := withSaf P (fun x => { x with started := true, block := blk 5, cause := 0, high := true, low := true, peers := peer0 :: List.replicate 7 PeerSt.reset, doneSeq := 4, key1 := [1], key2 := [2], rstIn := true })
/-- The same with causes set. -/
def sfc (c : BitVec 12) : State := withSaf SF (fun x => { x with cause := c, high := false, low := false })
/-- A telegram from the first peer. -/
def tl (cmd seq : Nat) : List Byte := telegram 0x01020304 0x0A0B0C0D seq cmd 20 [1, 2] 0
def kptF (tel : List Byte) : Frame := { frame0 with loc := .safIn, part := .safety, nonets := stitched ([0x03, 0, 0, 0, 0, 1, 0x02, 0, 0, 0, 0, 5, 0x81, 0, 0xE0, 100, 0x88, 0xB5] ++ tel) [] }
def kptS (tel : List Byte) : State := { SF with frames := [kptF tel], nextId := 10, ham := { SF.ham with saf := 1 } }
def slot0 : KeySlot := { key := [1, 2, 3, 4, 5, 6, 7, 8], salt := [9], k256 := true, loaded := true, wiping := false }
def withMet (s : State) (f : MeterSt → MeterSt) : State := { s with meter := f s.meter }
def mr (n ty code : Nat) : MetRec := { recno := n, type := ty, flags := 0, period := 15, fw := 3, time := 5, id := 9, regs := [1, 2, 3, 4, 5, 6], count := 0, vmin := 2300, code := code, old := 0, new := 0, sig := [] }
/-- A meter that measures. -/
def ME : State := withMet P (fun x => { x with supplied := true, measuring := true, id := 9, fw := 3, time := 900000 * 97 + 5000, mark := 96, dayMark := 0, regs := [3600, 7200, 10800, 4, 5, 6], started := 900000 * 96, recno := 4, slot := 3, mono := 100, answered := true, log := [mr 1 4 2], interval := [mr 2 1 0], daily := [mr 3 2 0], ring := [mr 3 2 0], placed := 3, pubkey := [4, 1, 2] })
/-- A meter with a command pending. -/
def metAsk (op : Nat) (l : List (Page × Nat × Word)) : State := put (withMet ME (fun x => { x with op := op })) ([(.mbxMet, 0x4C, 0x77000003)] ++ l)
def ptpIs (s : State) (ns st : Nat) : State := put { s with ptp := { s.ptp with time := ns } } [(.ptp, 0x44, word st)]
def fullLog (n : Nat) (s : State) : State := withMet s (fun x => { x with log := List.replicate n (mr 1 4 2) })
/-- An answer that is good, as a pair. -/
theorem ok_of (r : State × Except FrameEnd Frame) (h : r.2.isOk = true) : r = (r.1, .ok (okOf r)) := by
  obtain ⟨a, b⟩ := r
  cases b
  · simp [Except.isOk, Except.toBool] at h
  · rfl
/-- An answer that is an error, as a pair. -/
theorem err_of (r : State × Except FrameEnd Frame) (h : r.2.isOk = false) : r = (r.1, .error (errOf r)) := by
  obtain ⟨a, b⟩ := r
  cases b
  · rfl
  · simp [Except.isOk, Except.toBool] at h
def longRun : List Item := ([cryItem 0 0 12 false 1, cryItem 1 1 1000 false 1, cryItem 2 2 16000 false 1, cryItem 3 3 16000 false 1, cryItem 4 4 16 true 1]).map (fun i => { i with part := 1 })
def longWq : WqSt := { wq0 with kind := 2, tail := 5, fetch := 5, items := longRun }
def longS : State := withSa { (queue Q longWq) with ham := { Q.ham with held := [(256, 1)], granted := [cryB] } } 17 (saX 5 1 0 (List.replicate 8 0) (List.replicate 16 0) 0 0x8000 1 0)
def unread (s : State) (b : Nat) : State := withHost s (fun h => { h with nextRead := 5, reads := [{ id := 4, f := 0, use := .burst b, want := [], out := 1, failed := false }] })
def msSx : State := { msS 0 1 with cry := { (msS 0 1).cry with slots := [] } }
def msF' : Frame := { msF with old := some (msSa 0 1), sa := 17 }
def msS' : State := withSa (withFrames P [msF'] [(4, 1)]) 17 (msSa 0 1)
def fragFr : List Byte := [0x02, 0, 0, 0, 0, 9, 0x02, 0, 0, 0, 0, 6, 8, 0] ++ [0x45, 0, 0, 92, 0, 0, 0x20, 0, 64, 50, 0, 0, 10, 0, 0, 1, 10, 0, 0, 2] ++ [9, 9, 9, 9, 0, 0, 0, 7] ++ List.replicate 64 5
def fragF : Frame := { espF (.engine 1 2 8 true) 8 with nonets := stitched fragFr [] }
def fragS : State := withSa (withFrames Q [fragF] [(8, 1)]) 17 (espSA 0x8000)
def rd (id f : Nat) (u : ReadFor) (want : List (Nat × Nat)) (out : Nat) : HostRead := { id := id, f := f, use := u, want := want, out := out, failed := false }
def withReads (s : State) (l : List HostRead) : State := withHost s (fun h => { h with nextRead := 20, reads := l })
def msixS (s : State) (f v : Nat) (pend : List Nat) : State := withHost s (fun h => { h with pba := pend.map (fun k => 2048 * f + k), msix := [(2048 * f + v, { addrLo := 4, addrHi := 5, data := 6, masked := true })] })
def granted (s : State) (l : List Burst) : State := { s with ham := { s.ham with granted := l, held := [(257, 1)] }, nextId := 10 }
def r2tB : Burst := { id := 2, chan := 257, cells := 1, cls := 2, f := 0, q := 0, idx := 1, aged := false, bufs := [(0x50000, 60)], op := some (7, 3) }
def txB : Burst := { id := 1, chan := 256, cells := 1, cls := 0, f := 0, q := 0, idx := 0, aged := false, bufs := [(0x40000, 64)], op := none }
def nopWq : WqSt := { wq0 with kind := 2, tail := 2, fetch := 2, items := [cryItem 0 0 12 false 1, { item0 with idx := 1, kind := 31 }] }
def stoGo (dir : Nat) : List Item := (stoRun dir).map (fun i => { i with part := 1 })
def stoGoWq (dir : Nat) : WqSt := { wq0 with kind := 3, tail := 2, fetch := 2, items := stoGo dir }
def stoB : Burst := { id := 2, chan := 257, cells := 1, cls := 0, f := 0, q := 0, idx := 1, aged := false, bufs := [(0x40000, 64)], op := none }
def stoGoS (dir : Nat) (s : State) : State := granted (queue s (stoGoWq dir)) [stoB]
def r2tS (work : List (Nat × Nat)) (b : Burst) : State := granted (withReads (withOps (C 3) [{ (op1 2) with total := 100000, work := work }]) [rd 9 0 (.burst 2) [] 1]) [b]
def tq (s : State) (r : TReq) : State := { s with tbl := { s.tbl with turns := setAt 0 s.tbl.turns r.table r.c } }
def taS1 : State := withMac (blockOf (thr { N with nyate := { N.nyate with treqs := [⟨1, 0, 1, 9, false, 0⟩, ⟨2, 18, 1, 100, false, 0⟩] }, tbl := { N.tbl with turns := [1, 7, 7, 7] } } 2 18 (taker 4)) 2 1 100 mac1) [(wayOf 0 mac1 3, mac1)]
def growF : Frame := { engF 2 9 with loc := .engine 2 128 2 false, nonets := stitched (espFr ++ List.replicate 130 7) [] }
def growS (held : List (Nat × Nat)) : State := withFrames (engS 2 9) [growF] held
def growN : Nat := cellsOf (growF.rebuilt (encapsulate ((engS 2 9).encRec 5) growF.body)).nonets.length
def loadS (bodies : List Nat) (reads : List HostRead) : State := withReads { N with nyate := { N.nyate with loads := [1, 2], bodies := bodies } } reads
theorem notBell (t : BarTarget) (h : (match t with | .doorbell _ => true | _ => false) = false) (o : Nat) : t ≠ .doorbell o := by
  rintro rfl; cases h
theorem notPoll (u : ReadFor) (h : (match u with | .poll _ _ => true | _ => false) = false) (q n : Nat) : u ≠ .poll q n := by
  rintro rfl; cases h
theorem notMacsec (l : Loc) (h : (match l with | .macsec _ => true | _ => false) = false) (q : Nat) : l ≠ .macsec q := by
  rintro rfl; cases h

/-! ## The hypotheses of the statements are met -/

/-- States and operands that meet the hypotheses of each clause of `StepRunsFrontCommand`. -/
theorem witness_StepRunsFrontCommand :
    (∃ s : State, s.pending = []) :=
  ⟨P, by decide +kernel⟩

/-- States and operands that meet the hypotheses of each clause of `SafeOutInvariant`. -/
theorem witness_SafeOutInvariant :
    (∃ s t : State, s.outSafe ∧ step s = .next t) :=
  ⟨{ R with pending := [.discrepancy] }, R, by unfold State.outSafe; decide +kernel, rfl⟩

/-- States and operands that meet the hypotheses of each clause of `ArbiterAppliesHighestRankedRequest`. -/
theorem witness_ArbiterAppliesHighestRankedRequest :
    (∃ (s : State) (p : Page) (r : Req), p.safety = false ∧ p.metering = false ∧ r.width = 4 ∧ r.off.toNat % 4 = 0 ∧ r.off.toNat ≠ 0x20 ∧ r.off.toNat ≠ 0x24 ∧ r.master.overseer = true) ∧
    (∃ (s : State) (p : Page) (r : Req), p.safety = false ∧ p.metering = false ∧ r.width = 4 ∧ r.off.toNat % 4 = 0 ∧ r.off.toNat ≠ 0x20 ∧ r.off.toNat ≠ 0x24 ∧ s.lockOf p = none ∧ s.field p 0x20 3 0 ≠ 9 ∧ s.field p 0x20 3 0 ≠ 10) ∧
    (∃ (s : State) (p : Page) (r : Req) (v : Word), r.kind = .write v ∧ r.off.toNat = 0x20 ∧ r.width = 4 ∧ (s.lockOf p = none ∨ s.lockOf p = some r.master)) ∧
    (∃ (s : State) (p : Page) (rs : List Req) (w : Req), s.winner p rs = some w) ∧
    (∃ (s : State) (p : Page) (r : Req), s.accepts p r = true) ∧
    (∃ (s : State) (i : Fin 2) (r : Req), s.accepts (.saf i) r = true) ∧
    (∃ (s : State) (r : Req), s.accepts .met r = true) ∧
    (∃ (s : State) (p : Page) (r : Req) (h : Master), Sparse.find s.locks p.code = some h ∧ s.accepts p r = true ∧ r.off.toNat ≠ 0x24) :=
  ⟨⟨lk P .clk .twp, .clk, wr .mgt 0x40 5, by decide +kernel⟩,
   ⟨P, .clk, wr .pf0 0x40 5, by decide +kernel⟩,
   ⟨P, .clk, wr .mgt 0x20 2, 2, by decide +kernel⟩,
   ⟨P, .clk, [wr .pf0 0x20 2, wr .mgt 0x20 3], wr .mgt 0x20 3, by decide +kernel⟩,
   ⟨P, .clk, wr .mgt 0x20 3, by decide +kernel⟩,
   ⟨P, 0, wr .saf 0x40 3, by decide +kernel⟩,
   ⟨P, wr .meter 0x40 3, by decide +kernel⟩,
   ⟨lk P .clk .pf0, .clk, wr .pf0 0x40 3, .pf0, by decide +kernel⟩⟩

/-- States and operands that meet the hypotheses of each clause of `WritesAndLocksAreSettledByTheArbiter`. -/
theorem witness_WritesAndLocksAreSettledByTheArbiter :
    (∃ (s : State) (p : Page) (rs : List Req) (w : Req) (v : Word), ((∀ r ∈ rs, s.takes (accessIsland p r.off.toNat))) ∧ s.winner p rs = some w ∧ w.kind = .write v) ∧
    (∃ (s : State) (p : Page) (rs : List Req) (w : Req) (v : Word), plainReg p w.off.toNat ∧ ((∀ x ∈ (p, 0x2C) :: discardRegs p, regKey p w.off.toNat ≠ regKey x.1 x.2)) ∧ ((∀ r ∈ rs, s.takes (accessIsland p r.off.toNat))) ∧ s.sens.hot = false ∧ s.winner p rs = some w ∧ w.kind = .write v) ∧
    (∃ (s : State) (p : Page) (rs : List Req), ((∀ r ∈ rs, s.takes (accessIsland p r.off.toNat))) ∧ s.sens.hot = false ∧ s.winner p rs = none) ∧
    (∃ (s : State) (p q : Page) (a b : Req), p ≠ q ∧ s.takes (accessIsland p a.off.toNat) ∧ s.takes (accessIsland q b.off.toNat) ∧ s.sens.hot = false ∧ a.isRead = false ∧ b.isRead = false ∧ s.accepts p a = false ∧ s.accepts q b = false ∧ (a.master.rank < b.master.rank ∨ (a.master.rank = b.master.rank ∧ p.index < q.index))) ∧
    (∃ (s : State) (p : Page) (m : Master) (rivals : List Req), s.takes p.island ∧ s.sens.hot = false ∧ s.winner p ({ master := m, off := 0x24, width := 4, kind := .lockRead } :: rivals) = some { master := m, off := 0x24, width := 4, kind := .lockRead }) ∧
    (∃ (s : State) (p : Page) (m : Master) (rivals : List Req), s.takes p.island ∧ s.reaches p m = true ∧ s.mayWrite p m = false) ∧
    (∃ (s : State) (p : Page) (m h : Master) (rivals : List Req), s.takes p.island ∧ s.reaches p m = true ∧ s.mayWrite p m = true ∧ s.lockOf p = some h ∧ h ≠ m) ∧
    (∃ (s : State) (p : Page) (m : Master) (rivals : List Req) (w : Req), s.takes p.island ∧ s.competes p m = true ∧ s.winner p ({ master := m, off := 0x24, width := 4, kind := .lockRead } :: rivals) = some w ∧ w ≠ { master := m, off := 0x24, width := 4, kind := .lockRead }) ∧
    (∃ (s : State) (p : Page) (m : Master), s.reaches p m = false) ∧
    (∃ (s : State) (p : Page) (m h : Master) (v : Word) (rivals : List Req), s.grants p 0x24 m v rivals ∧ s.lockOf p = some h) ∧
    (∃ (s : State) (p : Page) (m : Master) (v : Word), s.takes p.island ∧ s.sens.hot = false ∧ s.accepts p (wr m 0x24 v) = false) :=
  ⟨⟨R, .swt, [wr .krds 0x40 1, wr .pf0 0x44 2, wr (.pf 1) 0x40 0], wr .krds 0x40 1, 1, by unfold State.takes; decide +kernel, by decide +kernel⟩,
   ⟨R, .swt, [wr .krds 0x40 1, wr .pf0 0x44 2, wr (.pf 1) 0x40 0], wr .krds 0x40 1, 1, by unfold plainReg; decide +kernel, by decide +kernel, by unfold State.takes; decide +kernel, by decide +kernel⟩,
   ⟨R, .swt, [wr (.pf 1) 0x40 1, wr (.saf) 0x40 0], by unfold State.takes; decide +kernel, by decide +kernel⟩,
   ⟨R, .swt, .cry, wr (.pf 1) 0x40 1, wr (.pf 2) 0x44 1, by decide +kernel, by unfold State.takes; decide +kernel, by unfold State.takes; decide +kernel, by decide +kernel⟩,
   ⟨R, .swt, .krds, [wr .pf0 0x40 1], by unfold State.takes; decide +kernel, by decide +kernel⟩,
   ⟨R, .swt, .nyate 3, [], by unfold State.takes; decide +kernel, by decide +kernel⟩,
   ⟨{ R with locks := [(Page.code .swt, .pf0)] }, .swt, .krds, .pf0, [], by unfold State.takes; decide +kernel, by decide +kernel⟩,
   ⟨R, .swt, .pf0, [wr .krds 0x40 1], wr .krds 0x40 1, by unfold State.takes; decide +kernel, by decide +kernel⟩,
   ⟨R, .swt, .meter, by decide +kernel⟩,
   ⟨{ R with locks := [(Page.code .swt, .pf0)] }, .swt, .krds, .pf0, 1, [], by unfold State.grants State.takes; decide +kernel, by decide +kernel⟩,
   ⟨R, .swt, .pf0, 1, by unfold State.takes; decide +kernel, by decide +kernel⟩⟩

/-- States and operands that meet the hypotheses of each clause of `HeaderRegistersAndReads`. -/
theorem witness_HeaderRegistersAndReads :
    (∃ (s : State) (p : Page) (m : Master) (rivals : List Req), s.grants p 0x28 m (bit 26) rivals) ∧
    (∃ (s : State) (p : Page) (m : Master) (v : Word) (rivals : List Req), s.grants p 0x20 m v rivals) ∧
    (∃ (s : State) (p : Page) (m : Master) (v : Word), s.takes p.island ∧ s.sens.hot = false ∧ m.overseer = false) ∧
    (∃ (s : State) (q : Fin 4) (m : Master) (v : Word) (rivals : List Req), s.grants (.port q) 0x08 m v rivals ∧ bitOn v 1 = true ∧ bitOn (s.reg (.port q) 0x08) 1 = false) ∧
    (∃ (s : State) (q : Fin 4) (m : Master) (v : Word) (rivals : List Req), s.grants (.port q) 0x08 m v rivals ∧ bitOn v 1 = false) ∧
    (∃ (s : State) (p : Page), bitOn (s.reg p 0x08) 1 = true) ∧
    (∃ (s : State) (p : Page) (m : Master) (off : BitVec 12), s.takes (accessIsland p off.toNat) ∧ s.reaches p m = true ∧ off.toNat % 4 = 0 ∧ off.toNat ≠ 0x24 ∧ ((p = .ptp → off.toNat ≠ 0x48)) ∧ ((∀ q, p = .gate q → off.toNat ≠ 0x70)) ∧ ((p = .mgt → off.toNat ≠ 0xE4))) ∧
    (∃ (s : State) (m : Master) (off : BitVec 12) (width : Nat), s.takes .mgt ∧ s.reaches .mgt m = true ∧ 0xE4 ≤ off.toNat ∧ off.toNat < 0xE8 ∧ 0xE6 < off.toNat + width ∧ off.toNat + width ≤ 0xE8) :=
  ⟨⟨R.setReg .swt 0x28 0x10280001, .swt, .pf0, [], by unfold State.grants State.takes; decide +kernel⟩,
   ⟨R, .swt, .pf0, 0x23FF000B, [], by unfold State.grants State.takes; decide +kernel⟩,
   ⟨R, .swt, .pf 1, 6, by unfold State.takes; decide +kernel, by decide +kernel⟩,
   ⟨R, 2, .pf0, 2, [], by unfold State.grants State.takes; decide +kernel, by decide +kernel⟩,
   ⟨R.setReg (.port 2) 8 2, 2, .pf0, 0, [], by unfold State.grants State.takes; decide +kernel, by decide +kernel⟩,
   ⟨R.setReg (.port 1) 8 2, .port 1, by decide +kernel⟩,
   ⟨R, .ptp, .yemor, 0x40, by unfold State.takes; decide +kernel, by decide +kernel⟩,
   ⟨R.setReg .mgt 0xE4 0x00070003, .yemor, 0xE6, 2, by unfold State.takes; decide +kernel, by decide +kernel⟩⟩

/-- States and operands that meet the hypotheses of each clause of `MainsInputsAreJudgedByTheirRatings`. -/
theorem witness_MainsInputsAreJudgedByTheirRatings :
    (∃ x : Measure, x.dc = false) ∧
    (∃ x : Measure, x.dc = true) ∧
    (∃ (s : State) (i : Input) (x : Measure), (s.input i).present = true ∧ x.lost = true) ∧
    (∃ (s : State) (i : Input) (x : Measure), (s.input i).present = false ∧ x.rated = true) ∧
    (∃ (s : State) (i : Input) (x : Measure), (s.input i).present = true ∧ (s.input i).good = false ∧ x.rated = true ∧ x.lost = false) ∧
    (∃ (s : State) (i : Input) (x : Measure), (s.input i).present = true ∧ x.rated = false ∧ x.lost = false) :=
  ⟨⟨ac 699, by decide +kernel⟩,
   ⟨dcv 1000, by decide +kernel⟩,
   ⟨U, .a, ac 699, by decide +kernel⟩,
   ⟨shed 2, .a, ac 2300, by decide +kernel⟩,
   ⟨withPwr U (fun p => { p with a := { inputOn with good := false, lost := true } }), .a, ac 2300, by decide +kernel⟩,
   ⟨U, .a, ac 849, by decide +kernel⟩⟩

/-- States and operands that meet the hypotheses of each clause of `ShedSequenceFollowsItsSteps`. -/
theorem witness_ShedSequenceFollowsItsSteps :
    (∃ s : State, s.pwr.started = true ∧ s.pwr.a.present = false ∧ s.pwr.b.present = false ∧ s.pwr.shed = 0) ∧
    (∃ s : State, s.pwr.shed = 2) ∧
    (∃ s : State, s.pwr.shed = 5) ∧
    (∃ s : State, s.pwr.shed ≠ 0 ∧ s.pwr.shed ≤ 5 ∧ s.field .pwr 0x4C 19 0 < s.field .pwr 0x5C 15 0 + 2500) ∧
    (∃ s : State, s.pwr.shed ≠ 0) :=
  ⟨⟨lossy, by decide +kernel⟩,
   ⟨shed 2, by decide +kernel⟩,
   ⟨shed 5, by decide +kernel⟩,
   ⟨put (shed 2) [(.pwr, 0x4C, 2000)], by decide +kernel⟩,
   ⟨shed 8, by decide +kernel⟩⟩

/-- States and operands that meet the hypotheses of each clause of `GaugeAndCapacitanceTest`. -/
theorem witness_GaugeAndCapacitanceTest :
    (∃ (s : State) (volt load : Nat), volt < 65536 ∧ load < 2 ^ 18 ∧ s.field .pwr 0x54 15 0 * (volt * volt - 5760000) / 2000000 < 2 ^ 20) ∧
    (∃ (s : State) (m : Master) (rivals : List Req), s.grants .pwr 0x60 m (s.reg .pwr 0x60 &&& 0xFF ||| bit 8) rivals ∧ s.pwr.a.good = true ∧ s.pwr.b.good = true ∧ s.pwr.testing = false) ∧
    (∃ s : State, s.pwr.started = true ∧ s.pwr.a.good = true ∧ s.pwr.b.good = true ∧ s.pwr.testing = false) ∧
    (∃ s : State, s.pwr.retry = true ∧ s.pwr.a.good = true ∧ s.pwr.b.good = true ∧ s.pwr.testing = false) ∧
    (∃ (s : State) (c : Nat), s.pwr.testing = true ∧ s.pwr.a.good = true ∧ s.pwr.b.good = true ∧ c * 97 / 100 < 65536) :=
  ⟨⟨charged, 5300, 120, by decide +kernel⟩,
   ⟨put U [(.pwr, 0x60, 168)], .mgt, [], by unfold State.grants State.takes; decide +kernel, by decide +kernel⟩,
   ⟨U, by decide +kernel⟩,
   ⟨withPwr U (fun p => { p with retry := true }), by decide +kernel⟩,
   ⟨withPwr U (fun p => { p with testing := true }), 10000, by decide +kernel⟩⟩

/-- States and operands that meet the hypotheses of each clause of `FlashBurstsAreAdmittedByTheGauge`. -/
theorem witness_FlashBurstsAreAdmittedByTheGauge :
    (∃ (s : State) (pages : Nat), s.pwr.started = true ∧ s.pwr.shed = 0 ∧ s.log.burst = none ∧ s.log.dev0 = true ∧ s.reading .image = false ∧ pages * 5 * (s.field .pwr 0x58 17 0 + 1000) + s.field .pwr 0x5C 15 0 * 1000 ≤ s.field .pwr 0x4C 19 0 * 1000) ∧
    (∃ (s : State) (pages : Nat), s.pwr.started = true ∧ s.pwr.shed = 0 ∧ s.log.burst = none ∧ s.log.dev0 = true ∧ s.reading .image = false ∧ s.field .pwr 0x4C 19 0 * 1000 < pages * 5 * (s.field .pwr 0x58 17 0 + 1000) + s.field .pwr 0x5C 15 0 * 1000) ∧
    (∃ (s : State) (b : FlashBurst), s.log.burst = some b ∧ b.kind = .log ∧ s.log.dev0 = true ∧ (s.log.flash ++ s.log.waiting.take b.recs).length ≤ 1572864) ∧
    (∃ s : State, s.log.burst = none ∧ s.log.busyOp = some .erase ∧ s.log.opHeld = false) ∧
    (∃ s : State, s.pwr.started = true ∧ s.pwr.shed = 0 ∧ s.log.burst = none ∧ s.log.dev0 = true ∧ s.log.waiting ≠ [] ∧ s.log.waiting.length ≤ 512 ∧ (s.log.waiting.length + 7) / 8 * 5 * (s.field .pwr 0x58 17 0 + 1000) + s.field .pwr 0x5C 15 0 * 1000 ≤ s.field .pwr 0x4C 19 0 * 1000) ∧
    (∃ (s : State) (p : Page) (b : Fin 32) (w : RepWin), Sparse.find s.log.wins (winKey p b.val) = some w ∧ eventType p b.val = 1 ∧ 0 < w.count ∧ s.log.lost = 0 ∧ s.log.tail.length < 512) :=
  ⟨⟨charged, 4, by decide +kernel⟩,
   ⟨put charged [(.pwr, 0x4C, 20)], 4, by decide +kernel⟩,
   ⟨withLog charged (fun l => { l with tail := [{ entry := rec1, inFlash := false }], next := 1, burst := some { kind := .log, pages := 1, recs := 1, suspended := false } }), { kind := .log, pages := 1, recs := 1, suspended := false }, by decide +kernel⟩,
   ⟨{ withLog charged (fun l => { l with busyOp := some .erase }) with boot := { R.boot with setB := { R.boot.setB with st := 2 } } }, by decide +kernel⟩,
   ⟨withLog charged (fun l => { l with tail := [{ entry := rec1, inFlash := false }], next := 1 }), by decide +kernel⟩,
   ⟨withLog charged (fun l => { l with tail := [{ entry := rec1, inFlash := false }], next := 1, wins := [(winKey .swt 3, { count := 2 })] }), .swt, 3, { count := 2 }, by decide +kernel⟩⟩

/-- States and operands that meet the hypotheses of each clause of `StartsAndUnitResets`. -/
theorem witness_StartsAndUnitResets :
    (∃ s : State, s.pwr.started = false ∧ ((s.pwr.a.good = true ∨ s.pwr.b.good = true))) ∧
    (∃ (s : State) (ms : Nat), s.host.ready = false ∧ s.pwr.started = true ∧ s.boot.recovery = false ∧ s.runs .host = true ∧ s.runs .fab = true ∧ s.pwr.shed < 3) ∧
    (∃ s : State, s.host.ready = false ∧ s.pwr.started = true) ∧
    (∃ (s : State) (m : Master) (v : Word) (rivals : List Req), s.grants .unit 0x4C m (v ||| bit 0) rivals ∧ fld v 31 16 = 0x4B52 ∧ (m.overseer = true ∨ m = .yemor) ∧ bitOn (s.reg .unit 0x50) 0 = false) ∧
    (∃ (s : State) (m : Master) (v : Word) (rivals : List Req), s.grants .unit 0x4C m (v ||| bit 0) rivals ∧ fld v 31 16 ≠ 0x4B52 ∧ (m.overseer = true ∨ m = .yemor)) ∧
    (∃ (s : State) (m : Master) (v : Word) (rivals : List Req), s.grants .unit 0x4C m (v ||| bit 0) rivals ∧ m.overseer = false ∧ m ≠ .yemor) ∧
    (∃ (s : State) (m : Master) (v : Word) (rivals : List Req), s.grants .unit 0x4C m (v ||| 3) rivals ∧ fld v 31 16 = 0x4B52 ∧ (m.overseer = true ∨ m = .yemor) ∧ bitOn (s.reg .unit 0x50) 0 = true ∧ s.boot.mgtSel = false) ∧
    (∃ (s : State) (v : Word) (rivals : List Req) (i : Island), s.grants .isl 0x54 .mgt v rivals ∧ fld v 31 16 = 0x4943 ∧ Island.ofNum (fld v 4 0) = some i ∧ i ∉ [Island.fab, .host, .mgt, .saf]) ∧
    (∃ (s : State) (i : Island), i ∉ [Island.fab, .host, .mgt, .saf] ∧ (s.island i).cold = true ∧ s.boot.recovery = false) :=
  ⟨⟨{ R with pwr := { R.pwr with a := inputOn } }, by decide +kernel⟩,
   ⟨put { U with host := R.host } [(.unit, 0x50, 0x605)], 900, by decide +kernel⟩,
   ⟨{ U with host := R.host }, by decide +kernel⟩,
   ⟨U, .pf0, 0x4B520004, [], by unfold State.grants State.takes; decide +kernel, by decide +kernel⟩,
   ⟨U, .pf0, 0x4B530004, [], by unfold State.grants State.takes; decide +kernel, by decide +kernel⟩,
   ⟨put U [(.unit, 0x20, 2)], .pf 0, 0x4B520000, [], by unfold State.grants State.takes; decide +kernel, by decide +kernel⟩,
   ⟨put U [(.unit, 0x50, 0x100205)], .mgt, 0x4B520000, [], by unfold State.grants State.takes; decide +kernel, by decide +kernel⟩,
   ⟨U, 0x49430004, [], .nyc 0, by unfold State.grants State.takes; decide +kernel, by decide +kernel⟩,
   ⟨{ U with isl := [(12, { ready with cold := true, ready := false })] }, .cry, by decide +kernel⟩⟩

/-- States and operands that meet the hypotheses of each clause of `HostLinkComesUpAndIsReset`. -/
theorem witness_HostLinkComesUpAndIsReset :
    (∃ (s : State) (cause : LinkCause), s.host.lost = false) ∧
    (∃ (s : State) (cause : LinkCause), s.host.link = .training ∧ s.host.lastGen = 0) ∧
    (∃ s : State, s.host.perst = true) ∧
    (∃ s : State, s.host.perst = false ∧ s.host.link ≠ .training ∧ s.runs .host = true ∧ s.pwr.started = true) ∧
    (∃ (s : State) (gen width : Nat), s.host.link = .training ∧ gen < 16 ∧ width < 32) :=
  ⟨⟨Q, .perst, by decide +kernel⟩,
   ⟨withHost L (fun h => { h with link := .training, lastGen := 0, lastW := 0 }), .perst, by decide +kernel⟩,
   ⟨U, by decide +kernel⟩,
   ⟨put (withHost L (fun h => { h with link := .down })) [(.hlnk, 0x4C, 0x1070F)], by decide +kernel⟩,
   ⟨withHost L (fun h => { h with link := .training }), 5, 16, by decide +kernel⟩⟩

/-- States and operands that meet the hypotheses of each clause of `ConfigurationWritesAndFunctionResets`. -/
theorem witness_ConfigurationWritesAndFunctionResets :
    (∃ (s : State) (f : Fin 1024) (field : CfgField) (v : Nat), s.host.up = true ∧ s.host.ready = false ∧ s.runs .host = true) ∧
    (∃ (s : State) (f : Fin 1024) (v : Nat), s.cfgThere f.val = true) ∧
    (∃ (s : State) (f : Fin 1024) (v : Nat), s.cfgThere f.val = true) ∧
    (∃ (s : State) (v : Nat), s.cfgThere 0 = true ∧ (s.func 0).cfg.vfEnable = false) ∧
    (∃ (s : State) (v : Nat), s.cfgThere 0 = true) ∧
    (∃ (s : State) (k : Fin 4), s.cfgThere k.val = true ∧ (s.pme k.val).enable = false ∧ (s.pme k.val).status = true ∧ s.host.up = true) ∧
    (∃ (s : State) (f : Nat), f < 1024) ∧
    (∃ s : State, s.cfgThere 0 = true) ∧
    (∃ s : State, s.cfgThere 0 = true ∧ (s.func 0).cfg.vfEnable = false ∧ (s.func 0).cfg.numVFs ≠ 0 ∧ (s.func 0).cfg.numVFs ≤ 1020) ∧
    (∃ (s : State) (f : Fin 1024), s.cfgThere f.val = true ∧ f.val ≠ 0) ∧
    (∃ s : State, s.cfgThere 0 = true) ∧
    (∃ (s : State) (f : Fin 1024) (rivals : List Req), 4 ≤ f.val ∧ s.grants (.func f) 0x58 .pf0 (bit 0) rivals) ∧
    (∃ (s : State) (f : Fin 1024), ((∀ h ∈ s.tbl.lock, h = none)) ∧ ((∀ k, k < 4 → s.treqWaits k = false)) ∧ (s.func f.val).inReset = true) ∧
    (∃ (s : State) (fs : List (Fin 1024)), (s.tbl.lock.any Option.isSome || (List.range 4).any s.treqWaits) = true) :=
  ⟨⟨withHost L (fun h => { h with ready := false }), 0, .maxPayload, 1, by decide +kernel⟩,
   ⟨V, 4, 5, by decide +kernel⟩,
   ⟨V, 4, 2, by decide +kernel⟩,
   ⟨L, 1020, by decide +kernel⟩,
   ⟨V, 257, by decide +kernel⟩,
   ⟨withHost V (fun h => { h with pme := List.replicate 4 { enable := false, status := true, sent := false } }), 2, by decide +kernel⟩,
   ⟨V, 0, by decide +kernel⟩,
   ⟨V, by decide +kernel⟩,
   ⟨withFunc L 0 (fun x => { x with cfg := { x.cfg with numVFs := 3 } }), by decide +kernel⟩,
   ⟨V, 5, by decide +kernel⟩,
   ⟨V, by decide +kernel⟩,
   ⟨V, 5, [], by decide +kernel, by unfold State.grants State.takes; decide +kernel⟩,
   ⟨withFunc Q 0 (fun x => { x with inReset := true, by123 := true }), 0, by decide +kernel⟩,
   ⟨{ V with tbl := { V.tbl with lock := [none, some .pf0, none, none] } }, [0], by decide +kernel⟩⟩

/-- States and operands that meet the hypotheses of each clause of `PowerStatesWakeAndMessages`. -/
theorem witness_PowerStatesWakeAndMessages :
    (∃ (s : State) (f : Fin 1024), s.cfgThere f.val = true ∧ (s.func f.val).dstate = .d0) ∧
    (∃ (s : State) (f : Fin 1024), (s.func f.val).dstate = .entering) ∧
    (∃ (s : State) (f : Fin 1024), (s.func f.val).dstate = .enteringThenD0) ∧
    (∃ (s : State) (f : Fin 1024), s.cfgThere f.val = true ∧ (s.func f.val).dstate = .d3) ∧
    (∃ (s : State) (f : Fin 1024), s.cfgThere f.val = true ∧ (s.func f.val).dstate = .entering) ∧
    (∃ s : State, s.host.link = .l0 ∧ (s.func 0).cfg.aspmL1 = true) ∧
    (∃ s : State, s.host.link = .l0 ∧ (s.func 0).cfg.aspmL1 = true ∧ (s.func 0).cfg.l12 = true) ∧
    (∃ s : State, s.host.up = true ∧ (s.func 0).cfg.ltrEnable = true ∧ s.busy = true ∧ s.host.ltrBusy ≠ some true) ∧
    (∃ s : State, s.host.up = true ∧ (s.func 0).cfg.ltrEnable = true ∧ s.busy = false ∧ s.host.ltrBusy = some true) ∧
    (∃ (s : State) (k : Fin 4), bitOn (s.reg .hlnk 0x4C) 8 = true) ∧
    (∃ (s : State) (k : Fin 4), (s.pme k.val).enable = true ∧ (s.pme k.val).status = true ∧ (s.pme k.val).sent = true ∧ s.host.up = true) ∧
    (∃ (s : State) (f : Fin 1024) (v : Nat), 2048 * f.val + v ∈ s.host.pba ∧ s.canSend f.val = true ∧ (s.msix f.val v).masked = false ∧ v < (s.func f.val).asg.vectors) ∧
    (∃ (s : State) (f : Fin 1024), s.funcRuns f.val = true ∧ s.hasWork f.val = true ∧ bitOn (s.reg (.func f) 0x5C) 3 = false) :=
  ⟨⟨V, 5, by decide +kernel⟩,
   ⟨withFunc V 0 (fun x => { x with dstate := .entering }), 0, by decide +kernel⟩,
   ⟨withFunc V 0 (fun x => { x with dstate := .enteringThenD0 }), 0, by decide +kernel⟩,
   ⟨withFunc V 3 (fun x => { x with dstate := .d3 }), 3, by decide +kernel⟩,
   ⟨withFunc V 3 (fun x => { x with dstate := .entering }), 3, by decide +kernel⟩,
   ⟨V, by decide +kernel⟩,
   ⟨V, by decide +kernel⟩,
   ⟨Q, by decide +kernel⟩,
   ⟨withHost V (fun h => { h with ltrBusy := some true }), by decide +kernel⟩,
   ⟨pmeOn L, 2, by decide +kernel⟩,
   ⟨withHost L (fun h => { h with pme := List.replicate 4 { enable := true, status := true, sent := true } }), 3, by decide +kernel⟩,
   ⟨withHost V (fun h => { h with pba := [3], msix := [(3, { addrLo := 0, addrHi := 0, data := 0, masked := false })] }), 0, 3, by decide +kernel⟩,
   ⟨Q, 0, by decide +kernel⟩⟩

/-- States and operands that meet the hypotheses of each clause of `BarAccessesAndHostReads`. -/
theorem witness_BarAccessesAndHostReads :
    (∃ (s : State) (f : Fin 1024) (bar off width : Nat) (w : Option (BitVec 64)) (poison : Bool), s.barThere f.val = true ∧ (s.func f.val).dstate ≠ .d0) ∧
    (∃ (s : State) (f : Fin 1024) (v : BitVec 64), s.barThere f.val = true ∧ (s.func f.val).dstate = .d0 ∧ (s.func f.val).inReset = false ∧ 4 ≤ f.val ∧ s.grants (.func f) 0x108 (Master.ofFunc f) (v.setWidth 32) []) ∧
    (∃ (s : State) (f : Fin 1024) (bar off width : Nat) (v : BitVec 64) (p : Page) (o : Nat), s.barThere f.val = true ∧ (s.func f.val).dstate = .d0 ∧ (s.func f.val).inReset = false ∧ s.barTarget f bar off = .page p o) ∧
    (∃ (s : State) (f : Fin 1024) (bar off : Nat) (v : BitVec 64) (k : Nat), s.barThere f.val = true ∧ (s.func f.val).dstate = .d0 ∧ (s.func f.val).inReset = false ∧ s.barTarget f bar off = .msix (16 * k + 8) ∧ k < (s.func f.val).asg.vectors ∧ 2048 * f.val + k ∉ s.host.pba) ∧
    (∃ (s : State) (f : Fin 1024) (bar off : Nat) (v : BitVec 64) (k : Nat), s.barThere f.val = true ∧ (s.func f.val).dstate = .d0 ∧ (s.func f.val).inReset = false ∧ s.barTarget f bar off = .msix (16 * k) ∧ k < (s.func f.val).asg.vectors ∧ 2048 * f.val + k ∉ s.host.pba) ∧
    (∃ (s : State) (f : Fin 1024) (bar off : Nat) (v : BitVec 64) (k : Nat), s.barThere f.val = true ∧ (s.func f.val).dstate = .d0 ∧ (s.func f.val).inReset = false ∧ s.barTarget f bar off = .msix (16 * k + 12) ∧ k < (s.func f.val).asg.vectors ∧ 2048 * f.val + k ∈ s.host.pba ∧ s.canSend f.val = true ∧ bitOn (v.setWidth 32 : Word) 0 = false) ∧
    (∃ (s : State) (f : Fin 1024) (bar off width : Nat) (v : BitVec 64) (q : Fin 256), s.barThere f.val = true ∧ (s.func f.val).dstate = .d0 ∧ (s.func f.val).inReset = false ∧ s.barTarget f bar off = .doorbell (128 * q.val)) ∧
    (∃ (s : State) (f : Fin 1024) (bar off width : Nat) (v : BitVec 64) (q : Fin 256), s.barThere f.val = true ∧ (s.func f.val).dstate = .d0 ∧ (s.func f.val).inReset = false ∧ s.barTarget f bar off = .doorbell (128 * q.val + 8)) ∧
    (∃ (s : State) (f : Fin 1024) (bar off width : Nat) (v : BitVec 64) (o : Nat), s.barThere f.val = true ∧ (s.func f.val).dstate = .d0 ∧ s.barTarget f bar off = .doorbell o ∧ ((s.func f.val).inReset = true ∨ (o % 128 ≠ 0 ∧ o % 128 ≠ 8))) ∧
    (∃ (s : State) (f : Fin 1024) (bar off width : Nat) (v : BitVec 64) (o : Nat), s.barThere f.val = true ∧ (s.func f.val).dstate = .d0 ∧ (s.func f.val).inReset = false ∧ s.barTarget f bar off = .ring o) ∧
    (∃ (s : State) (f : Fin 1024) (bar off width : Nat) (v : BitVec 64) (o : Nat), s.barThere f.val = true ∧ (s.func f.val).dstate = .d0 ∧ s.barTarget f bar off ∈ [.pba o, .aperture o, .nothing]) ∧
    (∃ (s : State) (f : Fin 1024) (bar off width : Nat) (v : BitVec 64), s.barThere f.val = true ∧ (s.func f.val).dstate = .d0 ∧ (s.func f.val).inReset = true ∧ ((∀ o : Nat, s.barTarget f bar off ≠ .doorbell o))) ∧
    (∃ (s : State) (f : Fin 1024) (off : Nat), s.barThere f.val = true ∧ (s.func f.val).dstate = .d0 ∧ (s.func f.val).inReset = false ∧ 4 ≤ f.val ∧ off < 0x1000 ∧ off % 4 = 0 ∧ off ≠ 0x24 ∧ s.takes .host) ∧
    (∃ (s : State) (f : Fin 1024) (bar off width : Nat) (poison : Bool) (p : Page) (o : Nat), s.barThere f.val = true ∧ (s.func f.val).dstate = .d0 ∧ (s.func f.val).inReset = false ∧ s.barTarget f bar off = .page p o) ∧
    (∃ (s : State) (f : Fin 1024) (bar off width o : Nat) (poison : Bool) (b : List Byte), s.barThere f.val = true ∧ (s.func f.val).dstate = .d0 ∧ (s.func f.val).inReset = false ∧ (s.barTarget f bar off, b) ∈ [(.msix o, s.msixBytes f.val o width), (.pba o, s.pbaBytes f.val o width), (.ring o, s.ringBytes o width), (.doorbell o, List.replicate width 0), (.nothing, List.replicate width 0)]) ∧
    (∃ (s : State) (f : Fin 1024) (bar off width o : Nat) (poison : Bool), s.barThere f.val = true ∧ (s.func f.val).dstate = .d0 ∧ (s.func f.val).inReset = false ∧ s.barTarget f bar off = .aperture o ∧ s.takes .tbl) ∧
    (∃ (s : State) (f : Fin 1024) (bar off width : Nat) (poison : Bool), s.barThere f.val = true ∧ (s.func f.val).dstate = .d0 ∧ (s.func f.val).inReset = true) ∧
    (∃ (s : State) (f : Fin 1024) (bar off width : Nat) (v : BitVec 64), s.barThere f.val = true ∧ (s.func f.val).dstate = .d0 ∧ (s.func f.val).inReset = false ∧ s.barTarget f bar off = .miss) ∧
    (∃ (s : State) (f : Fin 1024) (bar off width : Nat) (poison : Bool), s.barThere f.val = true ∧ (s.func f.val).dstate = .d0 ∧ (s.func f.val).inReset = false ∧ s.barTarget f bar off = .miss) ∧
    (∃ (s : State) (f : Fin 1024) (bar off width : Nat) (v : BitVec 64), s.barThere f.val = true ∧ (s.func f.val).dstate = .d0) ∧
    (∃ (s : State) (id : Nat) (poison : Bool), s.runs .host = false) ∧
    (∃ (s : State) (id : Nat) (poison : Bool), s.runs .host = true ∧ s.readOf id = none) ∧
    (∃ (s : State) (id : Nat) (r : HostRead), s.runs .host = true ∧ s.readOf id = some r ∧ ((∀ x ∈ s.host.reads, x.want = [])) ∧ 1 < r.out) ∧
    (∃ (s : State) (id : Nat) (r : HostRead) (a n : Nat) (l : List (Nat × Nat)), s.runs .host = true ∧ s.host.reads = [r] ∧ r.id = id ∧ r.want = (a, n) :: l ∧ 0 < r.out ∧ r.out ≤ s.readLimit r.f ∧ r.out ≤ 2048 ∧ s.mayRead r.f = true) ∧
    (∃ (s : State) (id q n : Nat) (r : HostRead), s.runs .host = true ∧ s.readOf id = some r ∧ r.use = .poll q n ∧ r.want = [] ∧ r.out = 1) ∧
    (∃ (s : State) (id : Nat) (r : HostRead), s.runs .host = true ∧ s.readOf id = some r ∧ ((∀ x ∈ s.host.reads, x.want = [])) ∧ r.out = 1 ∧ ((∀ q n, r.use ≠ .poll q n)) ∧ r.use ≠ .keys ∧ ((∀ a ∈ s.ham.granted, r.use = .burst a.id → a.op = none))) ∧
    (∃ (s : State) (id b : Nat) (r : HostRead), s.runs .host = true ∧ s.readOf id = some r ∧ r.want = [] ∧ r.out = 1 ∧ r.use = .burst b ∧ ((∃ a ∈ s.ham.granted, a.id = b)) ∧ ((∀ a ∈ s.ham.granted, a.id = b → a.op ≠ none)) ∧ ((∀ a ∈ s.ham.bursts, a.id ≠ b)) ∧ b < s.nextId ∧ id < s.host.nextRead) ∧
    (∃ (s : State) (id : Nat) (r : HostRead) (b : List Byte) (ok : Bool), s.runs .host = true ∧ s.readOf id = some r ∧ r.want = [] ∧ r.out = 1 ∧ r.use = .keys ∧ s.keys.wait = some (b, ok)) ∧
    (∃ (s : State) (id q n : Nat) (r : HostRead) (w : WqSt), s.runs .host = true ∧ s.readOf id = some r ∧ r.use = .poll q n ∧ s.wq r.f q = some w) ∧
    (∃ (s : State) (id : Nat) (r : HostRead), s.runs .host = true ∧ s.readOf id = some r ∧ ((∀ q n, r.use ≠ .poll q n))) ∧
    (∃ (s : State) (id q n : Nat) (r : HostRead) (w : WqSt), s.readOf id = some r ∧ r.use = .poll q n ∧ s.wq r.f q = some w) ∧
    (∃ (s : State) (id : Nat) (r : HostRead), s.readOf id = some r ∧ ((∀ q n, r.use ≠ .poll q n))) ∧
    (∃ (s : State) (id : Nat), s.readOf id = none) :=
  ⟨⟨withFunc V 3 (fun x => { x with dstate := .d3 }), 3, 0, 0x40, 4, none, false, by decide +kernel⟩,
   ⟨V, 5, 7, by refine ⟨?_, ?_, ?_, ?_, (by unfold State.grants State.takes; decide +kernel)⟩ <;> decide +kernel⟩,
   ⟨V, 5, 0, 0x1080, 4, 9, .mbx 5, 0x80, by decide +kernel⟩,
   ⟨msixS V 5 3 [], 5, 0, 0x2038, 77, 3, by decide +kernel⟩,
   ⟨msixS V 5 3 [2], 5, 0, 0x2030, 0x123456789ABCDEF3, 3, by decide +kernel⟩,
   ⟨msixS V 0 3 [3], 0, 2, 0x3C, 0, 3, by decide +kernel⟩,
   ⟨Q, 0, 4, 0, 4, 2, 0, by decide +kernel⟩,
   ⟨Q, 0, 4, 8, 4, 2, 0, by decide +kernel⟩,
   ⟨Q, 0, 4, 4, 4, 2, 4, by decide +kernel⟩,
   ⟨put V [(.hwin, 0x40, 0x80000014)], 0, 0, 0x1004, 4, 2, 4, by decide +kernel⟩,
   ⟨V, 5, 0, 0x3000, 4, 2, 0, by decide +kernel⟩,
   ⟨withFunc V 5 (fun x => { x with inReset := true }), 5, 0, 0x58, 4, 1, by decide +kernel, by decide +kernel, by decide +kernel, notBell _ (by decide +kernel)⟩,
   ⟨V, 5, 0x58, by refine ⟨?_, ?_, ?_, ?_, ?_, ?_, ?_, (by unfold State.takes; decide +kernel)⟩ <;> decide +kernel⟩,
   ⟨V, 5, 0, 0x22, 4, false, .func 5, 0x22, by decide +kernel⟩,
   ⟨msixS V 5 3 [3], 5, 0, 0x2030, 8, 0x30, false, (msixS V 5 3 [3]).msixBytes 5 0x30 8, by decide +kernel⟩,
   ⟨put V [(.hwin, 0x40, 0x80000030)], 0, 0, 0x200, 8, 0x200, false, by refine ⟨?_, ?_, ?_, ?_, (by unfold State.takes; decide +kernel)⟩ <;> decide +kernel⟩,
   ⟨withFunc V 5 (fun x => { x with inReset := true }), 5, 0, 0x58, 4, false, by decide +kernel⟩,
   ⟨put V [(.hwin, 0x44, 0)], 0, 0, 0x100040, 4, 7, by decide +kernel⟩,
   ⟨V, 2, 0, 0x10040, 4, false, by decide +kernel⟩,
   ⟨V, 5, 0, 0x58, 4, 1, by decide +kernel⟩,
   ⟨isle V .host (fun x => { x with mode := .retain }), 9, true, by decide +kernel⟩,
   ⟨V, 9, false, by decide +kernel⟩,
   ⟨withReads V [rd 9 0 .table [] 2], 9, rd 9 0 .table [] 2, by decide +kernel⟩,
   ⟨withReads V [rd 9 0 .table [(0x1000, 64), (0x2000, 64)] 1], 9, rd 9 0 .table [(0x1000, 64), (0x2000, 64)] 1, 0x1000, 64, [(0x2000, 64)], by decide +kernel⟩,
   ⟨withReads Q [rd 9 0 (.poll 0 2) [] 1], 9, 0, 2, rd 9 0 (.poll 0 2) [] 1, by decide +kernel⟩,
   ⟨withReads V [rd 9 0 .table [] 1, rd 10 0 .shadow [] 3], 9, rd 9 0 .table [] 1, by refine ⟨?_, ?_, ?_, ?_, notPoll _ (by decide +kernel), ?_⟩ <;> decide +kernel⟩,
   ⟨granted (withReads (withConn (withOps V [{ op1 2 with work := [(0, 60)] }]) [(7, ctx1 3 13 0x8000 2 4096)]) [rd 9 0 (.burst 2) [] 1]) [r2tB], 9, 2, rd 9 0 (.burst 2) [] 1, by decide +kernel⟩,
   ⟨{ (withReads V [rd 9 0 .keys [] 1]) with keys := { V.keys with wait := some (keyPkg, true) } }, 9, rd 9 0 .keys [] 1, keyPkg, true, by decide +kernel⟩,
   ⟨withReads (Q.setWq 0 0 (some { wq0 with tail := 2, reading := some 2 })) [rd 9 0 (.poll 0 2) [] 1], 9, 0, 2, rd 9 0 (.poll 0 2) [] 1, { wq0 with tail := 2, reading := some 2 }, by decide +kernel⟩,
   ⟨granted (withReads (withConn (withOps V [{ op1 2 with work := [(0, 60)] }]) [(7, ctx1 3 13 0x8000 2 4096)]) [rd 9 0 (.burst 2) [(4096, 64)] 1]) [r2tB], 9, rd 9 0 (.burst 2) [(4096, 64)] 1, by decide +kernel, by decide +kernel, notPoll _ (by decide +kernel)⟩,
   ⟨withReads (Q.setWq 0 0 (some { wq0 with tail := 2, reading := some 2 })) [rd 9 0 (.poll 0 2) [] 1], 9, 0, 2, rd 9 0 (.poll 0 2) [] 1, { wq0 with tail := 2, reading := some 2 }, by decide +kernel⟩,
   ⟨withReads V [rd 9 0 (.program 2) [(4096, 64)] 3], 9, rd 9 0 (.program 2) [(4096, 64)] 3, by decide +kernel, notPoll _ (by decide +kernel)⟩,
   ⟨V, 9, by decide +kernel⟩⟩

/-- States and operands that meet the hypotheses of each clause of `QueuesAreEnabledAndRungByDoorbells`. -/
theorem witness_QueuesAreEnabledAndRungByDoorbells :
    (∃ (s : State) (f : Fin 1024) (m : Master) (rivals : List Req), s.grants (.func f) 0x114 m (bit 0) rivals ∧ bitOn (s.reg (.func f) 0x100) 15 = false ∧ s.field (.func f) 0x100 7 0 < (s.func f.val).asg.wqCount ∧ s.field (.func f) 0x10C 3 0 ≤ 10 ∧ (s.cq f.val (s.field (.func f) 0x10C 15 8)).isSome = true ∧ bitOn (s.reg (.func f) 0x10C) 6 = false ∧ s.wq f.val (s.field (.func f) 0x100 7 0) = none) ∧
    (∃ (s : State) (f : Fin 1024) (m : Master) (rivals : List Req), s.grants (.func f) 0x114 m (bit 0) rivals ∧ bitOn (s.reg (.func f) 0x100) 15 = true ∧ s.field (.func f) 0x100 7 0 < (s.func f.val).asg.cqCount ∧ s.field (.func f) 0x10C 3 0 ≤ 10 ∧ s.cq f.val (s.field (.func f) 0x100 7 0) = none) ∧
    (∃ (s : State) (f : Fin 1024) (m : Master) (rivals : List Req), s.grants (.func f) 0x114 m (bit 0) rivals ∧ bitOn (s.reg (.func f) 0x100) 15 = false ∧ (s.func f.val).asg.wqCount ≤ s.field (.func f) 0x100 7 0) ∧
    (∃ (s : State) (f : Fin 1024) (q : Fin 256) (width : Nat) (v : Word) (w : WqSt), s.barThere f.val = true ∧ (s.func f.val).dstate = .d0 ∧ (s.func f.val).inReset = false ∧ (width = 4 ∨ width = 8) ∧ s.wq f.val q.val = some w ∧ fld v 15 0 < w.size) ∧
    (∃ (s : State) (f : Fin 1024) (q : Fin 256) (width : Nat) (v : Word) (w : WqSt), s.barThere f.val = true ∧ (s.func f.val).dstate = .d0 ∧ s.wq f.val q.val = some w ∧ w.size ≤ fld v 15 0) ∧
    (∃ (s : State) (f : Fin 1024) (q : Fin 256) (width : Nat) (v : Word) (c : CqSt), s.barThere f.val = true ∧ (s.func f.val).dstate = .d0 ∧ (s.func f.val).inReset = false ∧ (width = 4 ∨ width = 8) ∧ s.cq f.val q.val = some c ∧ fld v 15 0 < c.size) :=
  ⟨⟨put (V.setCq 0 0 (some cq0)) [(.func 0, 0x104, 0x30000), (.func 0, 0x10C, 0)], 0, .pf0, [], by unfold State.grants State.takes; decide +kernel, by decide +kernel⟩,
   ⟨put V [(.func 0, 0x100, 0x8000), (.func 0, 0x104, 0x30000), (.func 0, 0x10C, 0xA)], 0, .pf0, [], by unfold State.grants State.takes; decide +kernel, by decide +kernel⟩,
   ⟨put V [(.func 5, 0x100, 0xFF)], 5, .pf0, [], by unfold State.grants State.takes; decide +kernel, by decide +kernel⟩,
   ⟨Q, 0, 0, 4, 15, { wq0 with tail := 1, fetch := 1, items := [item0] }, by decide +kernel⟩,
   ⟨Q, 0, 0, 4, 16, { wq0 with tail := 1, fetch := 1, items := [item0] }, by decide +kernel⟩,
   ⟨Q.setCq 0 0 (some { cq0 with prod := 3 }), 0, 0, 4, 0x80000003, { cq0 with prod := 3 }, by decide +kernel⟩⟩

/-- States and operands that meet the hypotheses of each clause of `DescriptorsAreFetchedAndTaken`. -/
theorem witness_DescriptorsAreFetchedAndTaken :
    (∃ (s : State) (f : Fin 1024) (q : Fin 256) (w : WqSt) (n : Nat), s.wq f.val q.val = some w ∧ s.pollable f.val w = true ∧ s.hasTurn f.val q.val = true ∧ n = min (8192 - (s.itemsInFlight + s.pollsOut)) (min 32 (if w.spec then 32 else w.ahead)) ∧ 0 < n ∧ ((∀ r ∈ s.host.reads, r.id ≠ s.host.nextRead))) ∧
    (∃ (s : State) (f : Fin 1024) (q : Fin 256) (w : WqSt), s.wq f.val q.val = some w ∧ s.pollable f.val w = true ∧ s.hasTurn f.val q.val = false) ∧
    (∃ (s : State) (f : Fin 1024) (q : Fin 256) (w : WqSt), s.wq f.val q.val = some w ∧ s.pollable f.val w = true ∧ s.hasTurn f.val q.val = true ∧ w.spec = false ∧ w.ahead = 0) ∧
    (∃ (s : State) (id q n : Nat) (descs : List (List Byte)) (r : HostRead) (w : WqSt), s.host.reads.find? (fun r => r.id = id) = some r ∧ r.use = .poll q n ∧ r.want = [] ∧ r.out = 1 ∧ s.wq r.f q = some w ∧ descs.length = n ∧ s.runs .host = true ∧ w.kind = 0 ∧ w.aborting = false) :=
  ⟨⟨queue Q { wq0 with tail := 3, pend := true }, 0, 0, { wq0 with tail := 3, pend := true }, 3, by decide +kernel⟩,
   ⟨(queue Q { wq0 with tail := 3, pend := true }).setWq 0 1 (some { wq0 with tail := 3, pend := true }), 0, 1, { wq0 with tail := 3, pend := true }, by decide +kernel⟩,
   ⟨queue Q { wq0 with pend := true }, 0, 0, { wq0 with pend := true }, by decide +kernel⟩,
   ⟨withReads (queue Q { wq0 with tail := 1, reading := some 9 }) [rd 9 0 (.poll 0 1) [] 1], 9, 0, 1, [[0x80, 0, 0, 0, 0, 0, 0x40, 0, 0, 0x10, 0, 0, 0, 0, 0, 0, 0, 0, 0, 0, 0, 0, 0, 0, 0, 0, 0, 0, 0, 0, 0, 1]], rd 9 0 (.poll 0 1) [] 1, { wq0 with tail := 1, reading := some 9 }, by decide +kernel⟩⟩

/-- States and operands that meet the hypotheses of each clause of `FramesAreSentAndEntriesWritten`. -/
theorem witness_FramesAreSentAndEntriesWritten :
    (∃ (s : State) (f : Fin 1024) (q : Fin 256) (data : List Byte) (w : WqSt) (run : List Item) (e : Item) (b : Burst), s.wq f.val q.val = some w ∧ w.kind = 0 ∧ s.funcReports f.val = true ∧ w.nextRun (fun _ => true) = some run ∧ lastOf run = some e ∧ txFault run = none ∧ s.grantOf f.val q.val e.idx = some b ∧ s.reading (.burst b.id) = false ∧ data.length = lenOf run) ∧
    (∃ (s : State) (f : Fin 1024) (q : Fin 256) (data : List Byte) (w : WqSt) (run : List Item) (e : Item), s.wq f.val q.val = some w ∧ w.kind = 0 ∧ s.funcRuns f.val = true ∧ w.nextRun (fun _ => true) = some run ∧ lastOf run = some e ∧ txFault run = none ∧ s.grantOf f.val q.val e.idx = none ∧ s.ham.bursts = [] ∧ 0 < bufCells (bufsOf run) ∧ bufCells (bufsOf run) ≤ 64 ∧ s.admits (funcChan f.val 0) (bufCells (bufsOf run)) = true) ∧
    (∃ (s : State) (f : Fin 1024) (q : Fin 256) (data : List Byte) (w : WqSt) (run : List Item) (e : Item) (st : Nat), s.wq f.val q.val = some w ∧ w.kind = 0 ∧ s.funcReports f.val = true ∧ w.nextRun (fun _ => true) = some run ∧ lastOf run = some e ∧ txFault run = some st) ∧
    (∃ (s : State) (f : Fin 1024) (q : Fin 256) (w : WqSt) (before : List Item) (n : Item), s.wq f.val q.val = some w ∧ s.funcReports f.val = true ∧ w.kind < 2 ∧ firstNop [] w.items = some (before, n) ∧ mayStart (w.items.takeWhile (fun i => decide (i.idx ≠ n.idx))) [n] = true) ∧
    (∃ (s : State) (f : Fin 1024) (q : Fin 256) (w : WqSt) (before : List Item) (n e : Item), s.wq f.val q.val = some w ∧ s.funcReports f.val = true ∧ 2 ≤ w.kind ∧ firstNop [] w.items = some (before, n) ∧ lastOf (openAt [] [] before).2 = some e ∧ mayStart (openAt [] [] before).1 (openAt [] [] before).2 = true) ∧
    (∃ (s : State) (f : Fin 1024) (q : Fin 256) (w : WqSt) (c : CqSt) (skip n : Nat) (i : Item), s.funcReports f.val = true ∧ s.wq f.val q.val = some w ∧ s.cq f.val w.cq = some c ∧ w.reportable = some (skip, n) ∧ (c.prod + 1) % c.size ≠ c.head ∧ (w.items.drop skip)[n - 1]? = some i ∧ c.base % 4096 = 0 ∧ 128 ≤ (s.func f.val).cfg.maxPayload) ∧
    (∃ (s : State) (f : Fin 1024) (q : Fin 256) (w : WqSt) (c : CqSt), s.wq f.val q.val = some w ∧ s.cq f.val w.cq = some c ∧ (c.prod + 1) % c.size = c.head) :=
  ⟨⟨granted Q [txB], 0, 0, eth 5 [0x08, 0x00] 50, { wq0 with tail := 1, fetch := 1, items := [item0] }, [item0], item0, txB, by decide +kernel⟩,
   ⟨Q, 0, 0, [], { wq0 with tail := 1, fetch := 1, items := [item0] }, [item0], item0, by decide +kernel⟩,
   ⟨queue Q { wq0 with tail := 1, fetch := 1, items := [{ item0 with len := 0 }] }, 0, 0, [], { wq0 with tail := 1, fetch := 1, items := [{ item0 with len := 0 }] }, [{ item0 with len := 0 }], { item0 with len := 0 }, 5, by decide +kernel⟩,
   ⟨queue Q { wq0 with tail := 1, fetch := 1, items := [{ item0 with kind := 31 }] }, 0, 0, { wq0 with tail := 1, fetch := 1, items := [{ item0 with kind := 31 }] }, [], { item0 with kind := 31 }, by decide +kernel⟩,
   ⟨queue Q nopWq, 0, 0, nopWq, [cryItem 0 0 12 false 1], { item0 with idx := 1, kind := 31 }, cryItem 0 0 12 false 1, by decide +kernel⟩,
   ⟨queue Q { wq0 with tail := 1, fetch := 1, items := [{ item0 with fin := some 0 }] }, 0, 0, { wq0 with tail := 1, fetch := 1, items := [{ item0 with fin := some 0 }] }, cq0, 0, 1, { item0 with fin := some 0 }, by decide +kernel⟩,
   ⟨Q.setCq 0 0 (some { cq0 with prod := 15 }), 0, 0, { wq0 with tail := 1, fetch := 1, items := [item0] }, { cq0 with prod := 15 }, by decide +kernel⟩⟩

/-- States and operands that meet the hypotheses of each clause of `ReceiveQueuesTakeFrames`. -/
theorem witness_ReceiveQueuesTakeFrames :
    (∃ (s : State) (f : Fin 1024) (q : Fin 256) (w : WqSt) (x : Frame) (l : List Item), s.wq f.val q.val = some w ∧ s.rxHead f.val q.val = some x ∧ s.funcReports f.val = true ∧ x.espPending = false ∧ x.bad = false ∧ w.rxFit x = some l ∧ x.func = false) ∧
    (∃ (s : State) (f : Fin 1024) (q : Fin 256) (w : WqSt) (x : Frame), s.wq f.val q.val = some w ∧ s.rxHead f.val q.val = some x ∧ s.funcReports f.val = true ∧ x.espPending = false ∧ x.bad = true ∧ x.func = false) ∧
    (∃ (s : State) (f : Fin 1024) (q : Fin 256) (w : WqSt) (x : Frame), s.wq f.val q.val = some w ∧ s.rxHead f.val q.val = some x ∧ w.rxFit x = none) :=
  ⟨⟨withFrames (queue Q { wq0 with kind := 1, tail := 1, fetch := 1, items := [{ item0 with kind := 4, len := 128 }] }) [{ frame0 with loc := .rxq 0 0, part := .chan 257 }] [(257, 1)], 0, 0, { wq0 with kind := 1, tail := 1, fetch := 1, items := [{ item0 with kind := 4, len := 128 }] }, { frame0 with loc := .rxq 0 0, part := .chan 257 }, [{ item0 with kind := 4, len := 128 }], by decide +kernel⟩,
   ⟨withFrames (queue Q { wq0 with kind := 1, tail := 1, fetch := 1, items := [{ item0 with kind := 4, len := 128 }] }) [{ frame0 with loc := .rxq 0 0, part := .chan 257, bad := true }] [(257, 1)], 0, 0, { wq0 with kind := 1, tail := 1, fetch := 1, items := [{ item0 with kind := 4, len := 128 }] }, { frame0 with loc := .rxq 0 0, part := .chan 257, bad := true }, by decide +kernel⟩,
   ⟨withFrames (queue Q { wq0 with kind := 1 }) [{ frame0 with loc := .rxq 0 0, part := .chan 257 }] [(257, 1)], 0, 0, { wq0 with kind := 1 }, { frame0 with loc := .rxq 0 0, part := .chan 257 }, by decide +kernel⟩⟩

/-- States and operands that meet the hypotheses of each clause of `HamperGrantsMovesAndReleasesCells`. -/
theorem witness_HamperGrantsMovesAndReleasesCells :
    (∃ (s : State) (f : Fin 1024) (q : Fin 256) (idx cells k : Nat) (w : WqSt) (run : List Item) (bufs : List (Nat × Nat)), s.wq f.val q.val = some w ∧ s.funcRuns f.val = true ∧ w.runAt idx = some run ∧ s.runReads f.val w.kind run = some bufs ∧ cells = bufCells bufs ∧ burstClass w.kind = some k ∧ 0 < cells ∧ cells ≤ 64 ∧ s.grantOf f.val q.val idx = none ∧ s.ham.bursts = [] ∧ s.admits (funcChan f.val (chanClass w.kind)) cells = true) ∧
    (∃ (s : State) (f : Fin 1024) (q : Fin 256) (idx cells k : Nat) (w : WqSt) (run : List Item) (bufs : List (Nat × Nat)), s.wq f.val q.val = some w ∧ s.funcRuns f.val = true ∧ w.runAt idx = some run ∧ s.runReads f.val w.kind run = some bufs ∧ cells = bufCells bufs ∧ burstClass w.kind = some k ∧ 0 < cells ∧ cells ≤ 64 ∧ s.grantOf f.val q.val idx = none ∧ s.ham.bursts = [] ∧ s.admits (funcChan f.val (chanClass w.kind)) cells = false) ∧
    (∃ (s : State) (id : Nat), s.ham.bursts.any (fun a => a.id = id && !a.aged) = true) ∧
    (∃ (s : State) (id c chan : Nat) (x : Frame), s.frame id = some x ∧ x.cells ≠ 0 ∧ x.part = .chan c ∧ c ≠ chan ∧ chan < 19 ∧ ((∀ y ∈ s.frames, y.id = id → y = x)) ∧ (s.giveBack (.chan c) x.cells).admits chan x.cells = true) ∧
    (∃ (s : State) (id c chan : Nat) (x : Frame), s.frame id = some x ∧ x.cells ≠ 0 ∧ x.part = .chan c ∧ c ≠ chan ∧ chan < 19 ∧ (s.giveBack (.chan c) x.cells).admits chan x.cells = false) ∧
    (∃ (s : State) (id : Nat) (x : Frame), s.frame id = some x ∧ x.loc = .mgtIn ∧ x.part = .mgt ∧ x.func = false ∧ x.cells ≠ 0 ∧ s.frames.find? (fun y => decide (y.id ≠ id) && decide (y.group = x.group)) = none) ∧
    (∃ (s : State) (i : Fin 19) (m : Master) (v : Word) (rivals : List Req), s.grants .ham (0x100 + 8 * i.val) m v rivals ∧ (s.setReg .ham (0x100 + 8 * i.val) v).minsFit = true) ∧
    (∃ (s : State) (i : Fin 19) (m : Master) (v : Word) (rivals : List Req), s.grants .ham (0x100 + 8 * i.val) m v rivals ∧ (s.setReg .ham (0x100 + 8 * i.val) v).minsFit = false) :=
  ⟨⟨Q, 0, 0, 0, bufCells [(0x40000, 64)], 0, { wq0 with tail := 1, fetch := 1, items := [item0] }, [item0], [(0x40000, 64)], by decide +kernel⟩,
   ⟨{ Q with ham := { Q.ham with held := [(0, 122100)] } }, 0, 0, 0, bufCells [(0x40000, 64)], 0, { wq0 with tail := 1, fetch := 1, items := [item0] }, [item0], [(0x40000, 64)], by decide +kernel⟩,
   ⟨{ Q with ham := { Q.ham with bursts := [txB] } }, 1, by decide +kernel⟩,
   ⟨withFrames Q [frame0] [(0, 1)], 1, 0, 18, frame0, by decide +kernel⟩,
   ⟨put (withFrames Q [frame0] [(0, 1), (3, 61055)]) [], 1, 0, 3, frame0, by decide +kernel⟩,
   ⟨{ Q with frames := [{ frame0 with loc := .mgtIn, part := .mgt }], ham := { Q.ham with mgt := 1 } }, 1, { frame0 with loc := .mgtIn, part := .mgt }, by decide +kernel⟩,
   ⟨Q, 18, .pf0, 0x00100008, [], by unfold State.grants State.takes; decide +kernel, by decide +kernel⟩,
   ⟨Q, 18, .pf0, 0xFFFFFFFF, [], by unfold State.grants State.takes; decide +kernel, by decide +kernel⟩⟩

/-- States and operands that meet the hypotheses of each clause of `FramesArriveAtPorts`. -/
theorem witness_FramesArriveAtPorts :
    (∃ (s : State) (p : Fin 4) (head : List Byte), s.linkUp p.val = true ∧ s.runs (Page.port p).island = true ∧ s.runs .fab = true ∧ head.length < 64) ∧
    (∃ (s : State) (p : Fin 4) (head : List Byte) (whole : Bool) (k : Nat), s.linkUp p.val = true ∧ s.runs (Page.port p).island = true ∧ s.runs .fab = true ∧ 64 ≤ head.length ∧ beAt head 12 2 ≠ 0x8808 ∧ s.reserveOf p.val head = none ∧ s.mcastOk p.val head = true ∧ s.steer p.val head = some k ∧ s.clusterTakes (s.classCluster p.val k) = true ∧ s.admits (2 * p.val) (cellsOf (s.maxFrame p.val)) = true) ∧
    (∃ (s : State) (p : Fin 4) (head : List Byte) (whole : Bool) (k : Nat), s.linkUp p.val = true ∧ s.runs (Page.port p).island = true ∧ s.runs .fab = true ∧ 64 ≤ head.length ∧ beAt head 12 2 ≠ 0x8808 ∧ s.reserveOf p.val head = none ∧ s.mcastOk p.val head = true ∧ s.steer p.val head = some k ∧ s.clusterTakes (s.classCluster p.val k) = true ∧ s.admits (2 * p.val) (cellsOf (s.maxFrame p.val)) = false) ∧
    (∃ (s : State) (p : Fin 4) (head : List Byte) (whole : Bool), s.linkUp p.val = true ∧ s.runs (Page.port p).island = true ∧ s.runs .fab = true ∧ 64 ≤ head.length ∧ beAt head 12 2 ≠ 0x8808 ∧ s.reserveOf p.val head = none ∧ s.mcastOk p.val head = false) ∧
    (∃ (s : State) (p : Fin 4) (head : List Byte) (whole : Bool), s.linkUp p.val = true ∧ s.runs (Page.port p).island = true ∧ s.runs .fab = true ∧ 64 ≤ head.length ∧ beAt head 12 2 ≠ 0x8808 ∧ s.reserveOf p.val head = none ∧ s.mcastOk p.val head = true ∧ s.steer p.val head = none) ∧
    (∃ (s : State) (p : Fin 4) (head : List Byte) (whole : Bool) (k : Nat), s.linkUp p.val = true ∧ s.runs (Page.port p).island = true ∧ s.runs .fab = true ∧ 64 ≤ head.length ∧ beAt head 12 2 ≠ 0x8808 ∧ s.reserveOf p.val head = none ∧ s.mcastOk p.val head = true ∧ s.steer p.val head = some k ∧ s.clusterTakes (s.classCluster p.val k) = false) ∧
    (∃ (s : State) (id len p fec lost : Nat) (rest : List Byte) (fcsBad codeBad : Bool) (x : Frame) (l : Loc), s.frame id = some x ∧ ((∀ q, l ≠ .macsec q)) ∧ x.loc = .ingress p ∧ s.damage p ((bytesOf x.nonets ++ rest).take x.dest) len x.dest fcsBad codeBad = 0 ∧ s.routeIn { x with nonets := stitched (((bytesOf x.nonets ++ rest).take x.dest).take (((bytesOf x.nonets ++ rest).take x.dest).length - 4)) (boundaries (((bytesOf x.nonets ++ rest).take x.dest).take (((bytesOf x.nonets ++ rest).take x.dest).length - 4))), cells := cellsOf ((bytesOf x.nonets ++ rest).take x.dest).length, dest := 0 } p = some l) ∧
    (∃ (s : State) (id len p q fec lost : Nat) (rest : List Byte) (fcsBad codeBad : Bool) (x : Frame), s.frame id = some x ∧ x.loc = .ingress p ∧ s.damage p ((bytesOf x.nonets ++ rest).take x.dest) len x.dest fcsBad codeBad = 0 ∧ s.routeIn { x with nonets := stitched (((bytesOf x.nonets ++ rest).take x.dest).take (((bytesOf x.nonets ++ rest).take x.dest).length - 4)) (boundaries (((bytesOf x.nonets ++ rest).take x.dest).take (((bytesOf x.nonets ++ rest).take x.dest).length - 4))), cells := cellsOf ((bytesOf x.nonets ++ rest).take x.dest).length, dest := 0 } p = some (.macsec q) ∧ (bytesOf x.nonets ++ rest).take x.dest ≠ [] ∧ x.part.reserve = false) ∧
    (∃ (s : State) (id len p fec lost d : Nat) (rest : List Byte) (fcsBad codeBad : Bool) (x : Frame), s.frame id = some x ∧ x.loc = .ingress p ∧ d = s.damage p ((bytesOf x.nonets ++ rest).take x.dest) len x.dest fcsBad codeBad ∧ d ≠ 0 ∧ x.part.reserve = false ∧ d &&& s.field (portPage p) 0x50 4 0 = d ∧ s.rxOpen (s.field (portPage p) 0x50 31 22) (s.field (portPage p) 0x50 21 14) = true) ∧
    (∃ (s : State) (id len p fec lost : Nat) (rest : List Byte) (codeBad : Bool) (x : Frame), s.frame id = some x ∧ x.func = false ∧ x.loc = .ingress p ∧ bitOn (s.reg (portPage p) 0x50) 0 = false) :=
  ⟨⟨P, 0, eth 5 [0x08, 0x00] 20, by decide +kernel⟩,
   ⟨P, 0, eth 5 [0x08, 0x00] 60, false, 0, by decide +kernel⟩,
   ⟨{ P with ham := { P.ham with held := [(0, 122100)] } }, 0, eth 5 [0x08, 0x00] 60, false, 0, by decide +kernel⟩,
   ⟨put P [(.port 0, 0x54, 0)], 0, [1, 0, 0x5E, 0, 0, 1, 2, 0, 0, 0, 0, 5, 8, 0] ++ List.replicate 60 0, false, by decide +kernel⟩,
   ⟨put P [(.port 0, 0x800, 0xC1000000), (.port 0, 0x804, 0x800)], 0, eth 5 [0x08, 0x00] 60, false, by decide +kernel⟩,
   ⟨{ P with nyate := { P.nyate with clusters := [(0, { (P.cluster 0) with halt := 1 })] } }, 0, eth 5 [0x08, 0x00] 60, false, 0, by decide +kernel⟩,
   ⟨withFrames P [{ frame0 with dest := 1518, cells := 6 }] [(0, 6)], 1, 600, 0, 3, 1, List.replicate 536 1, false, false, { frame0 with dest := 1518, cells := 6 }, .dispatch 0 0, by decide +kernel, notMacsec _ (by decide +kernel), by decide +kernel⟩,
   ⟨withFrames (put P [(.cry, 0x48, 0xA)]) [{ frame0 with dest := 1518, cells := 6, nonets := stitched (secFr.take 64) [], loc := .ingress 2, part := .chan 4 }] [(4, 6)], 1, 600, 2, 2, 0, 0, List.replicate 536 1, false, false, { frame0 with dest := 1518, cells := 6, nonets := stitched (secFr.take 64) [], loc := .ingress 2, part := .chan 4 }, by decide +kernel⟩,
   ⟨withFrames (put (queue Q { wq0 with kind := 1 }) [(.port 0, 0x40, 1), (.port 0, 0x48, 0xC), (.port 0, 0x50, 0x1F)]) [{ frame0 with dest := 1518, cells := 6 }] [(0, 6)], 1, 600, 0, 0, 0, 1, List.replicate 536 1, true, false, { frame0 with dest := 1518, cells := 6 }, by decide +kernel⟩,
   ⟨withFrames P [{ frame0 with dest := 1518, cells := 6 }] [(0, 6)], 1, 600, 0, 0, 0, List.replicate 536 1, false, { frame0 with dest := 1518, cells := 6 }, by decide +kernel⟩⟩

/-- States and operands that meet the hypotheses of each clause of `PortSettingsAndLinks`. -/
theorem witness_PortSettingsAndLinks :
    (∃ (s : State) (p : Fin 4) (m : Master) (v : Word) (rivals : List Req), s.grants (.port p) 0x40 m v rivals ∧ speedOffered p.val (fld v 3 0) = true ∧ fecAllowed (fld v 3 0) (fld v 5 4) = true) ∧
    (∃ (s : State) (p : Fin 4) (m : Master) (v : Word) (rivals : List Req), s.grants (.port p) 0x40 m v rivals ∧ (speedOffered p.val (fld v 3 0) = false ∨ fecAllowed (fld v 3 0) (fld v 5 4) = false)) ∧
    (∃ (s : State) (p : Fin 4) (m : Master) (rivals : List Req), s.grants (.port p) 0x4C m (bit 0) rivals) ∧
    (∃ (s : State) (p : Fin 4) (r : Fin 256) (m : Master) (v : Word) (rivals : List Req), s.grants (.port p) (0x804 + 8 * r.val) m v rivals) ∧
    (∃ (s : State) (p : Fin 4) (r : Fin 256) (m : Master) (v b : Word) (rivals : List Req), s.grants (.port p) (0x800 + 8 * r.val) m v rivals ∧ Sparse.find (s.port p.val).wordB r.val = some b) ∧
    (∃ (s : State) (p : Fin 4) (m : Master) (v : Word) (r : Fin 256) (rivals : List Req), s.grants (.port p) (0x800 + 8 * r.val) m v rivals ∧ Sparse.find (s.port p.val).wordB r.val = none) ∧
    (∃ (s : State) (p : Fin 4) (present fault : Bool) (sff : BitVec 8) (ident : List Byte), bitOn (s.reg (.port p) 0x48) 3 ≠ present) ∧
    (∃ (s : State) (p : Fin 4) (lock lf rf : Bool), (p.val < 2 ∨ bitOn (s.reg .isl 0x68) 16 = false) ∧ s.runs (Page.port p).island = true) :=
  ⟨⟨P, 0, .pf0, 0x13, [], by unfold State.grants State.takes; decide +kernel, by decide +kernel⟩,
   ⟨P, 0, .pf0, 0x14, [], by unfold State.grants State.takes; decide +kernel, by decide +kernel⟩,
   ⟨P, 2, .pf0, [], by unfold State.grants State.takes; decide +kernel⟩,
   ⟨P, 2, 255, .pf0, 0xFFFFFFFF, [], by unfold State.grants State.takes; decide +kernel⟩,
   ⟨withPort P 2 (fun x => { x with wordB := [(255, 7), (3, 9)] }), 2, 255, .pf0, 0xFFFFFFFF, 7, [], by unfold State.grants State.takes; decide +kernel, by decide +kernel⟩,
   ⟨P, 2, .pf0, 0xFFFFFFFF, 0, [], by unfold State.grants State.takes; decide +kernel, by decide +kernel⟩,
   ⟨V, 1, true, true, 0x51, List.replicate 48 0x41, by decide +kernel⟩,
   ⟨P, 0, true, false, true, by decide +kernel⟩⟩

/-- States and operands that meet the hypotheses of each clause of `PauseFramesStopAndStartTransmission`. -/
theorem witness_PauseFramesStopAndStartTransmission :
    (∃ (s : State) (p : Fin 4) (k : Fin 8) (n : BitVec 16), s.linkUp p.val = true ∧ s.stormIgnoring p.val = false ∧ s.obeys p.val false = true) ∧
    (∃ (s : State) (p : Fin 4) (k : Fin 8) (n : BitVec 16), s.linkUp p.val = true ∧ s.stormIgnoring p.val = false ∧ s.obeys p.val true = true ∧ nbit (s.field (.port p) 0x58 15 8) k.val = true) ∧
    (∃ (s : State) (p : Fin 4) (times : List (Fin 8 × BitVec 16)), s.linkUp p.val = true ∧ s.stormIgnoring p.val = true) ∧
    (∃ (s : State) (p : Fin 4) (k : Fin 9), s.pauses p.val k.val = true ∧ k.val ∉ (s.port p.val).xoff ∧ s.field (.port p) 0x5C 31 16 ≤ s.pauseCells p.val k.val) ∧
    (∃ (s : State) (p : Fin 4) (k : Fin 9), s.pauses p.val k.val = true ∧ k.val ∈ (s.port p.val).xoff ∧ s.field (.port p) 0x58 31 16 ≠ 0 ∧ s.field (.port p) 0x5C 31 16 ≤ s.pauseCells p.val k.val) ∧
    (∃ (s : State) (p : Fin 4) (k : Fin 9), s.pauses p.val k.val = true ∧ k.val ∈ (s.port p.val).xoff ∧ s.pauseCells p.val k.val ≤ s.field (.port p) 0x5C 15 0) ∧
    (∃ (s : State) (p : Fin 4), ((∀ k ∈ (s.port p.val).standing, k ∈ (s.port p.val).stormed))) ∧
    (∃ (s : State) (p : Fin 4) (k : Nat), (s.port p.val).standing.find? (fun j => !(s.port p.val).stormed.contains j) = some k) :=
  ⟨⟨put P [(.ring, 0x40, 0), (.port 0, 0x58, 0x5)], 0, 3, 7, by decide +kernel⟩,
   ⟨put P [(.port 2, 0x58, 0x8006)], 2, 7, 7, by decide +kernel⟩,
   ⟨put P [(.port 2, 0x58, 0x8006), (.port 2, 0x48, 0x8C)], 2, [(0, 3)], by decide +kernel⟩,
   ⟨put (withFrames P [frame0] [(0, 1)]) [(.ring, 0x40, 0), (.port 0, 0x58, 0xFFFF0009), (.port 0, 0x5C, 0x10000)], 0, 8, by decide +kernel⟩,
   ⟨withPort (put (withFrames P [frame0] [(0, 1)]) [(.ring, 0x40, 0), (.port 0, 0x58, 0xFFFF0009), (.port 0, 0x5C, 0x10000)]) 0 (fun x => { x with xoff := [8] }), 0, 8, by decide +kernel⟩,
   ⟨withPort (put (withFrames P [frame0] [(0, 1)]) [(.ring, 0x40, 0), (.port 0, 0x58, 0xFFFF0009), (.port 0, 0x5C, 0x10001)]) 0 (fun x => { x with xoff := [8] }), 0, 8, by decide +kernel⟩,
   ⟨withPort P 0 (fun x => { x with standing := [3], stormed := [3] }), 0, by decide +kernel⟩,
   ⟨withPort (put P [(.ring, 0x40, 0), (.port 0, 0x58, 0x10)]) 0 (fun x => { x with timers := [3], standing := [8, 3], stormed := [8] }), 0, 3, by decide +kernel⟩⟩

/-- States and operands that meet the hypotheses of each clause of `PrecisionTime`. -/
theorem witness_PrecisionTime :
    (∃ (s : State) (m : Master) (v : Word) (rivals : List Req), s.grants .ptp 0x40 m v rivals ∧ fld v 1 0 ≠ 3) ∧
    (∃ (s : State) (m : Master) (v : Word) (rivals : List Req), s.grants .ptp 0x40 m v rivals ∧ fld v 1 0 = 3) ∧
    (∃ (s : State) (m : Master) (v : Word) (rivals : List Req), s.grants .ptp 0x5C m v rivals ∧ s.ptpClock = 0) ∧
    (∃ (s : State) (m : Master) (v : Word) (rivals : List Req), s.grants .ptp 0x5C m v rivals ∧ s.ptpClock ≠ 0) ∧
    (∃ (s : State) (p role : Fin 4) (offset : Int), s.ptpClock = 0) ∧
    (∃ (s : State) (p : Fin 4) (offset : Int), s.ptpClock ≠ 0 ∧ s.ptpPort p.val = true ∧ offset.natAbs ≤ 1000000) ∧
    (∃ (s : State) (p : Fin 4) (offset : Int), s.ptpClock ≠ 0 ∧ s.ptpPort p.val = true ∧ 1000000 < offset.natAbs) ∧
    (∃ s : State, s.ptpClock ≠ 0 ∧ s.hasSlave = true ∧ s.field .ptp 0x44 1 0 ≠ 3) ∧
    (∃ (s : State) (m : Master), s.takes (Page.island .ptp) ∧ s.reaches .ptp m = true ∧ bitOn (s.reg .ptp 0x08) 1 = false) ∧
    (∃ (s : State) (m : Master) (rivals : List Req), s.grants .ptp 0x80 m (bit 31) rivals) :=
  ⟨⟨P, .pf0, 0xFFFFFFF1, [], by unfold State.grants State.takes; decide +kernel, by decide +kernel⟩,
   ⟨P, .pf0, 3, [], by unfold State.grants State.takes; decide +kernel, by decide +kernel⟩,
   ⟨put P [(.ptp, 0x40, 0)], .pf0, 0x80000000, [], by unfold State.grants State.takes; decide +kernel, by decide +kernel⟩,
   ⟨put P [(.ptp, 0x40, 1)], .pf0, 700, [], by unfold State.grants State.takes; decide +kernel, by decide +kernel⟩,
   ⟨put P [(.ptp, 0x40, 0)], 0, 3, 5, by decide +kernel⟩,
   ⟨put P [(.ptp, 0x40, 0xF1)], 0, -1000000, by decide +kernel⟩,
   ⟨put P [(.ptp, 0x40, 0xF2)], 3, 1000001, by decide +kernel⟩,
   ⟨put P [(.ptp, 0x40, 0xF2), (.ptp, 0x44, 0x8002)], by decide +kernel⟩,
   ⟨{ P with ptp := { P.ptp with time := 1000000007 } }, .pf0, by unfold State.takes; decide +kernel, by decide +kernel⟩,
   ⟨P, .pf0, [], by unfold State.grants State.takes; decide +kernel⟩⟩

/-- States and operands that meet the hypotheses of each clause of `GateListsAndTheirSwaps`. -/
theorem witness_GateListsAndTheirSwaps :
    (∃ (s : State) (p : Fin 4), s.runs .fab = true ∧ (s.gate p.val).safOn = false) ∧
    (∃ (s : State) (p : Fin 4) (m : Master) (rivals : List Req), s.grants (.gate p) 0x68 m (bit 0) rivals ∧ (s.gate p.val).armed = none ∧ s.ptp.time + 1000 ≤ (s.gate p.val).pend.base) ∧
    (∃ (s : State) (p : Fin 4) (m : Master) (rivals : List Req), s.grants (.gate p) 0x68 m (bit 0) rivals ∧ (s.gate p.val).armed = none ∧ (s.gate p.val).pend.base < s.ptp.time + 1000 ∧ 0 < (s.gate p.val).pend.cycle) ∧
    (∃ (s : State) (p : Fin 4) (m : Master) (rivals : List Req), s.grants (.gate p) 0x68 m (bit 1) rivals) ∧
    (∃ (s : State) (p : Fin 4) (w : Nat), (s.gate p.val).armed = some w ∧ (s.gate p.val).safArmed = none) ∧
    (∃ (s : State) (p : Fin 4) (w : Nat), (s.gate p.val).armed = none ∧ (s.gate p.val).safArmed = some w) ∧
    (∃ (s : State) (p : Fin 4) (m : Master) (v : Word) (rivals : List Req), s.grants (.gate p) 0x70 m v rivals ∧ (s.gate p.val).armed = none) ∧
    (∃ (s : State) (p : Fin 4) (m : Master) (v : Word) (rivals : List Req), s.grants (.gate p) 0x70 m v rivals ∧ (s.gate p.val).armed.isSome = true) ∧
    (∃ (s : State) (p : Fin 4) (m : Master), s.takes (Page.gate p).island ∧ s.reaches (.gate p) m = true ∧ bitOn (s.reg (.gate p) 0x08) 1 = false) ∧
    (∃ (s : State) (p : Fin 4) (m : Master), s.takes (Page.gate p).island ∧ s.reaches (.gate p) m = true ∧ bitOn (s.reg (.gate p) 0x08) 1 = false) :=
  ⟨⟨withGate P 0 (fun g => { g with act := shut }), 0, by decide +kernel⟩,
   ⟨withGate P 3 (fun g => { g with pend := { shut with base := 10000 } }), 3, .pf0, [], by unfold State.grants State.takes; decide +kernel, by decide +kernel⟩,
   ⟨{ (withGate P 3 (fun g => { g with pend := { shut with base := 10000 } })) with ptp := { P.ptp with time := 20500 } }, 3, .pf0, [], by unfold State.grants State.takes; decide +kernel, by decide +kernel⟩,
   ⟨withGate P 3 (fun g => { g with armed := some 5 }), 3, .pf0, [], by unfold State.grants State.takes; decide +kernel⟩,
   ⟨withGate P 3 (fun g => { g with armed := some 5, pend := shut }), 3, 5, by decide +kernel⟩,
   ⟨withGate P 3 (fun g => { g with safArmed := some 5, safPend := shut }), 3, 5, by decide +kernel⟩,
   ⟨put P [(.gate 1, 0x6C, 0x3FF)], 1, .pf0, 0xFFFFFFFF, [], by unfold State.grants State.takes; decide +kernel, by decide +kernel⟩,
   ⟨withGate P 1 (fun g => { g with armed := some 5 }), 1, .pf0, 0xFFFFFFFF, [], by unfold State.grants State.takes; decide +kernel, by decide +kernel⟩,
   ⟨P, 1, .pf0, by unfold State.takes; decide +kernel, by decide +kernel⟩,
   ⟨P, 1, .pf0, by unfold State.takes; decide +kernel, by decide +kernel⟩⟩

/-- States and operands that meet the hypotheses of each clause of `TheRingAndThePair`. -/
theorem witness_TheRingAndThePair :
    (∃ (s : State) (m : Master) (v : Word) (rivals : List Req), s.grants .ring 0x40 m v rivals ∧ (bitOn v 0 = false ∨ s.speed 0 = s.speed 1)) ∧
    (∃ (s : State) (m : Master) (v : Word) (rivals : List Req), s.grants .ring 0x40 m v rivals ∧ bitOn v 0 = true ∧ s.speed 0 ≠ s.speed 1) ∧
    (∃ s : State, s.mgtCell = false) ∧
    (∃ s : State, s.mgtCell = true ∧ s.hsr = true ∧ s.runs .prg = true ∧ s.prp = false ∧ s.linkUp 0 = true ∧ s.linkUp 1 = true) ∧
    (∃ s : State, s.mgtCell = true ∧ s.hsr = true ∧ s.runs .prg = true ∧ s.prp = false ∧ s.linkUp 0 = true ∧ s.linkUp 1 = false) ∧
    (∃ s : State, s.mgtCell = true ∧ s.hsr = false ∧ s.prp = true ∧ s.runs .pup = true ∧ s.linkUp 2 = true ∧ s.linkUp 3 = true) ∧
    (∃ (s : State) (id p : Nat) (x : Frame), s.frame id = some x ∧ x.loc = .ringIn p ∧ x.bad = false ∧ x.func = false ∧ s.hsr = true ∧ srcAddr (bytesOf x.nonets) = s.ringMac) ∧
    (∃ (s : State) (id p i : Nat) (x : Frame), s.frame id = some x ∧ x.loc = .ringIn p ∧ x.bad = false ∧ x.func = false ∧ s.hsr = true ∧ srcAddr (bytesOf x.nonets) ≠ s.ringMac ∧ hsrPos (bytesOf x.nonets) = some i ∧ inDd s.ring.dd (srcAddr (bytesOf x.nonets)) (hsrSeq (bytesOf x.nonets) i) = true) ∧
    (∃ (s : State) (id p i : Nat) (x : Frame), s.frame id = some x ∧ x.loc = .ringIn p ∧ x.bad = false ∧ s.hsr = true ∧ srcAddr (bytesOf x.nonets) ≠ s.ringMac ∧ hsrPos (bytesOf x.nonets) = some i ∧ inDd s.ring.dd (srcAddr (bytesOf x.nonets)) (hsrSeq (bytesOf x.nonets) i) = false ∧ dstAddr (bytesOf x.nonets) = s.ringMac) ∧
    (∃ (s : State) (id p i : Nat) (x : Frame), s.frame id = some x ∧ x.loc = .ringIn p ∧ x.bad = false ∧ x.part = .ring ∧ x.cells ≠ 0 ∧ s.hsr = true ∧ s.ring.dd.length < 1024 ∧ srcAddr (bytesOf x.nonets) ≠ s.ringMac ∧ hsrPos (bytesOf x.nonets) = some i ∧ inDd s.ring.dd (srcAddr (bytesOf x.nonets)) (hsrSeq (bytesOf x.nonets) i) = false ∧ dstAddr (bytesOf x.nonets) ≠ s.ringMac ∧ isGroup (dstAddr (bytesOf x.nonets)) = false ∧ s.protectSa { x with src := 0, gate := none, seq := none, loc := .egress (1 - p) } (1 - p) = none ∧ s.egressEnd { x with src := 0, gate := none, seq := none, loc := .egress (1 - p) } (1 - p) none = none) ∧
    (∃ (s : State) (id p seq lan : Nat) (x : Frame), s.frame id = some x ∧ x.loc = .prpIn p ∧ x.bad = false ∧ rct x.body = some (seq, lan) ∧ inDd s.ring.ddPrp (srcAddr x.body) seq = false ∧ s.ring.ddPrp.length < 1024) ∧
    (∃ (s : State) (id p seq lan : Nat) (x : Frame), s.frame id = some x ∧ x.loc = .prpIn p ∧ x.bad = false ∧ x.func = false ∧ rct x.body = some (seq, lan) ∧ inDd s.ring.ddPrp (srcAddr x.body) seq = true) ∧
    (∃ (s : State) (n : BitVec 48), s.hsr = true ∧ n.toNat ∉ s.ring.opened) ∧
    (∃ (s : State) (n : BitVec 48), n.toNat ∈ s.ring.opened) :=
  ⟨⟨P, .pf0, 0xFFFFFFFF, [], by unfold State.grants State.takes; decide +kernel, by decide +kernel⟩,
   ⟨put P [(.port 0, 0x40, 2)], .pf0, 1, [], by unfold State.grants State.takes; decide +kernel, by decide +kernel⟩,
   ⟨{ ringMac0 with ham := { ringMac0.ham with mgt := 256 } }, by decide +kernel⟩,
   ⟨put P [(.ring, 0x40, 1), (.ring, 0x50, 0xFFFF)], by decide +kernel⟩,
   ⟨put P [(.ring, 0x40, 1), (.ring, 0x50, 7), (.port 1, 0x48, 8)], by decide +kernel⟩,
   ⟨put P [(.ring, 0x40, 2)], by decide +kernel⟩,
   ⟨ringS 9 7, 1, 0, ringF 9 7, by decide +kernel⟩,
   ⟨withRing (ringS 9 5) (fun r => { r with dd := [{ src := 0x020000000005, seq := 5 }] }), 1, 0, 12, ringF 9 5, by decide +kernel⟩,
   ⟨ringS 7 5, 1, 0, 12, ringF 7 5, by decide +kernel⟩,
   ⟨ringS 9 5, 1, 0, 12, ringF 9 5, by decide +kernel⟩,
   ⟨prpS 0xA0, 1, 2, 5, 10, prpF 0xA0, by decide +kernel⟩,
   ⟨withRing (prpS 0xA0) (fun r => { r with ddPrp := [{ src := 0x020000000005, seq := 5 }] }), 1, 2, 5, 10, prpF 0xA0, by decide +kernel⟩,
   ⟨ringMac0, 0xFFFFFFFFFFFF, by decide +kernel⟩,
   ⟨withRing ringMac0 (fun r => { r with opened := [7] }), 7, by decide +kernel⟩⟩

/-- States and operands that meet the hypotheses of each clause of `FramesLeaveClustersAndPorts`. -/
theorem witness_FramesLeaveClustersAndPorts :
    (∃ (s : State) (id c : Nat) (x : Frame), s.frame id = some x ∧ x.loc = .gated c ∧ gateClear id x.gate s.frames = false) ∧
    (∃ (s : State) (id c : Nat) (x : Frame), s.frame id = some x ∧ x.loc = .gated c ∧ gateClear id x.gate s.frames = true ∧ x.bad = false ∧ x.dest = 4 * 2 ^ 29) ∧
    (∃ (s : State) (id c : Nat) (x : Frame), s.frame id = some x ∧ x.loc = .gated c ∧ gateClear id x.gate s.frames = true ∧ x.bad = false ∧ x.func = false ∧ x.dest = 0) ∧
    (∃ (s : State) (id c k : Nat) (p : Fin 2) (x : Frame), s.frame id = some x ∧ x.loc = .gated c ∧ gateClear id x.gate s.frames = true ∧ x.bad = false ∧ x.dest = 2 ^ 29 + (p.val + 2) ∧ x.cells ≠ 0 ∧ x.part = .chan k ∧ k ≠ 2 * (p.val + 2) + 1 ∧ (s.giveBack (.chan k) x.cells).admits (2 * (p.val + 2) + 1) x.cells = true ∧ s.protectSa { x.untagHsr with gate := none, loc := .egress (p.val + 2), seq := none } (p.val + 2) = none ∧ s.egressEnd { x.untagHsr with gate := none, loc := .egress (p.val + 2), seq := none } (p.val + 2) none = none) ∧
    (∃ (s : State) (id p : Nat) (x : Frame), s.frame id = some x ∧ x.loc = .egress p ∧ x.func = false ∧ x.bad = false ∧ s.runs (portPage p).island = true ∧ s.egressEnd x p none = none ∧ s.gateNoFit p (s.txClass x p) (s.wireTime p (s.wireLen x none)) = false ∧ s.notFirst x p (s.txClass x p) s.frames = false ∧ (x.part = .safety ∨ s.paused p (s.txClass x p) = false) ∧ s.gateFits p (s.txClass x p) (s.wireTime p (s.wireLen x none)) = true) ∧
    (∃ (s : State) (id p i : Nat) (x : Frame), s.frame id = some x ∧ x.loc = .protect p ∧ x.bad = false ∧ s.runs .cry = true ∧ s.frames.find? (fun y => decide (y.loc = .protect p)) = some x ∧ s.protectSa x p = some i ∧ s.egressEnd x p (some i) = none) ∧
    (∃ (s : State) (id p : Nat) (x : Frame), s.frame id = some x ∧ x.loc = .egress p ∧ x.bad = false ∧ s.runs (portPage p).island = true ∧ s.egressEnd x p none = none ∧ s.gateNoFit p (s.txClass x p) (s.wireTime p (s.wireLen x none)) = false ∧ (s.gateFits p (s.txClass x p) (s.wireTime p (s.wireLen x none)) = false ∨ (x.part ≠ .safety ∧ s.paused p (s.txClass x p) = true) ∨ s.notFirst x p (s.txClass x p) s.frames = true)) ∧
    (∃ (s : State) (id p : Nat) (x : Frame), s.frame id = some x ∧ x.loc = .egress p ∧ x.func = false ∧ x.bad = false ∧ s.runs (portPage p).island = true ∧ s.kptBlocked x = false ∧ s.linkUp p = false) ∧
    (∃ (s : State) (id p : Nat) (x : Frame), s.frame id = some x ∧ x.loc = .egress p ∧ x.func = false ∧ x.bad = false ∧ s.runs (portPage p).island = true ∧ s.kptBlocked x = false ∧ s.linkUp p = true ∧ s.field (portPage p) 0x44 15 0 < s.wireLen x none) ∧
    (∃ (s : State) (id p : Nat) (x : Frame), s.frame id = some x ∧ x.loc = .egress p ∧ x.func = false ∧ x.bad = false ∧ s.runs (portPage p).island = true ∧ s.egressEnd x p none = none ∧ s.gateNoFit p (s.txClass x p) (s.wireTime p (s.wireLen x none)) = true) :=
  ⟨⟨withFrames P [{ frame0 with id := 2, gate := some 4 }, { (at_ (.gated 0) (.chan 0)) with gate := some 4 }] [(0, 2)], 1, 0, { (at_ (.gated 0) (.chan 0)) with gate := some 4 }, by decide +kernel⟩,
   ⟨withFrames P [{ (at_ (.gated 0) .mgt) with gate := some 4, dest := 4 * 2 ^ 29 }] [], 1, 0, { (at_ (.gated 0) .mgt) with gate := some 4, dest := 4 * 2 ^ 29 }, by decide +kernel⟩,
   ⟨withFrames P [at_ (.gated 0) (.chan 0)] [(0, 1)], 1, 0, at_ (.gated 0) (.chan 0), by decide +kernel⟩,
   ⟨withFrames P [{ (at_ (.gated 0) (.chan 0)) with dest := 2 ^ 29 + 3 }] [(0, 1)], 1, 0, 0, 1, { (at_ (.gated 0) (.chan 0)) with dest := 2 ^ 29 + 3 }, by decide +kernel⟩,
   ⟨egS P egF, 1, 2, egF, by decide +kernel⟩,
   ⟨withSa (withFrames (put P [(.cry, 0x48, 0x00110018)]) [{ egF with loc := .protect 2 }] [(5, 1)]) 17 (saX 1 1 2 [1, 2, 3, 4, 5, 6, 7, 8] (List.replicate 16 0) 0 0 1 0), 1, 2, 17, { egF with loc := .protect 2 }, by decide +kernel⟩,
   ⟨egS (withPort P 2 (fun x => { x with timers := [8] })) egF, 1, 2, egF, by decide +kernel⟩,
   ⟨egS (put P [(.port 2, 0x48, 8)]) egF, 1, 2, egF, by decide +kernel⟩,
   ⟨egS (put P [(.port 2, 0x44, 64)]) { egF with nonets := stitched (eth 5 [8, 0] 90) [] }, 1, 2, { egF with nonets := stitched (eth 5 [8, 0] 90) [] }, by decide +kernel⟩,
   ⟨egS (put (withGate P 2 (fun g => { g with act := { shut with pegs := [(0, 0x000001FF), (1, 0x0003E600)] } })) [(.gate 2, 0x40, 1)]) egF, 1, 2, egF, by decide +kernel⟩⟩

/-- States and operands that meet the hypotheses of each clause of `LearningAndAgeing`. -/
theorem witness_LearningAndAgeing :
    (∃ (s : State) (p : Fin 4) (vid : BitVec 12) (src : BitVec 48) (i : Nat), bitOn (s.reg .swt (0x60 + 4 * p.val)) 1 = true ∧ s.tblHolder 0 = none ∧ s.runs .tbl = true ∧ s.wringPauses p.val = false ∧ s.treqWaits 0 = false ∧ s.tbl.bad = [] ∧ s.search 0 (learnedEntry src.toNat vid.toNat (s.learnDest p.val) (s.field .swt 0x44 7 0)) 0 = none ∧ s.freeWay 0 (learnedEntry src.toNat vid.toNat (s.learnDest p.val) (s.field .swt 0x44 7 0)) = some i) ∧
    (∃ (s : State) (p : Fin 4) (vid : BitVec 12) (src : BitVec 48), bitOn (s.reg .swt (0x60 + 4 * p.val)) 1 = true ∧ s.tblHolder 0 = none ∧ s.runs .tbl = true ∧ s.wringPauses p.val = false ∧ s.treqWaits 0 = false ∧ s.tbl.bad = [] ∧ s.search 0 (learnedEntry src.toNat vid.toNat (s.learnDest p.val) (s.field .swt 0x44 7 0)) 0 = none ∧ s.freeWay 0 (learnedEntry src.toNat vid.toNat (s.learnDest p.val) (s.field .swt 0x44 7 0)) = none) ∧
    (∃ (s : State) (p : Fin 4) (vid : BitVec 12) (src : BitVec 48) (i : Nat), bitOn (s.reg .swt (0x60 + 4 * p.val)) 1 = true ∧ s.tblHolder 0 = none ∧ s.runs .tbl = true ∧ s.wringPauses p.val = false ∧ s.treqWaits 0 = false ∧ s.tbl.bad = [] ∧ s.search 0 (learnedEntry src.toNat vid.toNat (s.learnDest p.val) (s.field .swt 0x44 7 0)) 0 = some i ∧ isStatic 0 (s.entry 0 i) = false ∧ leAt (s.entry 0 i) 8 4 ≠ s.learnDest p.val) ∧
    (∃ (s : State) (p : Fin 4) (vid : BitVec 12) (src : BitVec 48) (i : Nat), bitOn (s.reg .swt (0x60 + 4 * p.val)) 1 = true ∧ s.tblHolder 0 = none ∧ s.runs .tbl = true ∧ s.wringPauses p.val = false ∧ s.treqWaits 0 = false ∧ s.tbl.bad = [] ∧ s.search 0 (learnedEntry src.toNat vid.toNat (s.learnDest p.val) (s.field .swt 0x44 7 0)) 0 = some i ∧ isStatic 0 (s.entry 0 i) = true ∧ leAt (s.entry 0 i) 8 4 ≠ s.learnDest p.val) ∧
    (∃ (s : State) (p : Fin 4) (vid : BitVec 12) (src : BitVec 48), (bitOn (s.reg .swt (0x60 + 4 * p.val)) 1 = false ∨ (s.tblHolder 0).isSome = true ∨ s.wringPauses p.val = true ∨ s.treqWaits 0 = true)) ∧
    (∃ (s : State) (i : Nat) (e : List Byte), s.runs .tbl = true ∧ s.tblHolder 0 = none ∧ Sparse.sorted s.tbl.mac = true ∧ Sparse.find s.tbl.mac i = some e) ∧
    (∃ (s : State), s.runs .tbl = true ∧ (s.tblHolder 0).isSome = true ∧ (s.tblHolder 1).isSome = true) :=
  ⟨⟨T, 1, 1, 0x020000000005, wayOf 0 mac1 0, by decide +kernel⟩,
   ⟨bucketFull, 2, 1, 0x020000000005, by decide +kernel⟩,
   ⟨withMac T [(wayOf 0 mac1 3, mac1)], 2, 1, 0x020000000005, wayOf 0 mac1 3, by decide +kernel⟩,
   ⟨withMac T [(wayOf 0 mac1 3, macE 0x020000000005 1 0x20000001 3 0)], 2, 1, 0x020000000005, wayOf 0 mac1 3, by decide +kernel⟩,
   ⟨put P [(.swt, 0x68, 0)], 2, 1, 5, by decide +kernel⟩,
   ⟨withMac T [(3, mac1), (7, macE 5 5 5 5 1)], 3, mac1, by decide +kernel⟩,
   ⟨withTbl T (fun t => { t with lock := [some .pf0, some .pf0, none, none], mac := [(3, mac1)] }), by decide +kernel⟩⟩

/-- States and operands that meet the hypotheses of each clause of `TableCommands`. -/
theorem witness_TableCommands :
    (∃ (s : State) (m : Master) (v : Word) (rivals : List Req) (j : Nat), s.grants .tbl 0x40 m (tblWord v 1) rivals ∧ s.tbl.cmd = none ∧ s.tbl.bad = [] ∧ entryOk (fld v 17 16) (s.stagedEntry (fld v 17 16)) (s.field .tbl 0x44 19 0) = true ∧ s.search (fld v 17 16) (s.stagedEntry (fld v 17 16)) (s.field .tbl 0x44 19 0) = some j) ∧
    (∃ (s : State) (m : Master) (v : Word) (rivals : List Req), s.grants .tbl 0x40 m (tblWord v 1) rivals ∧ s.tbl.cmd = none ∧ s.tbl.bad = [] ∧ entryOk (fld v 17 16) (s.stagedEntry (fld v 17 16)) (s.field .tbl 0x44 19 0) = true ∧ s.search (fld v 17 16) (s.stagedEntry (fld v 17 16)) (s.field .tbl 0x44 19 0) = none) ∧
    (∃ (s : State) (m : Master) (v : Word) (rivals : List Req), s.grants .tbl 0x40 m (tblWord v 1) rivals ∧ s.tbl.cmd = none ∧ entryOk (fld v 17 16) (s.stagedEntry (fld v 17 16)) (s.field .tbl 0x44 19 0) = true ∧ s.badRead (fld v 17 16) (s.stagedEntry (fld v 17 16)) (s.field .tbl 0x44 19 0) ≠ []) ∧
    (∃ (s : State) (m : Master) (v : Word) (rivals : List Req), s.grants .tbl 0x40 m (tblWord v 1) rivals ∧ s.tbl.cmd.isSome = true) ∧
    (∃ (s : State) (m : Master) (v : Word) (rivals : List Req) (j : Nat), s.grants .tbl 0x40 m (tblWord v 2) rivals ∧ s.tbl.cmd = none ∧ s.tbl.bad = [] ∧ bitOn v 10 = false ∧ s.field .tbl 0x44 19 0 < tableSize (fld v 17 16) ∧ s.nextFrom (fld v 17 16) (s.field .tbl 0x44 19 0) none = some j ∧ j < s.field .tbl 0x44 19 0 + 65536) ∧
    (∃ (s : State) (m : Master) (v : Word) (rivals : List Req) (j : Nat), s.grants .tbl 0x40 m (tblWord v 3) rivals ∧ s.tbl.cmd = none ∧ s.tbl.bad = [] ∧ fld v 17 16 < 2 ∧ entryOk (fld v 17 16) (s.stagedEntry (fld v 17 16)) (s.field .tbl 0x44 19 0) = true ∧ s.bindOk (boundTo (fld v 17 16) (s.stagedEntry (fld v 17 16))) = true ∧ s.lockedFor (fld v 17 16) m = false ∧ s.search (fld v 17 16) (s.stagedEntry (fld v 17 16)) (s.field .tbl 0x44 19 0) = none ∧ s.freeWay (fld v 17 16) (s.stagedEntry (fld v 17 16)) = some j ∧ s.quotaOk (fld v 17 16) j (s.stagedEntry (fld v 17 16)) = true) ∧
    (∃ (s : State) (m : Master) (v : Word) (rivals : List Req), s.grants .tbl 0x40 m (tblWord v 3) rivals ∧ s.tbl.cmd = none ∧ 2 ≤ fld v 17 16 ∧ s.field .tbl 0x44 19 0 < 65536 ∧ entryOk (fld v 17 16) (s.stagedEntry (fld v 17 16)) (s.field .tbl 0x44 19 0) = true ∧ windowOk (fld v 17 16) (s.stagedEntry (fld v 17 16)) = true ∧ s.tbl.bad = [] ∧ s.bindOk (boundTo (fld v 17 16) (s.stagedEntry (fld v 17 16))) = true ∧ s.lockedFor (fld v 17 16) m = false ∧ s.search (fld v 17 16) (s.stagedEntry (fld v 17 16)) (s.field .tbl 0x44 19 0) = none ∧ validEntry (fld v 17 16) (s.entry (fld v 17 16) (s.field .tbl 0x44 19 0)) = false ∧ s.quotaOk (fld v 17 16) (s.field .tbl 0x44 19 0) (s.stagedEntry (fld v 17 16)) = true) ∧
    (∃ (s : State) (m : Master) (v : Word) (rivals : List Req), s.grants .tbl 0x40 m (tblWord v 3) rivals ∧ s.tbl.cmd = none ∧ s.tbl.bad = [] ∧ fld v 17 16 < 2 ∧ entryOk (fld v 17 16) (s.stagedEntry (fld v 17 16)) (s.field .tbl 0x44 19 0) = true ∧ s.bindOk (boundTo (fld v 17 16) (s.stagedEntry (fld v 17 16))) = true ∧ s.lockedFor (fld v 17 16) m = true) ∧
    (∃ (s : State) (m : Master) (v : Word) (rivals : List Req) (j : Nat), s.grants .tbl 0x40 m (tblWord v 3) rivals ∧ s.tbl.cmd = none ∧ s.tbl.bad = [] ∧ fld v 17 16 < 2 ∧ entryOk (fld v 17 16) (s.stagedEntry (fld v 17 16)) (s.field .tbl 0x44 19 0) = true ∧ s.bindOk (boundTo (fld v 17 16) (s.stagedEntry (fld v 17 16))) = true ∧ s.lockedFor (fld v 17 16) m = false ∧ s.search (fld v 17 16) (s.stagedEntry (fld v 17 16)) (s.field .tbl 0x44 19 0) = none ∧ s.freeWay (fld v 17 16) (s.stagedEntry (fld v 17 16)) = some j ∧ s.quotaOk (fld v 17 16) j (s.stagedEntry (fld v 17 16)) = false) ∧
    (∃ (s : State) (m : Master) (v : Word) (rivals : List Req) (j : Nat), s.grants .tbl 0x40 m (tblWord v 4) rivals ∧ s.tbl.cmd = none ∧ s.tbl.bad = [] ∧ entryOk (fld v 17 16) (s.stagedEntry (fld v 17 16)) (s.field .tbl 0x44 19 0) = true ∧ s.lockedFor (fld v 17 16) m = false ∧ s.search (fld v 17 16) (s.stagedEntry (fld v 17 16)) (s.field .tbl 0x44 19 0) = some j) ∧
    (∃ (s : State) (m : Master) (v : Word) (rivals : List Req), s.grants .tbl 0x40 m (tblWord v 5) rivals ∧ s.tbl.cmd = none ∧ s.tbl.bad = [] ∧ s.lockedFor 0 m = false ∧ s.lockedFor 1 m = false) ∧
    (∃ (s : State) (c : TblCmd), s.tbl.cmd = some c) :=
  ⟨⟨stage (withMac T [(wayOf 0 mac1 3, mac1)]) mac1, .pf0, 0, [], wayOf 0 mac1 3, by unfold State.grants State.takes; decide +kernel, by decide +kernel⟩,
   ⟨stage T (saE 2 0), .pf0, 0x30000, [], by unfold State.grants State.takes; decide +kernel, by decide +kernel⟩,
   ⟨stage (withTbl (withMac T [(wayOf 0 mac1 3, mac1)]) (fun t => { t with bad := [(0, wayOf 0 mac1 3)] })) mac1, .pf0, 0, [], by unfold State.grants State.takes; decide +kernel, by decide +kernel⟩,
   ⟨withTbl T (fun t => { t with cmd := some ⟨0, 0, none⟩ }), .pf0, 0x30000, [], by unfold State.grants State.takes; decide +kernel, by decide +kernel⟩,
   ⟨withTbl (put T [(.tbl, 0x44, 3)]) (fun t => { t with sa := [(2, saE 1 1), (65535, saE 2 1)] }), .pf0, 0x30000, [], 65535, by unfold State.grants State.takes; decide +kernel, by decide +kernel⟩,
   ⟨stage T mac1, .pf0, 0, [], wayOf 0 mac1 0, by unfold State.grants State.takes; decide +kernel, by decide +kernel⟩,
   ⟨put (stage T (saE 1 0)) [(.tbl, 0x44, 9)], .pf0, 0x30000, [], by unfold State.grants State.takes; decide +kernel, by decide +kernel⟩,
   ⟨stage (locked 0 .mgt T) mac1, .pf0, 0, [], by unfold State.grants State.takes; decide +kernel, by decide +kernel⟩,
   ⟨withFunc (stage T (macE 5 1 0x20000001 5 9 |>.take 12 |>.append [1, 0x80, 5, 9])) 1 (fun x => { x with asg := { x.asg with qMac := 0 } }), .pf0, 0, [], wayOf 0 (macE 5 1 0x20000001 5 9) 0, by unfold State.grants State.takes; decide +kernel, by decide +kernel⟩,
   ⟨stage (withMac T [(wayOf 0 mac1 3, mac1)]) mac1, .pf0, 0, [], wayOf 0 mac1 3, by unfold State.grants State.takes; decide +kernel, by decide +kernel⟩,
   ⟨put (withTbl T (fun t => { t with mac := [(3, mac1), (9, macE 3 3 0x20000001 3 0)], flow := [(9, flow1)] })) [(.tbl, 0x48, 1)], .pf0, 0, [], by unfold State.grants State.takes; decide +kernel, by decide +kernel⟩,
   ⟨withTbl T (fun t => { t with cmd := some ⟨9, 3, none⟩ }), ⟨9, 3, none⟩, by decide +kernel⟩⟩

/-- States and operands that meet the hypotheses of each clause of `DirectAccessToTables`. -/
theorem witness_DirectAccessToTables :
    (∃ (s : State) (m : Master) (v : Word) (rivals : List Req), s.grants .tbl 0xC0 m v rivals) ∧
    (∃ (s : State) (m : Master) (v : Word) (rivals : List Req), s.grants .tbl 0xCC m (v ||| bit 31) rivals ∧ s.tbl.dma = none ∧ s.tblHolder (fld v 25 24) = some m ∧ s.field .tbl 0xD0 19 0 + fld v 20 0 ≤ tableSize (fld v 25 24)) ∧
    (∃ (s : State) (m : Master) (v : Word) (rivals : List Req), s.grants .tbl 0xCC m (v ||| bit 31) rivals ∧ s.tbl.dma = none ∧ s.tblHolder (fld v 25 24) ≠ some m) ∧
    (∃ (s : State) (image : List (List Byte)) (bad : Bool) (d : TblDma), s.tbl.dma = some d ∧ d.toTbl = false) ∧
    (∃ (s : State) (e : List Byte) (d : TblDma), s.tbl.dma = some d ∧ d.toTbl = true ∧ d.count = 1 ∧ d.table < 2 ∧ s.readFailed .table = false ∧ s.reading .table = false ∧ validEntry d.table (slice e 0 (entrySize d.table)) = true ∧ d.first / 8 = bucketOf d.table (slice e 0 (entrySize d.table)) ∧ s.search d.table (slice e 0 (entrySize d.table)) d.first = none ∧ s.quotaOk d.table d.first (slice e 0 (entrySize d.table)) = true) ∧
    (∃ (s : State) (image : List (List Byte)) (d : TblDma), s.tbl.dma = some d ∧ d.toTbl = true ∧ s.readFailed .table = false ∧ s.reading .table = true) ∧
    (∃ (s : State) (bad : Bool) (d : TblDma), s.tbl.dma = some d ∧ d.toTbl = true ∧ (bad = true ∨ s.readFailed .table = true)) ∧
    (∃ (s : State) (k : Fin 4) (image : List (List Byte)) (h : Master), s.tblHolder k.val = some h ∧ s.tbl.dma = none) ∧
    (∃ (s : State) (k : Fin 4) (image : List (List Byte)) (h : Master) (d : TblDma), s.tblHolder k.val = some h ∧ s.tbl.dma = some d ∧ d.table = k.val) :=
  ⟨⟨locked 1 .mgt T, .pf0, 5, [], by unfold State.grants State.takes; decide +kernel⟩,
   ⟨put (locked 2 .pf0 T) [(.tbl, 0xD0, 65535), (.tbl, 0xC4, 0x10C7), (.tbl, 0xC8, 1)], .pf0, 0x32000001, [], by unfold State.grants State.takes; decide +kernel, by decide +kernel⟩,
   ⟨put (locked 1 .pf0 T) [(.tbl, 0xD0, 65535)], .pf0, 0x32000001, [], by unfold State.grants State.takes; decide +kernel, by decide +kernel⟩,
   ⟨withMac (withDma T { dma1 with toTbl := false }) [(wayOf 0 mac1 2, mac1)], [], false, { dma1 with toTbl := false }, by decide +kernel⟩,
   ⟨withDma T dma1, mac1, dma1, by decide +kernel⟩,
   ⟨withReads (withDma T dma1) [rd 4 0 .table [] 1], [mac1], dma1, by decide +kernel⟩,
   ⟨withDma T dma1, true, dma1, by decide +kernel⟩,
   ⟨locked 1 .pf0 T, 1, [], .pf0, by decide +kernel⟩,
   ⟨put (locked 0 .pf0 (withDma T dma1)) [(.tbl, 0xD4, 0x10000007)], 0, [mac1], .pf0, dma1, by decide +kernel⟩⟩

/-- States and operands that meet the hypotheses of each clause of `DarningAndScrubbing`. -/
theorem witness_DarningAndScrubbing :
    (∃ (s : State) (shadow : Option (List Byte)) (h : List Byte), s.tbl.dTab = s.darnTable ∧ s.darnOn s.darnTable = true ∧ s.tbl.check = none ∧ s.reading .shadow = false ∧ s.readFailed .shadow = false ∧ (s.tbl.asked = true ∨ s.field .darn (0x5C + 4 * s.darnTable) 20 0 ≤ s.tbl.dIdx.getD s.darnTable 0) ∧ s.runs .tbl = true ∧ s.shadowAt s.darnTable (s.tbl.dIdx.getD s.darnTable 0) shadow = some h ∧ mismatch s.darnTable (s.entry s.darnTable (s.tbl.dIdx.getD s.darnTable 0)) h = 0 ∧ s.tbl.dIdx.getD s.darnTable 0 + 1 < tableSize s.darnTable) ∧
    (∃ (s : State) (shadow : Option (List Byte)) (h : List Byte), s.tbl.dTab = s.darnTable ∧ s.darnOn s.darnTable = true ∧ s.tbl.check = none ∧ s.reading .shadow = false ∧ s.readFailed .shadow = false ∧ (s.tbl.asked = true ∨ s.field .darn (0x5C + 4 * s.darnTable) 20 0 ≤ s.tbl.dIdx.getD s.darnTable 0) ∧ s.runs .tbl = true ∧ s.shadowAt s.darnTable (s.tbl.dIdx.getD s.darnTable 0) shadow = some h ∧ mismatch s.darnTable (s.entry s.darnTable (s.tbl.dIdx.getD s.darnTable 0)) h = 0 ∧ tableSize s.darnTable ≤ s.tbl.dIdx.getD s.darnTable 0 + 1 ∧ s.darnNext s.darnTable ≤ s.darnTable) ∧
    (∃ (s : State) (shadow : Option (List Byte)) (h : List Byte), s.tbl.dTab = s.darnTable ∧ s.darnOn s.darnTable = true ∧ s.tbl.check = none ∧ s.reading .shadow = false ∧ s.readFailed .shadow = false ∧ (s.tbl.asked = true ∨ s.field .darn (0x5C + 4 * s.darnTable) 20 0 ≤ s.tbl.dIdx.getD s.darnTable 0) ∧ s.runs .tbl = true ∧ s.shadowAt s.darnTable (s.tbl.dIdx.getD s.darnTable 0) shadow = some h ∧ mismatch s.darnTable (s.entry s.darnTable (s.tbl.dIdx.getD s.darnTable 0)) h ≠ 0) ∧
    (∃ (s : State) (shadow : Option (List Byte)), s.tbl.dTab = s.darnTable ∧ s.darnOn s.darnTable = true ∧ s.tbl.check = none ∧ s.reading .shadow = false ∧ s.tbl.asked = false ∧ s.runs .tbl = true ∧ s.tbl.dIdx.getD s.darnTable 0 < s.field .darn (0x5C + 4 * s.darnTable) 20 0 ∧ ((∀ r ∈ s.host.reads, r.id ≠ s.host.nextRead)) ∧ 0 < entrySize s.darnTable) ∧
    (∃ (s : State) (shadow : Option (List Byte)) (h : List Byte) (c : Recheck), s.tbl.check = some c ∧ s.darnOn c.table = true ∧ s.runs .tbl = true ∧ s.reading .shadow = false ∧ s.readFailed .shadow = false ∧ (s.tbl.asked = true ∨ s.field .darn (0x5C + 4 * c.table) 20 0 ≤ c.index) ∧ s.shadowAt c.table c.index shadow = some h ∧ mismatch c.table (s.entry c.table c.index) h ≠ 0 ∧ c.table < 256 ∧ c.index < 2 ^ 32 ∧ 16 ≤ (s.func 0).cfg.maxPayload ∧ (s.field .darn 0x74 15 0 + 1) % (64 * 2 ^ s.field .darn 0x70 3 0) ≠ s.field .darn 0x78 15 0 % (64 * 2 ^ s.field .darn 0x70 3 0)) ∧
    (∃ (s : State) (shadow : Option (List Byte)) (h : List Byte) (c : Recheck), s.tbl.check = some c ∧ s.darnOn c.table = true ∧ s.runs .tbl = true ∧ s.reading .shadow = false ∧ s.readFailed .shadow = false ∧ (s.tbl.asked = true ∨ s.field .darn (0x5C + 4 * c.table) 20 0 ≤ c.index) ∧ s.shadowAt c.table c.index shadow = some h ∧ mismatch c.table (s.entry c.table c.index) h ≠ 0 ∧ (s.field .darn 0x74 15 0 + 1) % (64 * 2 ^ s.field .darn 0x70 3 0) = s.field .darn 0x78 15 0 % (64 * 2 ^ s.field .darn 0x70 3 0)) ∧
    (∃ (s : State) (k : Fin 4) (i : Nat), i < tableSize k.val ∧ s.runs .tbl = true) ∧
    (∃ (s : State) (k : Fin 4) (i : Nat), i < tableSize k.val ∧ s.runs .tbl = true) ∧
    (∃ (s : State) (k : Fin 4) (i errs : Nat), i < tableSize k.val ∧ s.runs .tbl = true ∧ 3 ≤ errs) :=
  ⟨⟨withTbl (put T [(.darn, 0x40, 0xF)]) (fun t => { t with asked := true }), some [], List.replicate 16 0, by decide +kernel⟩,
   ⟨withTbl (withTbl (put T [(.darn, 0x40, 0xF), (.darn, 0x68, 0)]) (fun t => { t with dTab := 2, dIdx := [0, 0, 65535] })) (fun t => { t with asked := true }), some [], List.replicate 32 0, by decide +kernel⟩,
   ⟨withTbl (withMac (put T [(.darn, 0x40, 0xF), (.darn, 0x5C, 5)]) [(0, macE 3 3 0x20000003 3 0)]) (fun t => { t with asked := true }), some (macE 3 3 0x20000004 3 0), macE 3 3 0x20000004 3 0, by decide +kernel⟩,
   ⟨withMac (put T [(.darn, 0x40, 0xF), (.darn, 0x5C, 5)]) [(0, macE 3 3 0x20000003 3 0)], none, by decide +kernel⟩,
   ⟨withTbl (withTbl (withMac (put T [(.darn, 0x40, 0xF), (.darn, 0x5C, 5), (.darn, 0x74, 63), (.darn, 0x78, 1)]) [(3, macE 3 3 0x20000003 3 0)]) (fun t => { t with check := some ⟨0, 3⟩ })) (fun t => { t with asked := true }), some (macE 3 3 0x20000004 3 0), macE 3 3 0x20000004 3 0, ⟨0, 3⟩, by decide +kernel⟩,
   ⟨withTbl (withMac (put T [(.darn, 0x40, 0xF), (.darn, 0x5C, 0), (.darn, 0x74, 63), (.darn, 0x78, 0)]) [(3, macE 3 3 0x20000003 3 0)]) (fun t => { t with check := some ⟨0, 3⟩ }), none, List.replicate 16 0, ⟨0, 3⟩, by decide +kernel⟩,
   ⟨T, 0, 262143, by decide +kernel⟩,
   ⟨withTbl T (fun t => { t with sa := [(9, saE 3 1)] }), 3, 9, by decide +kernel⟩,
   ⟨withMac T [(7, mac1)], 0, 7, 3, by decide +kernel⟩⟩

/-- States and operands that meet the hypotheses of each clause of `TunnelRecordsAndDecapsulation`. -/
theorem witness_TunnelRecordsAndDecapsulation :
    (∃ (s : State) (m : Master) (rivals : List Req), s.grants .tun 0x4C m (bit 0) rivals ∧ s.encOk (s.field .tun 0x48 15 0) s.stagedEnc = true) ∧
    (∃ (s : State) (m : Master) (rivals : List Req), s.grants .tun 0x4C m (bit 0) rivals ∧ s.encOk (s.field .tun 0x48 15 0) s.stagedEnc = false) ∧
    (∃ (s : State) (m : Master) (rivals : List Req), s.grants .tun 0x4C m (bit 1) rivals) ∧
    (∃ (s : State) (id c th ops : Nat) (csumBad : Bool) (x : Frame) (b : List Byte), s.frame id = some x ∧ x.loc = .engine c th ops true ∧ nbit ops 2 = true ∧ nbit ops 3 = false ∧ s.runs .tun = true ∧ x.bad = false ∧ s.decap x.body csumBad = .inner b ∧ ((x.cells = 0 ∨ cellsOf (stitched b (boundaries b)).length = x.cells))) ∧
    (∃ (s : State) (id c th ops : Nat) (csumBad : Bool) (x : Frame) (b : List Byte), s.frame id = some x ∧ x.loc = .engine c th ops true ∧ nbit ops 2 = true ∧ nbit ops 3 = true ∧ s.runs .tun = true ∧ x.bad = false ∧ s.decap x.body csumBad = .inner b ∧ ((x.cells = 0 ∨ cellsOf (stitched b (boundaries b)).length = x.cells))) ∧
    (∃ (s : State) (id c th ops : Nat) (csumBad : Bool) (x : Frame) (b : List Byte), s.frame id = some x ∧ x.loc = .engine c th ops true ∧ nbit ops 2 = true ∧ s.runs .tun = true ∧ x.bad = false ∧ s.decap x.body csumBad = .inner b) ∧
    (∃ (s : State) (id c th ops k : Nat) (csumBad : Bool) (x : Frame), s.frame id = some x ∧ x.func = false ∧ x.loc = .engine c th ops true ∧ nbit ops 2 = true ∧ s.runs .tun = true ∧ x.bad = false ∧ s.decap x.body csumBad = .drop k) ∧
    (∃ (s : State) (id c th ops : Nat) (csumBad : Bool) (x : Frame), s.frame id = some x ∧ x.loc = .engine c th ops true ∧ nbit ops 2 = true ∧ s.runs .tun = true ∧ x.bad = false ∧ s.decap x.body csumBad = .oam ∧ (s.reg .tun 0x44).toNat / 2 ^ 29 ≠ 0) :=
  ⟨⟨put (stageEnc T enc1) [(.tun, 0x48, 65535)], .pf0, [], by unfold State.grants State.takes; decide +kernel, by decide +kernel⟩,
   ⟨put (stageEnc T (setByte enc1 60 17)) [(.tun, 0x48, 65535)], .pf0, [], by unfold State.grants State.takes; decide +kernel, by decide +kernel⟩,
   ⟨put { T with tun := { enc := [(65535, enc1)] } } [(.tun, 0x48, 65535)], .pf0, [], by unfold State.grants State.takes; decide +kernel⟩,
   ⟨tunS 4 0x12B5 0x08, 1, 0, 0, 4, false, tunF 4 0x12B5 0x08, eth 5 [8, 0] 50, by decide +kernel⟩,
   ⟨tunS 12 0x12B5 0x08, 1, 0, 0, 12, false, tunF 12 0x12B5 0x08, eth 5 [8, 0] 50, by decide +kernel⟩,
   ⟨tunS 12 0x12B5 0x08, 1, 0, 0, 12, false, tunF 12 0x12B5 0x08, eth 5 [8, 0] 50, by decide +kernel⟩,
   ⟨tunS 4 0x12B5 0x00, 1, 0, 0, 4, 0x10C, false, tunF 4 0x12B5 0x00, by decide +kernel⟩,
   ⟨put { T with frames := [{ (tunF 4 6081 0) with nonets := stitched (tunPkt 6081 0 0x80 0x65) [] }], nextId := 10, ham := { T.ham with held := [(0, 1)] } } [(.tun, 0x44, 0x20000001)], 1, 0, 0, 4, false, { (tunF 4 6081 0) with nonets := stitched (tunPkt 6081 0 0x80 0x65) [] }, by decide +kernel⟩⟩

/-- States and operands that meet the hypotheses of each clause of `ReceivedFramesAreVerified`. -/
theorem witness_ReceivedFramesAreVerified :
    (∃ (s : State) (id p i : Nat) (plain : List Byte) (x : Frame), s.frame id = some x ∧ x.loc = .macsec p ∧ p < 4 ∧ s.runs .cry = true ∧ x.bad = false ∧ x.old = none ∧ s.tbl.bad = [] ∧ s.rxSa p (bytesOf x.nonets) = some i ∧ s.saFault i 2 = none ∧ s.isLate i (recoverPn (s.entry 3 i) (beAt (bytesOf x.nonets) 16 4)) = false ∧ ((x.cells = 0 ∨ cellsOf (stitched (slice (bytesOf x.nonets) 0 12 ++ plain) (boundaries (slice (bytesOf x.nonets) 0 12 ++ plain))).length = x.cells))) ∧
    (∃ (s : State) (id p i : Nat) (plain : List Byte) (x : Frame), s.frame id = some x ∧ x.func = false ∧ x.loc = .macsec p ∧ p < 4 ∧ s.runs .cry = true ∧ x.bad = false ∧ x.old = none ∧ s.tbl.bad = [] ∧ s.rxSa p (bytesOf x.nonets) = some i ∧ s.saFault i 2 = none) ∧
    (∃ (s : State) (id p i : Nat) (plain : List Byte) (x : Frame), s.frame id = some x ∧ x.func = false ∧ x.loc = .macsec p ∧ p < 4 ∧ s.runs .cry = true ∧ x.bad = false ∧ x.old = none ∧ s.tbl.bad = [] ∧ s.rxSa p (bytesOf x.nonets) = some i ∧ s.saFault i 2 = none ∧ s.isLate i (recoverPn (s.entry 3 i) (beAt (bytesOf x.nonets) 16 4)) = true) ∧
    (∃ (s : State) (id p : Nat) (icvOk : Bool) (plain : List Byte) (x : Frame), s.frame id = some x ∧ x.func = false ∧ x.loc = .macsec p ∧ p < 4 ∧ s.runs .cry = true ∧ x.bad = false ∧ x.old = none ∧ s.tbl.bad = [] ∧ s.rxSa p (bytesOf x.nonets) = none) ∧
    (∃ (s : State) (id p i c : Nat) (icvOk : Bool) (plain : List Byte) (x : Frame), s.frame id = some x ∧ x.func = false ∧ x.loc = .macsec p ∧ p < 4 ∧ s.runs .cry = true ∧ x.bad = false ∧ x.old = none ∧ s.tbl.bad = [] ∧ s.rxSa p (bytesOf x.nonets) = some i ∧ s.saFault i 2 = some c) ∧
    (∃ (s : State) (id p : Nat) (icvOk : Bool) (plain e : List Byte) (x : Frame), s.frame id = some x ∧ x.func = false ∧ x.loc = .macsec p ∧ p < 4 ∧ s.runs .cry = true ∧ x.bad = false ∧ x.old = some e ∧ s.tbl.bad = [] ∧ s.judgeOld x.sa e (recoverPn e (beAt x.body 16 4)) icvOk = .bad) ∧
    (∃ (s : State) (id f q l3 : Nat) (v6 icvOk : Bool) (plain : List Byte) (x : Frame), s.frame id = some x ∧ x.loc = .rxq f q ∧ s.runs .cry = true ∧ x.espPending = true ∧ ipAt x.body = some (v6, l3) ∧ s.tbl.bad = [] ∧ (s.espSa x.body v6 l3).filter (fun i => decide (boundTo 3 (s.entry 3 i) = some f)) = none) ∧
    (∃ (s u : State) (id f q l3 i : Nat) (v6 icvOk : Bool) (plain : List Byte) (x z : Frame), s.frame id = some x ∧ x.loc = .rxq f q ∧ s.runs .cry = true ∧ x.espPending = true ∧ ipAt x.body = some (v6, l3) ∧ s.tbl.bad = [] ∧ s.espSa x.body v6 l3 = some i ∧ boundTo 3 (s.entry 3 i) = some f ∧ x.part = .chan 8 ∧ x.cells ≠ 0 ∧ x.bad = false ∧ s.espOpen x i icvOk plain = (u, .ok z)) ∧
    (∃ (s u : State) (id c th : Nat) (icvOk : Bool) (plain : List Byte) (x z : Frame), s.frame id = some x ∧ x.loc = .engine c th 8 true ∧ s.runs .cry = true ∧ x.part = .chan 8 ∧ x.cells ≠ 0 ∧ x.bad = false ∧ s.espOpen x x.sa icvOk plain = (u, .ok z)) ∧
    (∃ (s : State) (id c th : Nat) (icvOk : Bool) (plain : List Byte) (x : Frame), s.frame id = some x ∧ x.loc = .engine c th 8 true ∧ s.runs .cry = true ∧ x.part = .chan 8 ∧ x.cells ≠ 0 ∧ x.bad = false ∧ x.fragment = true) ∧
    (∃ (s u : State) (id c th : Nat) (icvOk : Bool) (plain : List Byte) (x : Frame) (e : FrameEnd), s.frame id = some x ∧ x.loc = .engine c th 8 true ∧ s.runs .cry = true ∧ x.part = .chan 8 ∧ x.cells ≠ 0 ∧ x.bad = false ∧ s.espOpen x x.sa icvOk plain = (u, .error e)) :=
  ⟨⟨msS 0 1, 1, 2, 17, [8, 0] ++ List.replicate 50 1, msF, by decide +kernel⟩,
   ⟨msS 0x8040 9, 1, 2, 17, [8, 0] ++ List.replicate 50 1, msF, by decide +kernel⟩,
   ⟨msS 0x8040 10, 1, 2, 17, [8, 0] ++ List.replicate 50 1, msF, by decide +kernel⟩,
   ⟨withFrames P [msF] [(4, 1)], 1, 2, true, [8, 0] ++ List.replicate 50 1, msF, by decide +kernel⟩,
   ⟨msSx, 1, 2, 17, 3, true, [8, 0] ++ List.replicate 50 1, msF, by decide +kernel⟩,
   ⟨msS', 1, 2, false, [8, 0] ++ List.replicate 50 1, msSa 0 1, msF', by decide +kernel⟩,
   ⟨withFrames Q [espF (.rxq 0 0) 257] [(257, 1)], 1, 0, 0, 14, false, true, espPlain, espF (.rxq 0 0) 257, by decide +kernel⟩,
   ⟨espS (.rxq 0 0) 8 0x8000, ((espS (.rxq 0 0) 8 0x8000).espOpen (espF (.rxq 0 0) 8) 17 true espPlain).1, 1, 0, 0, 14, 17, false, true, espPlain, espF (.rxq 0 0) 8, okOf ((espS (.rxq 0 0) 8 0x8000).espOpen (espF (.rxq 0 0) 8) 17 true espPlain), by refine ⟨?_, ?_, ?_, ?_, ?_, ?_, ?_, ?_, ?_, ?_, ?_, ok_of _ (by decide +kernel)⟩ <;> decide +kernel⟩,
   ⟨espS (.engine 1 2 8 true) 8 0, ((espS (.engine 1 2 8 true) 8 0).espOpen (espF (.engine 1 2 8 true) 8) 17 true espPlain).1, 1, 1, 2, true, espPlain, espF (.engine 1 2 8 true) 8, okOf ((espS (.engine 1 2 8 true) 8 0).espOpen (espF (.engine 1 2 8 true) 8) 17 true espPlain), by refine ⟨?_, ?_, ?_, ?_, ?_, ?_, ok_of _ (by decide +kernel)⟩ <;> decide +kernel⟩,
   ⟨fragS, 1, 1, 2, true, espPlain, fragF, by decide +kernel⟩,
   ⟨espS (.engine 1 2 8 true) 8 0, ((espS (.engine 1 2 8 true) 8 0).espOpen (espF (.engine 1 2 8 true) 8) 17 false espPlain).1, 1, 1, 2, false, espPlain, espF (.engine 1 2 8 true) 8, errOf ((espS (.engine 1 2 8 true) 8 0).espOpen (espF (.engine 1 2 8 true) 8) 17 false espPlain), by refine ⟨?_, ?_, ?_, ?_, ?_, ?_, err_of _ (by decide +kernel)⟩ <;> decide +kernel⟩⟩

/-- States and operands that meet the hypotheses of each clause of `KeysNumbersAndNotes`. -/
theorem witness_KeysNumbersAndNotes :
    (∃ (s : State) (m : Master) (v : Word) (rivals : List Req), s.grants .cry 0xB0 m (v ||| bit 0) rivals ∧ m.overseer = true ∧ validEntry 3 (s.entry 3 (s.field .cry 0xAC 15 0)) = false ∧ (s.keySlot (s.field .cry 0xAC 15 0)).wiping = false) ∧
    (∃ (s : State) (m : Master) (v : Word) (rivals : List Req), s.grants .cry 0xB0 m (v ||| bit 0) rivals ∧ m.overseer = true ∧ (validEntry 3 (s.entry 3 (s.field .cry 0xAC 15 0)) = true ∨ (s.keySlot (s.field .cry 0xAC 15 0)).wiping = true)) ∧
    (∃ (s : State) (i : BitVec 16), s.slotUsed i.toNat = true) ∧
    (∃ (s : State) (i : BitVec 16), (s.keySlot i.toNat).wiping = true ∧ s.slotUsed i.toNat = false) ∧
    (∃ (s : State) (i : BitVec 16), validEntry 3 (s.entry 3 i.toNat) = true ∧ saState (s.entry 3 i.toNat) = 0 ∧ pnMax (s.entry 3 i.toNat) - nextPn (s.entry 3 i.toNat) ≤ s.warnRemain (s.entry 3 i.toNat) ∧ s.cry.notes.length < 64) ∧
    (∃ (s : State) (i : BitVec 16), saState (s.entry 3 i.toNat) ≠ 0) ∧
    (∃ (s : State) (i : BitVec 16), validEntry 3 (s.entry 3 i.toNat) = true ∧ saState (s.entry 3 i.toNat) ≠ 2 ∧ pnMax (s.entry 3 i.toNat) < nextPn (s.entry 3 i.toNat) ∧ s.cry.notes.length < 64) ∧
    (∃ (s : State) (m : Master) (rivals : List Req), s.grants .cry 0x74 m (bit 31) rivals) :=
  ⟨⟨put { T with cry := { T.cry with key := [1, 2, 3, 4, 5, 6, 7, 8], salt := [7, 8, 9] } } [(.cry, 0xAC, 65535)], .pf0, 2, [], by unfold State.grants State.takes; decide +kernel, by decide +kernel⟩,
   ⟨put { (withSa T 17 (saE 3 1)) with cry := { T.cry with key := [1, 2, 3, 4, 5, 6, 7, 8], salt := [7, 8, 9] } } [(.cry, 0xAC, 17)], .pf0, 2, [], by unfold State.grants State.takes; decide +kernel, by decide +kernel⟩,
   ⟨{ (withFrames T [{ frame0 with old := some [1], sa := 17 }] [(0, 1)]) with cry := { T.cry with slots := [(17, { slot0 with wiping := true }), (18, slot0)] } }, 17, by decide +kernel⟩,
   ⟨{ T with cry := { T.cry with slots := [(17, { slot0 with wiping := true }), (18, slot0)] } }, 17, by decide +kernel⟩,
   ⟨put (withSa T 17 (saX 1 1 0 [1, 2, 3, 4, 5, 6, 7, 8] (List.replicate 16 0) 0 0 0xFFFFFFF0 0)) [(.cry, 0x70, 100)], 17, by decide +kernel⟩,
   ⟨put (withSa T 17 (saX 1 1 0 [1, 2, 3, 4, 5, 6, 7, 8] (List.replicate 16 0) 0 0 0xFFFFFFF0 1)) [(.cry, 0x70, 100)], 17, by decide +kernel⟩,
   ⟨withSa T 17 (saX 1 1 0 [1, 2, 3, 4, 5, 6, 7, 8] (List.replicate 16 0) 0 0 0x100000000 1), 17, by decide +kernel⟩,
   ⟨{ T with cry := { T.cry with notes := [(1, 2), (2, 3)] } }, .pf0, [], by unfold State.grants State.takes; decide +kernel⟩⟩

/-- States and operands that meet the hypotheses of each clause of `CryptoOperationsFinish`. -/
theorem witness_CryptoOperationsFinish :
    (∃ (s : State) (f : Fin 1024) (q : Fin 256) (cipher tag : List Byte) (w : WqSt) (run : List Item) (e : Item) (b : Burst), s.wq f.val q.val = some w ∧ w.kind = 2 ∧ s.funcReports f.val = true ∧ s.runs .cry = true ∧ w.nextRun (cryServes 1) = some run ∧ lastOf run = some e ∧ e.part ≠ 0 ∧ s.grantOf f.val q.val e.idx = some b ∧ s.burstRead b = true ∧ (burstsOf (cryReads 1 run)).length ≤ e.part) ∧
    (∃ (s : State) (f : Fin 1024) (q : Fin 256) (plain : List Byte) (w : WqSt) (run : List Item) (e : Item) (b : Burst), s.wq f.val q.val = some w ∧ w.kind = 2 ∧ s.funcReports f.val = true ∧ s.runs .cry = true ∧ w.nextRun (cryServes 2) = some run ∧ lastOf run = some e ∧ e.part ≠ 0 ∧ s.grantOf f.val q.val e.idx = some b ∧ s.burstRead b = true ∧ (burstsOf (cryReads 2 run)).length ≤ e.part) ∧
    (∃ (s : State) (f : Fin 1024) (q : Fin 256) (plain : List Byte) (w : WqSt) (run : List Item) (e : Item) (b : Burst), s.wq f.val q.val = some w ∧ w.kind = 2 ∧ s.funcReports f.val = true ∧ s.runs .cry = true ∧ w.nextRun (cryServes 2) = some run ∧ lastOf run = some e ∧ e.part ≠ 0 ∧ s.grantOf f.val q.val e.idx = some b ∧ s.burstRead b = true ∧ (burstsOf (cryReads 2 run)).length ≤ e.part) ∧
    (∃ (s : State) (f : Fin 1024) (q : Fin 256) (cipher tag : List Byte) (w : WqSt) (run : List Item) (e : Item) (st res : Nat), s.wq f.val q.val = some w ∧ w.kind = 2 ∧ s.funcReports f.val = true ∧ s.runs .cry = true ∧ w.nextRun (cryServes 1) = some run ∧ lastOf run = some e ∧ s.funcRuns f.val = true ∧ s.admitsWork .cry = true ∧ e.part = 0 ∧ s.cryFault f.val 1 run = some (st, res)) ∧
    (∃ (s : State) (f : Fin 1024) (q : Fin 256) (plain : List Byte) (tagOk : Bool) (w : WqSt) (run : List Item) (e : Item) (st res : Nat), s.wq f.val q.val = some w ∧ w.kind = 2 ∧ s.funcReports f.val = true ∧ s.runs .cry = true ∧ w.nextRun (cryServes 2) = some run ∧ lastOf run = some e ∧ s.funcRuns f.val = true ∧ s.admitsWork .cry = true ∧ e.part = 0 ∧ s.cryFault f.val 2 run = some (st, res)) ∧
    (∃ (s u : State) (f : Fin 1024) (q : Fin 256) (data tag : List Byte) (tagOk : Bool) (op : Nat) (w : WqSt) (run : List Item) (e : Item), s.wq f.val q.val = some w ∧ w.kind = 2 ∧ s.funcReports f.val = true ∧ s.runs .cry = true ∧ ((op = 1 ∨ op = 2)) ∧ w.nextRun (cryServes op) = some run ∧ lastOf run = some e ∧ s.funcRuns f.val = true ∧ s.admitsWork .cry = true ∧ e.part = 0 ∧ s.cryFault f.val op run = none ∧ s.grantOf f.val q.val e.idx = none ∧ u = (s.setWq f.val q.val (some (w.asked run 1))).requestBurst f.val q.val e.idx 2 ((burstsOf (cryReads op run)).getD 0 []) none) ∧
    (∃ (s u : State) (f : Fin 1024) (q : Fin 256) (data tag : List Byte) (tagOk : Bool) (op : Nat) (w : WqSt) (run : List Item) (e : Item) (b : Burst), s.wq f.val q.val = some w ∧ w.kind = 2 ∧ s.funcReports f.val = true ∧ s.runs .cry = true ∧ ((op = 1 ∨ op = 2)) ∧ w.nextRun (cryServes op) = some run ∧ lastOf run = some e ∧ e.part ≠ 0 ∧ s.grantOf f.val q.val e.idx = some b ∧ s.burstRead b = true ∧ e.part < (burstsOf (cryReads op run)).length ∧ u = ((s.endBurst b).setWq f.val q.val (some (w.asked run (e.part + 1)))).requestBurst f.val q.val e.idx 2 ((burstsOf (cryReads op run)).getD e.part []) none) ∧
    (∃ (s u : State) (f : Fin 1024) (q : Fin 256) (data tag : List Byte) (tagOk : Bool) (op : Nat) (w : WqSt) (run : List Item) (e : Item) (b : Burst), s.wq f.val q.val = some w ∧ w.kind = 2 ∧ s.funcReports f.val = true ∧ s.runs .cry = true ∧ ((op = 1 ∨ op = 2)) ∧ w.nextRun (cryServes op) = some run ∧ lastOf run = some e ∧ e.part ≠ 0 ∧ s.grantOf f.val q.val e.idx = some b ∧ s.burstRead b = false ∧ u = s) :=
  ⟨⟨cryS 1 1 0x8000 [cryB], 0, 0, List.replicate 64 8, List.replicate 16 9, cryWq 1 1, cryRun 1 1, cryLast 1 1, cryB, by decide +kernel⟩,
   ⟨cryS 2 1 0x8000 [cryB], 0, 0, List.replicate 64 8, cryWq 2 1, cryRun 2 1, cryLast 2 1, cryB, by decide +kernel⟩,
   ⟨cryS 2 1 0x8000 [cryB], 0, 0, List.replicate 64 8, cryWq 2 1, cryRun 2 1, cryLast 2 1, cryB, by decide +kernel⟩,
   ⟨cryS 1 0 0x8001 [], 0, 0, List.replicate 64 8, List.replicate 16 9, cryWq 1 0, cryRun 1 0, cryLast 1 0, 7, 5, by decide +kernel⟩,
   ⟨cryS 2 0 0x8001 [], 0, 0, List.replicate 64 8, false, cryWq 2 0, cryRun 2 0, cryLast 2 0, 7, 5, by decide +kernel⟩,
   ⟨cryS 1 0 0x8000 [], ((cryS 1 0 0x8000 []).setWq 0 0 (some ((cryWq 1 0).asked (cryRun 1 0) 1))).requestBurst 0 0 4 2 ((burstsOf (cryReads 1 (cryRun 1 0))).getD 0 []) none, 0, 0, List.replicate 64 8, List.replicate 16 9, true, 1, cryWq 1 0, cryRun 1 0, cryLast 1 0, by decide +kernel⟩,
   ⟨longS, ((longS.endBurst cryB).setWq 0 0 (some ((longWq).asked (longRun) 2))).requestBurst 0 0 4 2 ((burstsOf (cryReads 1 longRun)).getD 1 []) none, 0, 0, List.replicate 64 8, List.replicate 16 9, true, 1, longWq, longRun, cryLast 1 1, cryB, by decide +kernel⟩,
   ⟨unread (cryS 1 1 0x8000 [cryB]) 1, unread (cryS 1 1 0x8000 [cryB]) 1, 0, 0, List.replicate 64 8, List.replicate 16 9, true, 1, cryWq 1 1, cryRun 1 1, cryLast 1 1, cryB, by decide +kernel⟩⟩

/-- States and operands that meet the hypotheses of each clause of `StorageConnections`. -/
theorem witness_StorageConnections :
    (∃ (s : State) (m : Master) (rivals : List Req), s.grants .sto 0x44 m (bit 0) rivals ∧ m.overseer = true ∧ s.connOk (s.field .sto 0x40 11 0) s.stagedConn = true) ∧
    (∃ (s : State) (m : Master) (rivals : List Req), s.grants .sto 0x44 m (bit 0) rivals ∧ m.overseer = true ∧ s.connOk (s.field .sto 0x40 11 0) s.stagedConn = false) ∧
    (∃ (s : State) (m : Master) (rivals : List Req), s.grants .sto 0x44 m (bit 1) rivals ∧ m.overseer = true) ∧
    (∃ (s : State) (m : Master) (rivals : List Req), s.grants .sto 0x44 m (bit 2) rivals ∧ m.overseer = true ∧ (connState (s.conn (s.field .sto 0x40 11 0)) = 1 ∨ connState (s.conn (s.field .sto 0x40 11 0)) = 5)) ∧
    (∃ (s : State) (m : Master) (rivals : List Req), s.grants .sto 0x44 m (bit 3) rivals ∧ m.overseer = true ∧ connState (s.conn (s.field .sto 0x40 11 0)) = 3) ∧
    (∃ (s : State) (c : Fin 4096) (cpda : BitVec 8) (hd dd : Bool) (mx : Word), s.connLive c.val = true ∧ connState (s.conn c.val) = 2 ∧ ((nbit (byteAt (s.conn c.val) 1) 2 = true → hd = true)) ∧ ((nbit (byteAt (s.conn c.val) 1) 3 = true → dd = true)) ∧ cpda.toNat ≤ 31 ∧ 4096 ≤ mx.toNat) ∧
    (∃ (s : State) (c : Fin 4096) (pfv cpda : BitVec 8) (dd : Bool) (mx : Word), s.connLive c.val = true ∧ connState (s.conn c.val) = 2 ∧ nbit (byteAt (s.conn c.val) 1) 2 = true) ∧
    (∃ (s : State) (c : Fin 4096) (pfv cpda : BitVec 8) (mx : Word), s.connLive c.val = true ∧ connState (s.conn c.val) = 2 ∧ (pfv ≠ 0 ∨ 31 < cpda.toNat ∨ mx.toNat < 4096)) ∧
    (∃ (s : State) (c : Fin 4096), s.connLive c.val = true ∧ connState (s.conn c.val) = 4 ∧ s.openOps c.val = []) ∧
    (∃ (s : State) (c : Fin 4096), s.connLive c.val = true ∧ connState (s.conn c.val) = 4 ∧ s.openOps c.val ≠ []) ∧
    (∃ (s : State) (c : Fin 4096), s.runs .sto = true ∧ c.val ∈ s.sto.finWait) :=
  ⟨⟨put (stageConn Q (ctx1 3 1 0x8000 0 0)) [(.sto, 0x40, 4095)], .pf0, [], by unfold State.grants State.takes; decide +kernel, by decide +kernel⟩,
   ⟨put (stageConn Q (ctx1 3 1 0 0 0)) [(.sto, 0x40, 4095)], .pf0, [], by unfold State.grants State.takes; decide +kernel, by decide +kernel⟩,
   ⟨put (withConn Q [(4095, ctx1 5 1 0x8000 3 9999)]) [(.sto, 0x40, 4095)], .pf0, [], by unfold State.grants State.takes; decide +kernel, by decide +kernel⟩,
   ⟨put (C 5) [(.sto, 0x40, 7)], .pf0, [], by unfold State.grants State.takes; decide +kernel, by decide +kernel⟩,
   ⟨put (C 3) [(.sto, 0x40, 7)], .pf0, [], by unfold State.grants State.takes; decide +kernel, by decide +kernel⟩,
   ⟨C 2, 7, 31, true, true, 4096, by decide +kernel⟩,
   ⟨C 2, 7, 0, 31, true, 4096, by decide +kernel⟩,
   ⟨C 2, 7, 0, 31, 4095, by decide +kernel⟩,
   ⟨C 4, 7, by decide +kernel⟩,
   ⟨withOps (C 4) [op1 1, { (op1 2) with id := 4 }], 7, by decide +kernel⟩,
   ⟨withSto (C 1) (fun x => { x with finWait := [7, 9] }), 7, by decide +kernel⟩⟩

/-- States and operands that meet the hypotheses of each clause of `ConnectionsFailAndSegmentsArrive`. -/
theorem witness_ConnectionsFailAndSegmentsArrive :
    (∃ (s : State) (c : Fin 4096), s.connLive c.val = true ∧ connState (s.conn c.val) = 2) ∧
    (∃ (s : State) (c : Fin 4096), s.connLive c.val = true ∧ Sparse.get 0 s.sto.retry c.val < byteAt (s.conn c.val) 70) ∧
    (∃ (s : State) (c : Fin 4096), s.connLive c.val = true ∧ byteAt (s.conn c.val) 70 ≤ Sparse.get 0 s.sto.retry c.val) ∧
    (∃ (s : State) (c : Fin 4096) (seq len : Nat), s.connLive c.val = true ∧ seq ≤ Sparse.get 0 s.sto.expect c.val ∧ ((∀ x ∈ s.sto.oos, x.1 ≠ c.val))) ∧
    (∃ (s : State) (c : Fin 4096) (seq len : Nat) (pduOk hdrOk : Bool), s.connLive c.val = true ∧ Sparse.get 0 s.sto.expect c.val < seq ∧ seq + len ≤ Sparse.get 0 s.sto.expect c.val + 262144 ∧ s.admits 10 (cellsOf len) = true) ∧
    (∃ (s : State) (c : Fin 4096) (seq len : Nat) (pduOk hdrOk : Bool), s.connLive c.val = true ∧ Sparse.get 0 s.sto.expect c.val < seq ∧ Sparse.get 0 s.sto.expect c.val + 262144 < seq + len) ∧
    (∃ (s : State) (c : Fin 4096) (seq len : Nat) (pduOk hdrOk : Bool), s.connLive c.val = true ∧ Sparse.get 0 s.sto.expect c.val < seq ∧ seq + len ≤ Sparse.get 0 s.sto.expect c.val + 262144 ∧ s.admits 10 (cellsOf len) = false) ∧
    (∃ (s : State) (c : Fin 4096) (seq len : Nat) (pduOk : Bool), s.connLive c.val = true ∧ seq ≤ Sparse.get 0 s.sto.expect c.val) ∧
    (∃ (s : State) (c : Fin 4096) (seq len : Nat), s.connLive c.val = true ∧ seq ≤ Sparse.get 0 s.sto.expect c.val) ∧
    (∃ (s : State) (c : Fin 4096), s.connLive c.val = true) ∧
    (∃ (s : State) (c : Fin 4096), s.connLive c.val = true) ∧
    (∃ (s : State) (c : Fin 4096) (fes : BitVec 8), s.connLive c.val = true) ∧
    (∃ (s : State) (c : Fin 4096) (cid : Nat), s.connLive c.val = true ∧ (s.stoOp c.val cid).isSome = true ∧ leAt (s.conn c.val) 66 2 ≠ 0) ∧
    (∃ (s : State) (c : Fin 4096) (cid : Nat), leAt (s.conn c.val) 66 2 = 0) :=
  ⟨⟨C 2, 7, by decide +kernel⟩,
   ⟨withSto (C 3) (fun x => { x with retry := [(7, 4)] }), 7, by decide +kernel⟩,
   ⟨withOps (withSto (C 3) (fun x => { x with retry := [(7, 5)] })) [op1 1, { (op1 2) with id := 4, conn := 9 }], 7, by decide +kernel⟩,
   ⟨withSto (C 3) (fun x => { x with retry := [(7, 5)], expect := [(7, 90)], oos := [(9, 100, 10)] }), 7, 90, 7, by decide +kernel⟩,
   ⟨withSto (C 3) (fun x => { x with retry := [(7, 5)], expect := [(7, 90)], oos := [(9, 100, 10)] }), 7, 91, 1000, true, false, by decide +kernel⟩,
   ⟨withSto (C 3) (fun x => { x with retry := [(7, 5)], expect := [(7, 90)], oos := [(9, 100, 10)] }), 7, 262144, 91, true, false, by decide +kernel⟩,
   ⟨{ (withSto (C 3) (fun x => { x with expect := [(7, 90)] })) with ham := { Q.ham with held := [(10, 122100)] } }, 7, 91, 1000, true, false, by decide +kernel⟩,
   ⟨withOps (C 3) [op1 1], 7, 0, 91, true, by decide +kernel⟩,
   ⟨withOps (C 3) [op1 1], 7, 0, 91, by decide +kernel⟩,
   ⟨withOps (C 3) [op1 1], 7, by decide +kernel⟩,
   ⟨C 4, 7, by decide +kernel⟩,
   ⟨C 4, 7, 200, by decide +kernel⟩,
   ⟨withOps (C 3) [op1 1], 7, 3, by decide +kernel⟩,
   ⟨withConn (withOps (C 3) [op1 1]) [(7, splice (ctx1 3 1 0x8000 0 4096) 66 [0, 0])], 7, 3, by decide +kernel⟩⟩

/-- States and operands that meet the hypotheses of each clause of `StorageOperations`. -/
theorem witness_StorageOperations :
    (∃ (s : State) (f : Fin 1024) (q : Fin 256) (sqe : List Byte) (w : WqSt) (i e : Item) (r : List Item), s.wq f.val q.val = some w ∧ w.kind = 3 ∧ s.funcRuns f.val = true ∧ s.admitsWork .sto = true ∧ w.nextRun (s.stoReady f.val) = some (i :: r) ∧ lastOf (i :: r) = some e ∧ s.stoFault f.val (i :: r) = none ∧ s.grantOf f.val q.val e.idx = none) ∧
    (∃ (s : State) (f : Fin 1024) (q : Fin 256) (sqe : List Byte) (w : WqSt) (i e : Item) (r : List Item) (b : Burst), s.wq f.val q.val = some w ∧ w.kind = 3 ∧ s.funcReports f.val = true ∧ s.runs .sto = true ∧ w.nextRun (s.stoReady f.val) = some (i :: r) ∧ lastOf (i :: r) = some e ∧ s.stoFault f.val (i :: r) = none ∧ s.grantOf f.val q.val e.idx = some b ∧ s.burstRead b = true ∧ sqe.length = 64 ∧ (s.openOps i.conn).length ≤ 1024) ∧
    (∃ (s : State) (f : Fin 1024) (q : Fin 256) (sqe : List Byte) (w : WqSt) (i e : Item) (r : List Item) (b : Burst), s.wq f.val q.val = some w ∧ w.kind = 3 ∧ w.nextRun (s.stoReady f.val) = some (i :: r) ∧ lastOf (i :: r) = some e ∧ s.stoFault f.val (i :: r) = none ∧ s.grantOf f.val q.val e.idx = some b ∧ s.burstRead b = false) ∧
    (∃ (s : State) (f : Fin 1024) (q : Fin 256) (sqe : List Byte) (w : WqSt) (i e : Item) (r : List Item) (st res : Nat), s.wq f.val q.val = some w ∧ w.kind = 3 ∧ s.funcReports f.val = true ∧ s.runs .sto = true ∧ w.nextRun (s.stoReady f.val) = some (i :: r) ∧ lastOf (i :: r) = some e ∧ s.stoFault f.val (i :: r) = some (st, res) ∧ (((s.funcRuns f.val = true ∧ s.admitsWork .sto = true) ∨ e.part ≠ 0))) ∧
    (∃ (s : State) (c : Fin 4096) (cid off : Nat) (data : List Byte) (digestOk lastOk : Bool) (o : StoOp), s.connLive c.val = true ∧ s.stoOp c.val cid = some o ∧ o.dir = 1 ∧ off + data.length ≤ o.total ∧ s.stoServes o.f = true ∧ o.digest = false) ∧
    (∃ (s : State) (c : Fin 4096) (cid off : Nat) (data : List Byte) (o : StoOp) (w : WqSt), s.connLive c.val = true ∧ s.stoOp c.val cid = some o ∧ o.dir = 1 ∧ off + data.length ≤ o.total ∧ s.stoServes o.f = true ∧ o.digest = false ∧ s.wq o.f o.q = some w) ∧
    (∃ (s : State) (c : Fin 4096) (cid off : Nat) (data : List Byte) (o : StoOp), s.connLive c.val = true ∧ s.stoOp c.val cid = some o ∧ o.dir = 1 ∧ off + data.length ≤ o.total ∧ s.stoServes o.f = true ∧ o.digest = false ∧ nbit (byteAt (s.conn c.val) 77) 1 = true) ∧
    (∃ (s : State) (c : Fin 4096) (cid off : Nat) (data : List Byte) (pduEnd digestOk lastOk : Bool), s.connLive c.val = true ∧ s.stoOp c.val cid = none) ∧
    (∃ (s : State) (c : Fin 4096) (cid off : Nat) (data : List Byte) (pduEnd digestOk lastOk : Bool) (o : StoOp), s.connLive c.val = true ∧ s.stoOp c.val cid = some o ∧ o.dir = 1 ∧ o.total < off + data.length) ∧
    (∃ (s : State) (c : Fin 4096) (cid : Nat) (cqe : List Byte) (o : StoOp) (w : WqSt), s.connLive c.val = true ∧ s.stoOp c.val cid = some o ∧ s.stoServes o.f = true ∧ o.digest = false ∧ s.wq o.f o.q = some w) ∧
    (∃ (s : State) (c : Fin 4096) (cid : Nat) (cqe : List Byte), s.connLive c.val = true ∧ s.stoOp c.val cid = none) ∧
    (∃ (s : State) (c : Fin 4096) (cid off len : Nat) (o : StoOp), s.connLive c.val = true ∧ s.stoOp c.val cid = some o ∧ o.dir = 2 ∧ off + len ≤ o.total ∧ s.funcRuns o.f = true ∧ 0 < len) ∧
    (∃ (s : State) (c : Fin 4096) (cid off len : Nat) (o : StoOp), s.connLive c.val = true ∧ s.stoOp c.val cid = some o ∧ o.dir = 2 ∧ off + len ≤ o.total ∧ s.funcRuns o.f = true ∧ 0 < len ∧ o.work = []) ∧
    (∃ (s : State) (id c oid off n : Nat) (l : List (Nat × Nat)) (r : HostRead) (b : Burst) (o : StoOp), s.runs .host = true ∧ s.readOf id = some r ∧ r.want = [] ∧ r.out = 1 ∧ r.use = .burst b.id ∧ s.ham.granted.find? (fun (a : Burst) => a.id = b.id) = some b ∧ b.op = some (c, oid) ∧ s.stoOp c oid = some o ∧ o.work = (off, n) :: l ∧ 0 < leAt (s.conn c) 72 4) ∧
    (∃ (s : State) (c : Fin 4096) (cid off len : Nat) (o : StoOp), s.connLive c.val = true ∧ s.stoOp c.val cid = some o ∧ o.dir = 2 ∧ o.total < off + len) :=
  ⟨⟨C 3, 0, 0, List.replicate 64 6, stoWq 1, (stoRun 1).getD 0 item0, (stoRun 1).getD 1 item0, (stoRun 1).drop 1, by decide +kernel⟩,
   ⟨stoGoS 1 (C 3), 0, 0, List.replicate 64 6, stoGoWq 1, (stoGo 1).getD 0 item0, (stoGo 1).getD 1 item0, (stoGo 1).drop 1, stoB, by decide +kernel⟩,
   ⟨withReads (stoGoS 1 (C 3)) [rd 4 0 (.burst 2) [] 1], 0, 0, List.replicate 64 6, stoGoWq 1, (stoGo 1).getD 0 item0, (stoGo 1).getD 1 item0, (stoGo 1).drop 1, stoB, by decide +kernel⟩,
   ⟨C 5, 0, 0, List.replicate 64 6, stoWq 1, (stoRun 1).getD 0 item0, (stoRun 1).getD 1 item0, (stoRun 1).drop 1, 7, 0x11, by decide +kernel⟩,
   ⟨withOps (C 3) [op1 1], 7, 3, 50, List.replicate 50 8, true, false, op1 1, by decide +kernel⟩,
   ⟨withOps (C 3) [op1 1], 7, 3, 50, List.replicate 50 8, op1 1, stoWq 1, by decide +kernel⟩,
   ⟨withOps (C 3) [op1 1], 7, 3, 50, List.replicate 50 8, op1 1, by decide +kernel⟩,
   ⟨withOps (C 3) [op1 1], 7, 4, 50, List.replicate 50 8, true, true, true, by decide +kernel⟩,
   ⟨withOps (C 3) [op1 1], 7, 3, 51, List.replicate 50 8, true, true, true, op1 1, by decide +kernel⟩,
   ⟨withOps (C 3) [op1 1], 7, 3, List.replicate 16 8, op1 1, stoWq 1, by decide +kernel⟩,
   ⟨withOps (C 3) [op1 1], 7, 4, List.replicate 16 8, by decide +kernel⟩,
   ⟨withOps (withConn (C 3) [(7, ctx1 3 1 0x8000 0 33)]) [op1 2], 7, 3, 0, 100, op1 2, by decide +kernel⟩,
   ⟨withOps (C 3) [op1 2], 7, 3, 0, 60, op1 2, by decide +kernel⟩,
   ⟨r2tS [(0, 60), (60, 40)] r2tB, 9, 7, 3, 0, 60, [(60, 40)], rd 9 0 (.burst 2) [] 1, r2tB, { (op1 2) with total := 100000, work := [(0, 60), (60, 40)] }, by decide +kernel⟩,
   ⟨withOps (C 3) [op1 2], 7, 3, 1, 100, op1 2, by decide +kernel⟩⟩

/-- States and operands that meet the hypotheses of each clause of `FramesReachThreads`. -/
theorem witness_FramesReachThreads :
    (∃ (s : State) (id c k : Nat) (x : Frame), s.frame id = some x ∧ x.loc = .dispatch c k ∧ x.gate = none ∧ s.dispatchWaits x = false ∧ s.tbl.bad = [] ∧ s.clusterTakes c = true ∧ s.admitsWork (nycIsland c) = true ∧ x.bad = false ∧ s.spoofed x = false ∧ s.queued c k < classRoom k ∧ x.part = .chan (11 + c) ∧ x.cells ≠ 0 ∧ s.baseServes c k = false ∧ s.takerFor c k = none) ∧
    (∃ (s : State) (id c k u : Nat) (x : Frame), s.frame id = some x ∧ x.loc = .dispatch c k ∧ x.gate = none ∧ s.dispatchWaits x = false ∧ s.tbl.bad = [] ∧ s.clusterTakes c = true ∧ s.admitsWork (nycIsland c) = true ∧ x.bad = false ∧ s.spoofed x = false ∧ s.queued c k < classRoom k ∧ x.part = .chan (11 + c) ∧ x.cells ≠ 0 ∧ s.baseServes c k = false ∧ s.takerFor c k = some u ∧ s.windowRoom c x = true) ∧
    (∃ (s : State) (id c k : Nat) (x : Frame), s.frame id = some x ∧ x.loc = .dispatch c k ∧ x.gate = none ∧ s.dispatchWaits x = false ∧ s.tbl.bad = [] ∧ s.clusterTakes c = true ∧ s.admitsWork (nycIsland c) = true ∧ x.bad = false ∧ x.func = false ∧ s.spoofed x = false ∧ classRoom k ≤ s.queued c k) ∧
    (∃ (s : State) (id c k : Nat) (x : Frame), s.frame id = some x ∧ x.loc = .dispatch c k ∧ x.gate = none ∧ s.dispatchWaits x = false ∧ s.tbl.bad = [] ∧ s.clusterTakes c = true ∧ s.admitsWork (nycIsland c) = true ∧ x.bad = false ∧ s.spoofed x = true) ∧
    (∃ (s : State) (id c k : Nat) (x : Frame), s.frame id = some x ∧ x.loc = .dispatch c k ∧ x.gate = none ∧ x.func = false ∧ s.dispatchWaits x = false ∧ s.clusterTakes c = false) ∧
    (∃ (s : State) (id c k : Nat) (x : Frame), s.frame id = some x ∧ x.loc = .dispatch c k ∧ x.gate = none ∧ s.dispatchWaits x = true) ∧
    (∃ (s : State) (id c k g : Nat) (x : Frame), s.frame id = some x ∧ x.loc = .dispatch c k ∧ x.gate = some g ∧ s.baseServes c k = true ∧ s.admitsWork (nycIsland c) = true ∧ x.bad = false) ∧
    (∃ (s : State) (c : Fin 8) (k : Fin 128) (x : Frame), (s.thread c.val k.val).st = .parked ∧ (s.thread c.val k.val).park = 3 ∧ (s.cluster c.val).takers.find? (fun u => decide ((s.thread c.val u).park = 3)) = some k.val ∧ (s.cluster c.val).halt = 0 ∧ s.frames.find? (fun x => decide (x.loc = .taking c.val k.val (s.thread c.val k.val).slot)) = some x ∧ s.windowRoom c.val x = true) ∧
    (∃ (s : State) (c : Fin 8) (k : Fin 128) (us : Nat), s.field (.nyc c) 0x4C 15 0 < us ∧ us < 262144 ∧ (s.thread c.val k.val).slots.any (·.isSome) = true ∧ (s.thread c.val k.val).st ≠ .halted ∧ (s.thread c.val k.val).st ≠ .idle ∧ s.runs (.nyc c) = true ∧ s.faultsAlone c k) ∧
    (∃ (s : State) (c : Fin 8) (k : Fin 128) (us : Nat), us ≤ s.field (.nyc c) 0x4C 15 0) ∧
    (∃ (s : State) (c : Fin 8) (k : Fin 128), (s.thread c.val k.val).st = .parked ∧ (s.thread c.val k.val).park = 5) ∧
    (∃ (s : State) (c : Fin 8) (r : TReq), s.nyate.treqs.find? (fun q => decide (q.c = c.val)) = some r ∧ s.treqHeads.any (fun q => decide (q.table = r.table) && decide (turn 8 (s.tbl.turns.getD r.table 7) q.c < turn 8 (s.tbl.turns.getD r.table 7) r.c)) = true) ∧
    (∃ (s : State) (c : Fin 8) (r : TReq), s.nyate.treqs.find? (fun q => decide (q.c = c.val)) = some r ∧ s.runs .tbl = true ∧ s.treqHeads.any (fun q => decide (q.table = r.table) && decide (turn 8 (s.tbl.turns.getD r.table 7) q.c < turn 8 (s.tbl.turns.getD r.table 7) r.c)) = false ∧ s.treqDenied r.bind (r.imm % 8) (r.imm / 16 % 4) (s.blockIndex c.val (r.t / 16) r.addr) (cleanEntry (r.imm / 16 % 4) (s.blockEntry c.val (r.t / 16) r.addr)) (nbit r.imm 8) = true ∧ r.dead = true) ∧
    (∃ (s u : State) (c : Fin 8) (r : TReq), s.nyate.treqs.find? (fun q => decide (q.c = c.val)) = some r ∧ s.runs .tbl = true ∧ s.treqHeads.any (fun q => decide (q.table = r.table) && decide (turn 8 (s.tbl.turns.getD r.table 7) q.c < turn 8 (s.tbl.turns.getD r.table 7) r.c)) = false ∧ s.treqDenied r.bind (r.imm % 8) (r.imm / 16 % 4) (s.blockIndex c.val (r.t / 16) r.addr) (cleanEntry (r.imm / 16 % 4) (s.blockEntry c.val (r.t / 16) r.addr)) (nbit r.imm 8) = false ∧ r.dead = false ∧ s.tbl.bad = [] ∧ u = { s with tbl := { s.tbl with turns := setAt 0 s.tbl.turns r.table r.c } }) ∧
    (∃ (s : State) (id c k ops : Nat) (x : Frame), s.frame id = some x ∧ x.loc = .engine c k ops false ∧ k < 128 ∧ s.engineRuns ops = true ∧ (ops = 4 ∨ ops = 8 ∨ ops = 12) ∧ x.bad = false ∧ x.cells ≠ 0 ∧ x.part = .chan (if ops = 8 then 8 else 9)) ∧
    (∃ (s : State) (id c k : Nat) (x : Frame), s.frame id = some x ∧ x.loc = .engine c k 2 false ∧ k < 128 ∧ s.engineRuns 2 = true ∧ x.bad = false ∧ x.cells ≠ 0 ∧ x.part = .chan 9 ∧ s.encapFault x = none ∧ cellsOf (x.rebuilt (encapsulate (s.encRec x.tun) x.body)).nonets.length = x.cells) ∧
    (∃ (s : State) (id c n : Nat) (x : Frame), s.frame id = some x ∧ x.loc = .engine c 128 2 false ∧ s.engineRuns 2 = true ∧ x.bad = false ∧ x.cells ≠ 0 ∧ x.part = .chan 9 ∧ s.encapFault x = none ∧ n = cellsOf (x.rebuilt (encapsulate (s.encRec x.tun) x.body)).nonets.length ∧ s.frames.any (fun z => decide (z.group = x.group) && decide (z.id ≠ x.id)) = false ∧ x.cells < n ∧ s.admits 9 (n - x.cells) = true) ∧
    (∃ (s : State) (id c n : Nat) (x : Frame), s.frame id = some x ∧ x.loc = .engine c 128 2 false ∧ s.engineRuns 2 = true ∧ x.bad = false ∧ x.func = false ∧ x.cells ≠ 0 ∧ x.part = .chan 9 ∧ s.encapFault x = none ∧ n = cellsOf (x.rebuilt (encapsulate (s.encRec x.tun) x.body)).nonets.length ∧ s.frames.any (fun z => decide (z.group = x.group) && decide (z.id ≠ x.id)) = false ∧ x.cells < n ∧ s.admits 9 (n - x.cells) = false) ∧
    (∃ (s : State) (id c k : Nat) (x : Frame), s.frame id = some x ∧ x.loc = .engine c k 1 false ∧ k < 128 ∧ s.engineRuns 1 = true ∧ x.bad = false ∧ x.cells ≠ 0 ∧ x.part = .chan 8 ∧ ((ipAt x.body = none ∨ x.fragment = true))) ∧
    (∃ (s : State) (id c k : Nat) (x : Frame), s.frame id = some x ∧ x.loc = .engine c k 1 false ∧ k < 128 ∧ s.engineRuns 1 = true ∧ (ipAt x.body).isSome = true ∧ x.fragment = false ∧ cellsOf (x.rebuilt (s.espOut x.sa (nextPn (s.entry 3 x.sa)) x.body)).nonets.length = x.cells ∧ x.bad = false ∧ x.cells ≠ 0 ∧ x.part = .chan 8 ∧ s.espOutFault x = none) ∧
    (∃ (s : State) (id c k ops : Nat) (x : Frame), s.frame id = some x ∧ x.loc = .engine c k ops false ∧ s.engineRuns ops = false) ∧
    (∃ (s : State) (id c : Nat) (x : Frame), s.frame id = some x ∧ x.loc = .engine c 128 4 false ∧ s.engineRuns 4 = true ∧ x.bad = false ∧ x.cells ≠ 0 ∧ x.part = .chan 9) :=
  ⟨⟨thr (dspS N) 2 18 (fun t => { t with bind := 0xFFF }), 1, 2, 3, dspF, by decide +kernel⟩,
   ⟨clu (thr (dspS N) 2 18 (taker 2)) 2 (fun x => { x with takers := [5, 18] }), 1, 2, 3, 18, dspF, by decide +kernel⟩,
   ⟨withFrames N (dspF :: List.replicate 96 { dspF with id := 2, gate := some 3 }) [(13, 97)], 1, 2, 3, dspF, by decide +kernel⟩,
   ⟨put (withFrames N [{ dspF with func := true, src := 1 }] [(13, 1)]) [(.swt, 0x40, 1)], 1, 2, 3, { dspF with func := true, src := 1 }, by decide +kernel⟩,
   ⟨clu (dspS N) 2 (fun x => { x with halt := 1 }), 1, 2, 3, dspF, by decide +kernel⟩,
   ⟨withFrames N [{ dspF with id := 2 }, dspF] [(13, 2)], 1, 2, 3, dspF, by decide +kernel⟩,
   ⟨bS N { bF (ipB 3 0xB5) with gate := some 3 }, 1, 2, 3, 3, { bF (ipB 3 0xB5) with gate := some 3 }, by decide +kernel⟩,
   ⟨clu (thr (withFrames N [{ dspF with loc := .taking 2 18 1 }] [(13, 1)]) 2 18 (taker 3)) 2 (fun x => { x with takers := [5, 18] }), 2, 18, { dspF with loc := .taking 2 18 1 }, by decide +kernel⟩,
   ⟨thr (withFrames N [{ dspF with loc := .held 2 18 1 }] [(13, 1)]) 2 18 (fun t => { t with slots := [none, some 1, none, none] }), 2, 18, 1001, by refine ⟨?_, ?_, ?_, ?_, ?_, ?_, (by unfold State.faultsAlone; decide +kernel)⟩ <;> decide +kernel⟩,
   ⟨thr (withFrames N [{ dspF with loc := .held 2 18 1 }] [(13, 1)]) 2 18 (fun t => { t with slots := [none, some 1, none, none] }), 2, 18, 1000, by decide +kernel⟩,
   ⟨thr N 2 18 (taker 5), 2, 18, by decide +kernel⟩,
   ⟨{ N with nyate := { N.nyate with treqs := [⟨1, 0, 1, 9, false, 0⟩, ⟨2, 18, 1, 100, false, 0⟩] } }, 2, ⟨2, 18, 1, 100, false, 0⟩, by decide +kernel⟩,
   ⟨{ N with nyate := { N.nyate with treqs := [⟨2, 18, 5, 100, true, 0x80000001⟩] } }, 2, ⟨2, 18, 5, 100, true, 0x80000001⟩, by decide +kernel⟩,
   ⟨taS1, tq taS1 ⟨2, 18, 1, 100, false, 0⟩, 2, ⟨2, 18, 1, 100, false, 0⟩, by decide +kernel⟩,
   ⟨engS 12 9, 1, 2, 18, 12, engF 12 9, by decide +kernel⟩,
   ⟨engS 2 9, 1, 2, 18, engF 2 9, by decide +kernel⟩,
   ⟨growS [(9, 1)], 1, 2, growN, growF, by decide +kernel⟩,
   ⟨growS [(9, 70000)], 1, 2, growN, growF, by decide +kernel⟩,
   ⟨withFrames (engS 1 8) [{ engF 1 8 with nonets := stitched (eth 5 [8, 6] 50) [] }] [(8, 1)], 1, 2, 18, { engF 1 8 with nonets := stitched (eth 5 [8, 6] 50) [] }, by decide +kernel⟩,
   ⟨engS 1 8, 1, 2, 18, engF 1 8, by decide +kernel⟩,
   ⟨{ (engS 1 8) with isl := (List.range 18).map (fun i => (i, { ready with mode := .off })) }, 1, 2, 18, 1, engF 1 8, by decide +kernel⟩,
   ⟨withFrames N [{ engF 4 9 with loc := .engine 2 128 4 false }] [(9, 1)], 1, 2, { engF 4 9 with loc := .engine 2 128 4 false }, by decide +kernel⟩⟩

/-- States and operands that meet the hypotheses of each clause of `BaseImageForwards`. -/
theorem witness_BaseImageForwards :
    (∃ (s : State) (id c k i : Nat) (x y : Frame), s.baseGets id c k x y ∧ s.ptpFrame y = false ∧ s.tunnelHit y.body = some i) ∧
    (∃ (s : State) (id c k i : Nat) (x y : Frame), s.baseGets id c k x y ∧ s.ptpFrame y = false ∧ s.tunnelHit y.body = none ∧ s.flowHit y = some i ∧ leAt (s.entry 1 i) 48 2 % 16 = 0 ∧ ((y.func = true → y.txf / 8 % 4 = 0))) ∧
    (∃ (s : State) (id c k i : Nat) (x y : Frame), s.baseGets id c k x y ∧ s.ptpFrame y = false ∧ s.tunnelHit y.body = none ∧ s.flowHit y = some i ∧ leAt (s.entry 1 i) 48 2 % 16 = 12 ∧ ((y.func = true → y.txf / 8 % 4 = 0))) ∧
    (∃ (s : State) (id c k i : Nat) (x y : Frame), s.baseGets id c k x y ∧ s.ptpFrame y = false ∧ s.tunnelHit y.body = none ∧ s.flowHit y = some i ∧ leAt (s.entry 1 i) 48 2 % 16 = 1 ∧ ((y.func = true → y.txf / 8 % 4 = 0))) ∧
    (∃ (s : State) (id c k i : Nat) (x y : Frame), s.baseGets id c k x y ∧ s.ptpFrame y = false ∧ s.tunnelHit y.body = none ∧ s.flowHit y = none ∧ s.macHit y = some i ∧ ((y.func = true → y.txf / 8 % 4 = 0))) ∧
    (∃ (s : State) (id c k : Nat) (x y : Frame), s.baseGets id c k x y ∧ s.ptpFrame y = false ∧ s.tunnelHit y.body = none ∧ s.flowHit y = none ∧ s.macHit y = none ∧ ((y.func = true → y.txf / 8 % 4 = 0)) ∧ (isGroup (dstAddr y.body) = true ∨ (y.func = false ∧ bitOn (s.reg .swt (0x60 + 4 * y.src)) 2 = false))) ∧
    (∃ (s : State) (id c k : Nat) (x y : Frame), s.baseGets id c k x y ∧ s.ptpFrame y = false ∧ s.tunnelHit y.body = none ∧ s.flowHit y = none ∧ s.macHit y = none ∧ isGroup (dstAddr y.body) = false ∧ y.func = false ∧ bitOn (s.reg .swt (0x60 + 4 * y.src)) 2 = true) ∧
    (∃ (s : State) (id c k : Nat) (x y : Frame), s.baseGets id c k x y ∧ s.tunnelHit y.body = none ∧ s.flowHit y = none ∧ s.macHit y = none ∧ isGroup (dstAddr y.body) = false ∧ y.func = true ∧ y.txf / 8 % 4 = 0) ∧
    (∃ (s : State) (id c k i : Nat) (x y : Frame), s.baseGets id c k x y ∧ s.tunnelHit y.body = none ∧ s.flowHit y = none ∧ s.macHit y = some i ∧ y.func = true ∧ y.txf / 8 % 4 = 1) ∧
    (∃ (s : State) (id c k : Nat) (x y : Frame), s.baseGets id c k x y ∧ s.ptpFrame y = true) :=
  ⟨⟨bS (withTbl N (fun t => { t with tun := [(7, tun9)] })) (bF (ipB 3 0xB5)), 1, 2, 3, 7, bF (ipB 3 0xB5), bG (bF (ipB 3 0xB5)), by unfold State.baseGets; decide +kernel, by decide +kernel⟩,
   ⟨bFlow 0, 1, 2, 3, wayOf 1 (flow9 0) 3, bF (ipB 3 0xB5), bG (bF (ipB 3 0xB5)), by unfold State.baseGets; decide +kernel, by decide +kernel⟩,
   ⟨bFlow 12, 1, 2, 3, wayOf 1 (flow9 12) 3, bF (ipB 3 0xB5), bG (bF (ipB 3 0xB5)), by unfold State.baseGets; decide +kernel, by decide +kernel⟩,
   ⟨bFlow 1, 1, 2, 3, wayOf 1 (flow9 1) 3, bF (ipB 3 0xB5), bG (bF (ipB 3 0xB5)), by unfold State.baseGets; decide +kernel, by decide +kernel⟩,
   ⟨bMac (bF (eth 5 [8, 6] 50)), 1, 2, 3, wayOf 0 (mac9 0) 3, bF (eth 5 [8, 6] 50), bG (bF (eth 5 [8, 6] 50)), by unfold State.baseGets; decide +kernel, by decide +kernel⟩,
   ⟨bS N (bF ([0x03, 0, 0, 0, 0, 9] ++ (eth 5 [8, 6] 50).drop 6)), 1, 2, 3, bF ([0x03, 0, 0, 0, 0, 9] ++ (eth 5 [8, 6] 50).drop 6), bG (bF ([0x03, 0, 0, 0, 0, 9] ++ (eth 5 [8, 6] 50).drop 6)), by unfold State.baseGets; decide +kernel, by decide +kernel⟩,
   ⟨bS (put N [(.swt, 0x6C, 4)]) ({ bF (eth 5 [8, 6] 50) with src := 3 }), 1, 2, 3, { bF (eth 5 [8, 6] 50) with src := 3 }, bG ({ bF (eth 5 [8, 6] 50) with src := 3 }), by unfold State.baseGets; decide +kernel, by decide +kernel⟩,
   ⟨bS (put N [(.swt, 0x48, 0x20000003)]) (bX 0), 1, 2, 3, bX 0, bG (bX 0), by unfold State.baseGets; decide +kernel, by decide +kernel⟩,
   ⟨bMac (bX 8), 1, 2, 3, wayOf 0 (mac9 0) 3, bX 8, bG (bX 8), by unfold State.baseGets; decide +kernel, by decide +kernel⟩,
   ⟨bS (put N [(.ptp, 0x40, 0x40)]) (bF (eth 5 [0x88, 0xF7] 50)), 1, 2, 3, bF (eth 5 [0x88, 0xF7] 50), bG (bF (eth 5 [0x88, 0xF7] 50)), by unfold State.baseGets; decide +kernel, by decide +kernel⟩⟩

/-- States and operands that meet the hypotheses of each clause of `ThreadAndClusterCommands`. -/
theorem witness_ThreadAndClusterCommands :
    (∃ (s : State) (c : Fin 8) (m : Master) (v : Word) (rivals : List Req), s.grants (.nyc c) 0x78 m (v ||| bit 31) rivals ∧ m.overseer = true ∧ c.val ∉ s.nyate.loads) ∧
    (∃ (s : State) (c : Fin 8) (image : List Byte) (sigOk : Bool) (n : Nat), c.val ∈ s.nyate.loads ∧ c.val ∉ s.nyate.bodies ∧ s.reading (.program c.val) = false ∧ s.readFailed (.program c.val) = false ∧ imageSize image = some n) ∧
    (∃ (s : State) (c : Fin 8) (image : List Byte) (sigOk : Bool), c.val ∈ s.nyate.loads ∧ s.reading (.program c.val) = true) ∧
    (∃ (s : State) (c : Fin 8) (image : List Byte) (sigOk : Bool), c.val ∈ s.nyate.loads ∧ c.val ∈ s.nyate.bodies ∧ s.reading (.program c.val) = false ∧ s.readFailed (.program c.val) = false ∧ slice image 0 4 = [0x4E, 0x59, 0x50, 0x47] ∧ leAt image 4 2 = 1 ∧ 1 ≤ leAt image 8 4 ∧ leAt image 8 4 ≤ 32768 ∧ leAt image 12 4 ≤ 65536 ∧ s.field (.nyc c) 0x7C 14 0 + leAt image 8 4 ≤ 32768 ∧ s.field (.nyc c) 0x7C 31 16 + leAt image 12 4 ≤ 65536 ∧ 64 + 8 * leAt image 8 4 + 4 * leAt image 12 4 + (if nbit (leAt image 6 2) 0 then 96 else 0) ≤ image.length ∧ ((s.keys.opKey = none ∨ (nbit (leAt image 6 2) 0 = true ∧ sigOk = true))) ∧ s.coreBusy c.val (s.field (.nyc c) 0x78 2 0) (s.field (.nyc c) 0x7C 14 0) (leAt image 8 4) (s.field (.nyc c) 0x7C 31 16) (leAt image 12 4) = false) ∧
    (∃ (s : State) (c : Fin 8) (image : List Byte) (sigOk hostError : Bool), c.val ∈ s.nyate.loads ∧ ((hostError = true ∨ s.reading (.program c.val) = false)) ∧ ((hostError = true ∨ s.readFailed (.program c.val) = true ∨ slice image 0 4 ≠ [0x4E, 0x59, 0x50, 0x47]))) ∧
    (∃ (s : State) (c : Fin 8) (m : Master) (rivals : List Req), s.grants (.nyc c) 0xA4 m (bit 0) rivals ∧ m.overseer = true ∧ s.threadState c.val (s.tsel c.val) = .idle) ∧
    (∃ (s : State) (c : Fin 8) (m : Master) (rivals : List Req), s.grants (.nyc c) 0xA4 m (bit 0) rivals ∧ m.overseer = true ∧ s.threadState c.val (s.tsel c.val) ≠ .idle) ∧
    (∃ (s : State) (c : Fin 8) (m : Master) (rivals : List Req), s.grants (.nyc c) 0xA4 m (bit 1) rivals ∧ m.overseer = true) ∧
    (∃ (s : State) (c : Fin 8) (rivals : List Req), s.grants (.nyc c) 0xA4 (.nyate c) (bit 2) rivals ∧ s.tsel c.val ≠ s.supervisor c.val) ∧
    (∃ (s : State) (c : Fin 8) (rivals : List Req), s.grants (.nyc c) 0xA4 (.nyate c) (bit 2) rivals ∧ s.tsel c.val = s.supervisor c.val) ∧
    (∃ (s : State) (c : Fin 8) (m : Master) (rivals : List Req), s.grants (.nyc c) 0x44 m (bit 0) rivals ∧ (m.overseer = true ∨ m = .nyate c)) ∧
    (∃ (s : State) (c : Fin 8) (m : Master) (rivals : List Req), s.grants (.nyc c) 0x44 m (bit 1) rivals ∧ m.overseer = true ∧ (s.cluster c.val).halt = 1 ∧ (s.cluster c.val).faults.length < 64) ∧
    (∃ (s : State) (c : Fin 8) (m : Master) (rivals : List Req), s.grants (.nyc c) 0x44 m (bit 1) rivals ∧ (m.overseer = false ∨ (s.cluster c.val).halt ≠ 1 ∨ 64 ≤ (s.cluster c.val).faults.length)) ∧
    (∃ (s : State) (c k : Fin 8) (m : Master) (v : Word) (rivals : List Req), s.grants (.nyc c) (0x50 + 4 * k.val) m v rivals ∧ m.overseer = true) ∧
    (∃ (s : State) (c k : Fin 8) (m : Master) (v : Word) (rivals : List Req), s.grants (.nyc c) (0x50 + 4 * k.val) m v rivals ∧ m.overseer = false) :=
  ⟨⟨put N [(.nyc 2, 0x70, 0x10047)], 2, .pf0, 0xFFFFFFFB, [], by unfold State.grants State.takes; decide +kernel, by decide +kernel⟩,
   ⟨loadS [] [], 2, prog, true, 84, by decide +kernel⟩,
   ⟨loadS [] [rd 4 0 (.program 2) [] 1], 2, prog, true, by decide +kernel⟩,
   ⟨put (loadS [2] []) [(.nyc 2, 0x78, 3), (.nyc 2, 0x7C, 0xFFFF7FFE)], 2, prog, false, by decide +kernel⟩,
   ⟨loadS [] [], 2, [], false, false, by decide +kernel⟩,
   ⟨thr N 2 18 (fun t => { t with st := .idle, sw := 3, entry := 0xFFFF }), 2, .pf0, [], by unfold State.grants State.takes; decide +kernel, by decide +kernel⟩,
   ⟨clu (thr N 2 18 (fun t => { t with st := .idle })) 2 (fun x => { x with halt := 1 }), 2, .pf0, [], by unfold State.grants State.takes; decide +kernel, by decide +kernel⟩,
   ⟨clu (thr (withFrames { N with nyate := { N.nyate with treqs := [⟨2, 18, 5, 100, false, 0⟩] } } [{ dspF with loc := .held 2 18 1 }] [(13, 1)]) 2 18 (fun t => { t with slots := [none, some 1, none, none] })) 2 (fun x => { x with takers := [18] }), 2, .pf0, [], by unfold State.grants State.takes; decide +kernel, by decide +kernel⟩,
   ⟨thr (withFrames N [{ dspF with loc := .held 2 18 1 }] [(13, 1)]) 2 18 (fun t => { t with slots := [none, some 1, none, none], entry := 77 }), 2, [], by unfold State.grants State.takes; decide +kernel, by decide +kernel⟩,
   ⟨put N [(.nyc 2, 0x48, 0x12)], 2, [], by unfold State.grants State.takes; decide +kernel, by decide +kernel⟩,
   ⟨clu N 2 (fun x => { x with faults := [⟨1, 2, 3, 4⟩, ⟨1, 2, 3, 5⟩] }), 2, .nyate 2, [], by unfold State.grants State.takes; decide +kernel, by decide +kernel⟩,
   ⟨clu N 2 (fun x => { x with halt := 1, faults := List.replicate 63 ⟨1, 2, 3, 4⟩ }), 2, .pf0, [], by unfold State.grants State.takes; decide +kernel, by decide +kernel⟩,
   ⟨clu N 2 (fun x => { x with halt := 1, faults := List.replicate 64 ⟨1, 2, 3, 4⟩ }), 2, .pf0, [], by unfold State.grants State.takes; decide +kernel, by decide +kernel⟩,
   ⟨put N [(.nyc 2, 0x6C, 0x00000013)], 2, 7, .pf0, 0xFFFFFFEE, [], by unfold State.grants State.takes; decide +kernel, by decide +kernel⟩,
   ⟨N, 2, 7, .nyate 2, 0x13, [], by unfold State.grants State.takes; decide +kernel, by decide +kernel⟩⟩

/-- States and operands that meet the hypotheses of each clause of `NyateArithmetic`. -/
theorem witness_NyateArithmetic :
    (∃ (s : State) (c : Fin 8) (k : Fin 128) (rd ra rb : BitVec 4) (imm : BitVec 18), s.issues c k 0x00 {} rd ra rb imm) ∧
    (∃ (s : State) (c : Fin 8) (k : Fin 128) (rd ra rb : BitVec 4) (imm : BitVec 18), s.issues c k 0x01 { rd := true, imm := true } rd ra rb imm) ∧
    (∃ (s : State) (c : Fin 8) (k : Fin 128) (rd ra rb : BitVec 4) (imm : BitVec 18), s.issues c k 0x02 formReg rd ra rb imm) ∧
    (∃ (s : State) (c : Fin 8) (k : Fin 128) (rd ra rb : BitVec 4) (imm : BitVec 18), s.issues c k 0x03 formImm rd ra rb imm) ∧
    (∃ (s : State) (c : Fin 8) (k : Fin 128) (rd ra rb : BitVec 4) (imm : BitVec 18), s.issues c k 0x04 formReg rd ra rb imm) ∧
    (∃ (s : State) (c : Fin 8) (k : Fin 128) (rd ra rb : BitVec 4) (imm : BitVec 18), s.issues c k 0x05 formImm rd ra rb imm) ∧
    (∃ (s : State) (c : Fin 8) (k : Fin 128) (rd ra rb : BitVec 4) (imm : BitVec 18), s.issues c k 0x06 formReg rd ra rb imm) ∧
    (∃ (s : State) (c : Fin 8) (k : Fin 128) (rd ra rb : BitVec 4) (imm : BitVec 18), s.issues c k 0x07 formImm rd ra rb imm) ∧
    (∃ (s : State) (c : Fin 8) (k : Fin 128) (rd ra rb : BitVec 4) (imm : BitVec 18), s.issues c k 0x08 formReg rd ra rb imm) ∧
    (∃ (s : State) (c : Fin 8) (k : Fin 128) (rd ra rb : BitVec 4) (imm : BitVec 18), s.issues c k 0x09 formImm rd ra rb imm) ∧
    (∃ (s : State) (c : Fin 8) (k : Fin 128) (rd ra rb : BitVec 4) (imm : BitVec 18), s.issues c k 0x10 { ra := true, rb := true } rd ra rb imm) ∧
    (∃ (s : State) (c : Fin 8) (k : Fin 128) (rd ra rb : BitVec 4) (imm : BitVec 18), s.issues c k 0x11 { ra := true, imm := true } rd ra rb imm) ∧
    (∃ (s : State) (c : Fin 8) (k : Fin 128) (rd ra rb : BitVec 4) (imm : BitVec 18), s.issues c k 0x1C { rd := true, ra := true } rd ra rb imm) ∧
    (∃ (s : State) (c : Fin 8) (k : Fin 128) (rd ra rb : BitVec 4) (imm : BitVec 18), s.issues c k 0x1D { rd := true, ra := true } rd ra rb imm) :=
  ⟨⟨A 192525 7 5, 2, 18, 0, 0, 0, 0, by unfold State.issues; decide +kernel⟩,
   ⟨A 192525 7 5, 2, 18, 4, 0, 0, 7, by unfold State.issues; decide +kernel⟩,
   ⟨A 192525 7 5, 2, 18, 4, 5, 6, 0, by unfold State.issues; decide +kernel⟩,
   ⟨A 192525 7 5, 2, 18, 4, 5, 0, 7, by unfold State.issues; decide +kernel⟩,
   ⟨A 192525 7 5, 2, 18, 4, 5, 6, 0, by unfold State.issues; decide +kernel⟩,
   ⟨A 192525 7 5, 2, 18, 4, 5, 0, 7, by unfold State.issues; decide +kernel⟩,
   ⟨A 192525 7 5, 2, 18, 4, 5, 6, 0, by unfold State.issues; decide +kernel⟩,
   ⟨A 192525 7 5, 2, 18, 4, 5, 0, 7, by unfold State.issues; decide +kernel⟩,
   ⟨A 192525 7 5, 2, 18, 4, 5, 6, 0, by unfold State.issues; decide +kernel⟩,
   ⟨A 192525 7 5, 2, 18, 4, 5, 0, 7, by unfold State.issues; decide +kernel⟩,
   ⟨A 192525 7 5, 2, 18, 0, 5, 6, 0, by unfold State.issues; decide +kernel⟩,
   ⟨A 192525 7 5, 2, 18, 0, 5, 0, 7, by unfold State.issues; decide +kernel⟩,
   ⟨A 192525 7 5, 2, 18, 4, 5, 0, 0, by unfold State.issues; decide +kernel⟩,
   ⟨A 192525 7 5, 2, 18, 4, 5, 0, 0, by unfold State.issues; decide +kernel⟩⟩

/-- States and operands that meet the hypotheses of each clause of `NyateLogicAndShifts`. -/
theorem witness_NyateLogicAndShifts :
    (∃ (s : State) (c : Fin 8) (k : Fin 128) (rd ra rb : BitVec 4) (imm : BitVec 18), s.issues c k 0x0A formReg rd ra rb imm) ∧
    (∃ (s : State) (c : Fin 8) (k : Fin 128) (rd ra rb : BitVec 4) (imm : BitVec 18), s.issues c k 0x0B formImm rd ra rb imm) ∧
    (∃ (s : State) (c : Fin 8) (k : Fin 128) (rd ra rb : BitVec 4) (imm : BitVec 18), s.issues c k 0x0C formReg rd ra rb imm) ∧
    (∃ (s : State) (c : Fin 8) (k : Fin 128) (rd ra rb : BitVec 4) (imm : BitVec 18), s.issues c k 0x0D formImm rd ra rb imm) ∧
    (∃ (s : State) (c : Fin 8) (k : Fin 128) (rd ra rb : BitVec 4) (imm : BitVec 18), s.issues c k 0x0E formReg rd ra rb imm) ∧
    (∃ (s : State) (c : Fin 8) (k : Fin 128) (rd ra rb : BitVec 4) (imm : BitVec 18), s.issues c k 0x0F formImm rd ra rb imm) ∧
    (∃ (s : State) (c : Fin 8) (k : Fin 128) (rd ra rb : BitVec 4) (imm : BitVec 18), s.issues c k 0x12 formReg rd ra rb imm) ∧
    (∃ (s : State) (c : Fin 8) (k : Fin 128) (rd ra rb : BitVec 4) (imm : BitVec 18), s.issues c k 0x13 formImm rd ra rb imm) ∧
    (∃ (s : State) (c : Fin 8) (k : Fin 128) (rd ra rb : BitVec 4) (imm : BitVec 18), s.issues c k 0x14 formReg rd ra rb imm) ∧
    (∃ (s : State) (c : Fin 8) (k : Fin 128) (rd ra rb : BitVec 4) (imm : BitVec 18), s.issues c k 0x15 formImm rd ra rb imm) ∧
    (∃ (s : State) (c : Fin 8) (k : Fin 128) (rd ra rb : BitVec 4) (imm : BitVec 18), s.issues c k 0x16 formReg rd ra rb imm) ∧
    (∃ (s : State) (c : Fin 8) (k : Fin 128) (rd ra rb : BitVec 4) (imm : BitVec 18), s.issues c k 0x17 formImm rd ra rb imm) ∧
    (∃ (s : State) (c : Fin 8) (k : Fin 128) (rd ra rb : BitVec 4) (imm : BitVec 18), s.issues c k 0x18 formReg rd ra rb imm) ∧
    (∃ (s : State) (c : Fin 8) (k : Fin 128) (rd ra rb : BitVec 4) (imm : BitVec 18), s.issues c k 0x19 formImm rd ra rb imm) ∧
    (∃ (s : State) (c : Fin 8) (k : Fin 128) (rd ra rb : BitVec 4) (imm : BitVec 18), s.issues c k 0x1A formReg rd ra rb imm) ∧
    (∃ (s : State) (c : Fin 8) (k : Fin 128) (rd ra rb : BitVec 4) (imm : BitVec 18), s.issues c k 0x1B formImm rd ra rb imm) ∧
    (∃ (s : State) (c : Fin 8) (k : Fin 128) (rd ra rb : BitVec 4) (imm : BitVec 18), s.issues c k 0x22 { rd := true } rd ra rb imm) ∧
    (∃ (s : State) (c : Fin 8) (k : Fin 128) (rd ra rb : BitVec 4) (imm : BitVec 18), s.issues c k 0x23 { ra := true } rd ra rb imm) :=
  ⟨⟨A 192525 7 5, 2, 18, 4, 5, 6, 0, by unfold State.issues; decide +kernel⟩,
   ⟨A 192525 7 5, 2, 18, 4, 5, 0, 7, by unfold State.issues; decide +kernel⟩,
   ⟨A 192525 7 5, 2, 18, 4, 5, 6, 0, by unfold State.issues; decide +kernel⟩,
   ⟨A 192525 7 5, 2, 18, 4, 5, 0, 7, by unfold State.issues; decide +kernel⟩,
   ⟨A 192525 7 5, 2, 18, 4, 5, 6, 0, by unfold State.issues; decide +kernel⟩,
   ⟨A 192525 7 5, 2, 18, 4, 5, 0, 7, by unfold State.issues; decide +kernel⟩,
   ⟨A 192525 7 5, 2, 18, 4, 5, 6, 0, by unfold State.issues; decide +kernel⟩,
   ⟨A 192525 7 5, 2, 18, 4, 5, 0, 7, by unfold State.issues; decide +kernel⟩,
   ⟨A 192525 7 5, 2, 18, 4, 5, 6, 0, by unfold State.issues; decide +kernel⟩,
   ⟨A 192525 7 5, 2, 18, 4, 5, 0, 7, by unfold State.issues; decide +kernel⟩,
   ⟨A 192525 7 5, 2, 18, 4, 5, 6, 0, by unfold State.issues; decide +kernel⟩,
   ⟨A 192525 7 5, 2, 18, 4, 5, 0, 7, by unfold State.issues; decide +kernel⟩,
   ⟨A 192525 7 5, 2, 18, 4, 5, 6, 0, by unfold State.issues; decide +kernel⟩,
   ⟨A 192525 7 5, 2, 18, 4, 5, 0, 7, by unfold State.issues; decide +kernel⟩,
   ⟨A 192525 7 5, 2, 18, 4, 5, 6, 0, by unfold State.issues; decide +kernel⟩,
   ⟨A 192525 7 5, 2, 18, 4, 5, 0, 7, by unfold State.issues; decide +kernel⟩,
   ⟨A 192525 7 5, 2, 18, 4, 0, 0, 0, by unfold State.issues; decide +kernel⟩,
   ⟨A 192525 7 5, 2, 18, 0, 5, 0, 0, by unfold State.issues; decide +kernel⟩⟩

/-- States and operands that meet the hypotheses of each clause of `NyateMultiplyAndDivide`. -/
theorem witness_NyateMultiplyAndDivide :
    (∃ (s : State) (c : Fin 8) (k : Fin 128) (rd ra rb : BitVec 4) (imm : BitVec 18), s.issues c k 0x1E { formReg with pairD := true } rd ra rb imm) ∧
    (∃ (s : State) (c : Fin 8) (k : Fin 128) (rd ra rb : BitVec 4) (imm : BitVec 18), s.issues c k 0x1F { formReg with pairD := true } rd ra rb imm) ∧
    (∃ (s : State) (c : Fin 8) (k : Fin 128) (rd ra rb : BitVec 4) (imm : BitVec 18), s.issues c k 0x20 { formReg with pairD := true } rd ra rb imm ∧ (s.treg c k rb) ≠ 0) ∧
    (∃ (s : State) (c : Fin 8) (k : Fin 128) (rd ra rb : BitVec 4) (imm : BitVec 18), s.issues c k 0x21 { formReg with pairD := true } rd ra rb imm ∧ (s.treg c k rb) ≠ 0) ∧
    (∃ (s : State) (c : Fin 8) (k : Fin 128) (rd ra rb : BitVec 4) (imm : BitVec 18), s.issues c k 0x20 { formReg with pairD := true } rd ra rb imm ∧ (s.treg c k rb) = 0 ∧ (s.thread c.val k.val).sw.getLsbD 8 = false) ∧
    (∃ (s : State) (c : Fin 8) (k : Fin 128) (rd ra rb : BitVec 4) (imm : BitVec 18), s.issues c k 0x20 { formReg with pairD := true } rd ra rb imm ∧ (s.treg c k rb) = 0 ∧ (s.thread c.val k.val).sw.getLsbD 8 = true ∧ s.faultsAlone c k) ∧
    (∃ (s : State) (c : Fin 8) (k : Fin 128) (rd ra rb : BitVec 4) (imm : BitVec 18), s.issues c k 0x21 { formReg with pairD := true } rd ra rb imm ∧ (s.treg c k rb) = 0 ∧ (s.thread c.val k.val).sw.getLsbD 8 = false) ∧
    (∃ (s : State) (c : Fin 8) (k : Fin 128) (rd ra rb : BitVec 4) (imm : BitVec 18), s.issues c k 0x21 { formReg with pairD := true } rd ra rb imm ∧ (s.treg c k rb) = 0 ∧ (s.thread c.val k.val).sw.getLsbD 8 = true ∧ s.faultsAlone c k) :=
  ⟨⟨A 192525 7 5, 2, 18, 4, 5, 6, 0, by unfold State.issues; decide +kernel⟩,
   ⟨A 192525 7 5, 2, 18, 4, 5, 6, 0, by unfold State.issues; decide +kernel⟩,
   ⟨A 192525 7 5, 2, 18, 4, 5, 6, 0, by unfold State.issues; decide +kernel, by decide +kernel⟩,
   ⟨A 192525 7 5, 2, 18, 4, 5, 6, 0, by unfold State.issues; decide +kernel, by decide +kernel⟩,
   ⟨A 192525 0 5, 2, 18, 4, 5, 6, 0, by unfold State.issues; decide +kernel, by decide +kernel⟩,
   ⟨A 192525 0 261, 2, 18, 4, 5, 6, 0, by unfold State.issues; decide +kernel, by decide +kernel, by decide +kernel, by unfold State.faultsAlone; decide +kernel⟩,
   ⟨A 192525 0 5, 2, 18, 4, 5, 6, 0, by unfold State.issues; decide +kernel, by decide +kernel⟩,
   ⟨A 192525 0 261, 2, 18, 4, 5, 6, 0, by unfold State.issues; decide +kernel, by decide +kernel, by decide +kernel, by unfold State.faultsAlone; decide +kernel⟩⟩

/-- States and operands that meet the hypotheses of each clause of `NyateIssueFaults`. -/
theorem witness_NyateIssueFaults :
    (∃ (s : State) (c : Fin 8) (k : Fin 128) (rd ra rb : BitVec 4) (imm : BitVec 18), s.canIssue c.val k.val = true ∧ (s.thread c.val k.val).pc < (s.thread c.val k.val).ilen ∧ (s.thread c.val k.val).ibase + (s.thread c.val k.val).pc < 32768 ∧ ((s.fetched c.val k.val = none ∨ s.fetched c.val k.val = some (nWord 0x00 rd ra rb imm))) ∧ ({} : Form).illegal rd ra rb imm = true ∧ s.faultsAlone c k) ∧
    (∃ (s : State) (c : Fin 8) (k : Fin 128) (rd ra rb : BitVec 4) (imm : BitVec 18), s.canIssue c.val k.val = true ∧ (s.thread c.val k.val).pc < (s.thread c.val k.val).ilen ∧ (s.thread c.val k.val).ibase + (s.thread c.val k.val).pc < 32768 ∧ ((s.fetched c.val k.val = none ∨ s.fetched c.val k.val = some (nWord 0x02 rd ra rb imm))) ∧ formReg.illegal rd ra rb imm = true ∧ s.faultsAlone c k) ∧
    (∃ (s : State) (c : Fin 8) (k : Fin 128) (rd ra rb : BitVec 4) (imm : BitVec 18), s.canIssue c.val k.val = true ∧ (s.thread c.val k.val).pc < (s.thread c.val k.val).ilen ∧ (s.thread c.val k.val).ibase + (s.thread c.val k.val).pc < 32768 ∧ ((s.fetched c.val k.val = none ∨ s.fetched c.val k.val = some (nWord 0x03 rd ra rb imm))) ∧ formImm.illegal rd ra rb imm = true ∧ s.faultsAlone c k) ∧
    (∃ (s : State) (c : Fin 8) (k : Fin 128) (rd ra rb : BitVec 4) (imm : BitVec 18), s.canIssue c.val k.val = true ∧ (s.thread c.val k.val).ilen ≤ (s.thread c.val k.val).pc ∧ (s.thread c.val k.val).pc < 2 ^ 18 ∧ s.faultsAlone c k) ∧
    (∃ (s : State) (c : Fin 8) (k : Fin 128) (rd ra rb : BitVec 4) (imm : BitVec 18), s.canIssue c.val k.val = false) ∧
    (∃ (s : State) (c : Fin 8) (k : Fin 128) (rd ra rb : BitVec 4) (imm : BitVec 18) (w : Nat), s.fetched c.val k.val = some w ∧ w / 2 ^ 12 % 64 < 0x3D ∧ w ≠ nWord 0x02 rd ra rb imm ∧ (s.thread c.val k.val).pc < (s.thread c.val k.val).ilen ∧ (s.thread c.val k.val).ibase + (s.thread c.val k.val).pc < 32768) :=
  ⟨⟨N, 2, 18, 0, 0, 0, 1, by refine ⟨?_, ?_, ?_, ?_, ?_, (by unfold State.faultsAlone; decide +kernel)⟩ <;> decide +kernel⟩,
   ⟨N, 2, 18, 4, 5, 6, 1, by refine ⟨?_, ?_, ?_, ?_, ?_, (by unfold State.faultsAlone; decide +kernel)⟩ <;> decide +kernel⟩,
   ⟨N, 2, 18, 4, 5, 6, 1, by refine ⟨?_, ?_, ?_, ?_, ?_, (by unfold State.faultsAlone; decide +kernel)⟩ <;> decide +kernel⟩,
   ⟨thr N 2 18 (fun t => { t with pc := 0x100 }), 2, 18, 4, 5, 6, 1, by decide +kernel, by decide +kernel, by decide +kernel, by unfold State.faultsAlone; decide +kernel⟩,
   ⟨thr N 2 18 (fun t => { t with st := .parked }), 2, 18, 4, 5, 6, 0, by decide +kernel⟩,
   ⟨{ N with nyate := { N.nyate with imem := [(32768 * 17 + 7, 0x3C000)] } }, 2, 18, 4, 5, 6, 0, 0x3C000, by decide +kernel⟩⟩

/-- States and operands that meet the hypotheses of each clause of `NyateMemoryAndWindow`. -/
theorem witness_NyateMemoryAndWindow :
    (∃ (s : State) (c : Fin 8) (k : Fin 128) (rd ra rb : BitVec 4) (imm : BitVec 18), s.issues c k 0x24 formImm rd ra rb imm ∧ (s.taddr c k ra imm) < (s.thread c.val k.val).dlen ∧ (s.thread c.val k.val).dbase + (s.taddr c k ra imm) < 65536) ∧
    (∃ (s : State) (c : Fin 8) (k : Fin 128) (rd ra rb : BitVec 4) (imm : BitVec 18), s.issues c k 0x25 formImm rd ra rb imm ∧ (s.taddr c k ra imm) < (s.thread c.val k.val).dlen ∧ (s.thread c.val k.val).dbase + (s.taddr c k ra imm) < 65536) ∧
    (∃ (s : State) (c : Fin 8) (k : Fin 128) (rd ra rb : BitVec 4) (imm : BitVec 18), s.issues c k 0x24 formImm rd ra rb imm ∧ ((s.thread c.val k.val).dlen ≤ (s.taddr c k ra imm) ∨ 65536 ≤ (s.thread c.val k.val).dbase + (s.taddr c k ra imm)) ∧ s.faultsAlone c k) ∧
    (∃ (s : State) (c : Fin 8) (k : Fin 128) (rd ra rb : BitVec 4) (imm : BitVec 18), s.issues c k 0x25 formImm rd ra rb imm ∧ ((s.thread c.val k.val).dlen ≤ (s.taddr c k ra imm) ∨ 65536 ≤ (s.thread c.val k.val).dbase + (s.taddr c k ra imm)) ∧ s.faultsAlone c k) ∧
    (∃ (s : State) (c : Fin 8) (k : Fin 128) (rd ra rb : BitVec 4) (imm : BitVec 18) (x : Frame), s.issues c k 0x26 formWin rd ra rb imm ∧ s.slotFrame (s.thread c.val k.val) rb = some x ∧ (s.taddr c k ra imm) + 1 ≤ x.nonets.length ∧ x.bad = false) ∧
    (∃ (s : State) (c : Fin 8) (k : Fin 128) (rd ra rb : BitVec 4) (imm : BitVec 18) (x : Frame), s.issues c k 0x27 formWin rd ra rb imm ∧ s.slotFrame (s.thread c.val k.val) rb = some x ∧ (s.taddr c k ra imm) + 1 ≤ x.nonets.length ∧ x.bad = false) ∧
    (∃ (s : State) (c : Fin 8) (k : Fin 128) (rd ra rb : BitVec 4) (imm : BitVec 18) (x : Frame), s.issues c k 0x28 formWin rd ra rb imm ∧ s.slotFrame (s.thread c.val k.val) rb = some x ∧ (s.taddr c k ra imm) + 2 ≤ x.nonets.length ∧ x.bad = false) ∧
    (∃ (s : State) (c : Fin 8) (k : Fin 128) (rd ra rb : BitVec 4) (imm : BitVec 18) (x : Frame), s.issues c k 0x29 formWin rd ra rb imm ∧ s.slotFrame (s.thread c.val k.val) rb = some x ∧ (s.taddr c k ra imm) + 1 ≤ x.nonets.length ∧ x.bad = false) ∧
    (∃ (s : State) (c : Fin 8) (k : Fin 128) (rd ra rb : BitVec 4) (imm : BitVec 18) (x : Frame), s.issues c k 0x2A formWin rd ra rb imm ∧ s.slotFrame (s.thread c.val k.val) rb = some x ∧ (s.taddr c k ra imm) + 1 ≤ x.nonets.length ∧ x.bad = false) ∧
    (∃ (s : State) (c : Fin 8) (k : Fin 128) (rd ra rb : BitVec 4) (imm : BitVec 18) (x : Frame), s.issues c k 0x2B formWin rd ra rb imm ∧ s.slotFrame (s.thread c.val k.val) rb = some x ∧ (s.taddr c k ra imm) + 2 ≤ x.nonets.length ∧ x.bad = false) ∧
    (∃ (s : State) (c : Fin 8) (k : Fin 128) (rd ra rb : BitVec 4) (imm : BitVec 18) (x : Frame), s.issues c k 0x2C formWin rd ra rb imm ∧ s.slotFrame (s.thread c.val k.val) rb = some x ∧ (s.taddr c k ra imm) + 1 ≤ x.nonets.length ∧ x.bad = false) ∧
    (∃ (s : State) (c : Fin 8) (k : Fin 128) (rd ra rb : BitVec 4) (imm : BitVec 18), s.issues c k 0x26 formWin rd ra rb imm ∧ s.slotFrame (s.thread c.val k.val) rb = none ∧ s.faultsAlone c k) ∧
    (∃ (s : State) (c : Fin 8) (k : Fin 128) (rd ra rb : BitVec 4) (imm : BitVec 18) (x : Frame), s.issues c k 0x26 formWin rd ra rb imm ∧ s.slotFrame (s.thread c.val k.val) rb = some x ∧ x.nonets.length ≤ (s.taddr c k ra imm) ∧ s.faultsAlone c k) ∧
    (∃ (s : State) (c : Fin 8) (k : Fin 128) (rd ra rb : BitVec 4) (imm : BitVec 18) (x : Frame), s.issues c k 0x26 formWin rd ra rb imm ∧ s.slotFrame (s.thread c.val k.val) rb = some x ∧ (s.taddr c k ra imm) + 2 ≤ x.nonets.length ∧ x.bad = true ∧ s.faultsAlone c k) ∧
    (∃ (s : State) (c : Fin 8) (k : Fin 128) (rd ra rb : BitVec 4) (imm : BitVec 18), s.issues c k 0x29 formWin rd ra rb imm ∧ s.slotFrame (s.thread c.val k.val) rb = none ∧ s.faultsAlone c k) ∧
    (∃ (s : State) (c : Fin 8) (k : Fin 128) (rd ra rb : BitVec 4) (imm : BitVec 18) (x : Frame), s.issues c k 0x29 formWin rd ra rb imm ∧ s.slotFrame (s.thread c.val k.val) rb = some x ∧ x.nonets.length ≤ (s.taddr c k ra imm) ∧ s.faultsAlone c k) ∧
    (∃ (s : State) (c : Fin 8) (k : Fin 128) (rd ra rb : BitVec 4) (imm : BitVec 18) (x : Frame), s.issues c k 0x29 formWin rd ra rb imm ∧ s.slotFrame (s.thread c.val k.val) rb = some x ∧ (s.taddr c k ra imm) + 2 ≤ x.nonets.length ∧ x.bad = true ∧ s.faultsAlone c k) ∧
    (∃ (s : State) (c : Fin 8) (k : Fin 128) (rd ra rb : BitVec 4) (imm : BitVec 18), s.issues c k 0x28 formWin rd ra rb imm ∧ s.slotFrame (s.thread c.val k.val) rb = none ∧ s.faultsAlone c k) ∧
    (∃ (s : State) (c : Fin 8) (k : Fin 128) (rd ra rb : BitVec 4) (imm : BitVec 18) (x : Frame), s.issues c k 0x28 formWin rd ra rb imm ∧ s.slotFrame (s.thread c.val k.val) rb = some x ∧ x.nonets.length ≤ (s.taddr c k ra imm) ∧ s.faultsAlone c k) ∧
    (∃ (s : State) (c : Fin 8) (k : Fin 128) (rd ra rb : BitVec 4) (imm : BitVec 18) (x : Frame), s.issues c k 0x28 formWin rd ra rb imm ∧ s.slotFrame (s.thread c.val k.val) rb = some x ∧ (s.taddr c k ra imm) + 2 ≤ x.nonets.length ∧ x.bad = true ∧ s.faultsAlone c k) ∧
    (∃ (s : State) (c : Fin 8) (k : Fin 128) (rd ra rb : BitVec 4) (imm : BitVec 18) (x : Frame) (i : Nat), s.issues c k 0x2D formWin rd ra rb imm ∧ s.slotFrame (s.thread c.val k.val) rb = some x ∧ x.bad = false ∧ (s.taddr c k ra imm) ≤ i ∧ i < x.nonets.length ∧ (nonetAt x.nonets i).getLsbD 8 = true ∧ ((∀ j, (s.taddr c k ra imm) ≤ j → j < i → (nonetAt x.nonets j).getLsbD 8 = false))) ∧
    (∃ (s : State) (c : Fin 8) (k : Fin 128) (rd ra rb : BitVec 4) (imm : BitVec 18) (x : Frame), s.issues c k 0x2D formWin rd ra rb imm ∧ s.slotFrame (s.thread c.val k.val) rb = some x ∧ x.bad = false ∧ ((∀ j, (s.taddr c k ra imm) ≤ j → j < x.nonets.length → (nonetAt x.nonets j).getLsbD 8 = false))) :=
  ⟨⟨(A 0xFFF 3 5).setDmem 2 1 (64 + 5) 77, 2, 18, 4, 5, 0, 0x3F006, by unfold State.issues; decide +kernel, by decide +kernel⟩,
   ⟨A 0xFFF 3 5, 2, 18, 4, 5, 0, 0x3F006, by unfold State.issues; decide +kernel, by decide +kernel⟩,
   ⟨thr N 2 18 (fun t => { t with data := 0x00020040 }), 2, 18, 4, 5, 0, 0x80, by unfold State.issues; decide +kernel, by decide +kernel, by unfold State.faultsAlone; decide +kernel⟩,
   ⟨A 0 0 5, 2, 18, 4, 5, 0, 0x10000, by unfold State.issues; decide +kernel, by decide +kernel, by unfold State.faultsAlone; decide +kernel⟩,
   ⟨W 60 3, 2, 18, 4, 5, 1, 2, heldF, by unfold State.issues; decide +kernel, by decide +kernel⟩,
   ⟨W 60 3, 2, 18, 4, 5, 1, 2, heldF, by unfold State.issues; decide +kernel, by decide +kernel⟩,
   ⟨W 60 3, 2, 18, 4, 5, 1, 2, heldF, by unfold State.issues; decide +kernel, by decide +kernel⟩,
   ⟨W 60 3, 2, 18, 4, 5, 1, 2, heldF, by unfold State.issues; decide +kernel, by decide +kernel⟩,
   ⟨W 60 3, 2, 18, 4, 5, 1, 2, heldF, by unfold State.issues; decide +kernel, by decide +kernel⟩,
   ⟨W 60 3, 2, 18, 4, 5, 1, 2, heldF, by unfold State.issues; decide +kernel, by decide +kernel⟩,
   ⟨W 60 3, 2, 18, 4, 5, 1, 2, heldF, by unfold State.issues; decide +kernel, by decide +kernel⟩,
   ⟨W 60 3, 2, 18, 4, 5, 2, 2, by unfold State.issues; decide +kernel, by decide +kernel, by unfold State.faultsAlone; decide +kernel⟩,
   ⟨W 60 3, 2, 18, 4, 5, 1, 4, heldF, by unfold State.issues; decide +kernel, by decide +kernel, by decide +kernel, by unfold State.faultsAlone; decide +kernel⟩,
   ⟨WB 60 3, 2, 18, 4, 5, 1, 2, badF, by unfold State.issues; decide +kernel, by decide +kernel, by decide +kernel, by decide +kernel, by unfold State.faultsAlone; decide +kernel⟩,
   ⟨W 60 3, 2, 18, 4, 5, 2, 2, by unfold State.issues; decide +kernel, by decide +kernel, by unfold State.faultsAlone; decide +kernel⟩,
   ⟨W 60 3, 2, 18, 4, 5, 1, 4, heldF, by unfold State.issues; decide +kernel, by decide +kernel, by decide +kernel, by unfold State.faultsAlone; decide +kernel⟩,
   ⟨WB 60 3, 2, 18, 4, 5, 1, 2, badF, by unfold State.issues; decide +kernel, by decide +kernel, by decide +kernel, by decide +kernel, by unfold State.faultsAlone; decide +kernel⟩,
   ⟨W 60 3, 2, 18, 4, 5, 2, 2, by unfold State.issues; decide +kernel, by decide +kernel, by unfold State.faultsAlone; decide +kernel⟩,
   ⟨W 60 3, 2, 18, 4, 5, 1, 4, heldF, by unfold State.issues; decide +kernel, by decide +kernel, by decide +kernel, by unfold State.faultsAlone; decide +kernel⟩,
   ⟨WB 60 3, 2, 18, 4, 5, 1, 2, badF, by unfold State.issues; decide +kernel, by decide +kernel, by decide +kernel, by decide +kernel, by unfold State.faultsAlone; decide +kernel⟩,
   ⟨W 10 3, 2, 18, 4, 5, 1, 1, heldF, 51, by refine ⟨(by unfold State.issues; decide +kernel), ?_, ?_, ?_, ?_, ?_, fun j h1 h2 => (by decide +kernel : ∀ j, j < 51 → (W 10 3).taddr 2 18 5 1 ≤ j → (nonetAt heldF.nonets j).getLsbD 8 = false) j h2 h1⟩ <;> decide +kernel⟩,
   ⟨WP 10 3, 2, 18, 4, 5, 1, 1, plainF, by unfold State.issues; decide +kernel, by decide +kernel, by decide +kernel, fun j h1 h2 => (by decide +kernel : ∀ j, j < plainF.nonets.length → (WP 10 3).taddr 2 18 5 1 ≤ j → (nonetAt plainF.nonets j).getLsbD 8 = false) j h2 h1⟩⟩

/-- States and operands that meet the hypotheses of each clause of `NyateFramesAndEngines`. -/
theorem witness_NyateFramesAndEngines :
    (∃ (s : State) (c : Fin 8) (k : Fin 128) (rd ra rb : BitVec 4) (imm : BitVec 18) (x : Frame), s.issues c k 0x2E { rd := true, slot := true } rd ra rb imm ∧ (s.thread c.val k.val).slots.getD rb.toNat none = none ∧ s.oldestFor c.val (s.thread c.val k.val).classes = some x ∧ s.windowRoom c.val x = true) ∧
    (∃ (s : State) (c : Fin 8) (k : Fin 128) (rd ra rb : BitVec 4) (imm : BitVec 18), s.issues c k 0x2E { rd := true, slot := true } rd ra rb imm ∧ (s.thread c.val k.val).slots.getD rb.toNat none = none ∧ s.oldestFor c.val (s.thread c.val k.val).classes = none) ∧
    (∃ (s : State) (c : Fin 8) (k : Fin 128) (rd ra rb : BitVec 4) (imm : BitVec 18), s.issues c k 0x2E { rd := true, slot := true } rd ra rb imm ∧ ((s.thread c.val k.val).slots.getD rb.toNat none).isSome = true ∧ s.faultsAlone c k) ∧
    (∃ (s : State) (c : Fin 8) (k : Fin 128) (rd ra rb : BitVec 4) (imm : BitVec 18) (x : Frame), s.issues c k 0x2F formSlot rd ra rb imm ∧ s.slotFrame (s.thread c.val k.val) rb = some x ∧ x.func = false) ∧
    (∃ (s : State) (c : Fin 8) (k : Fin 128) (rd ra rb : BitVec 4) (imm : BitVec 18) (x : Frame) (d : Nat), s.issues c k 0x30 { ra := true, slot := true, pairA := true } rd ra rb imm ∧ s.slotFrame (s.thread c.val k.val) rb = some x ∧ d = ((s.thread c.val k.val).r (ra.toNat + 1)).toNat % 65536 * 65536 + ((s.thread c.val k.val).r ra.toNat).toNat % 65536 ∧ (s.thread c.val k.val).mayEmit d = true) ∧
    (∃ (s : State) (c : Fin 8) (k : Fin 128) (rd ra rb : BitVec 4) (imm : BitVec 18) (x : Frame) (d : Nat), s.issues c k 0x30 { ra := true, slot := true, pairA := true } rd ra rb imm ∧ s.slotFrame (s.thread c.val k.val) rb = some x ∧ d = ((s.thread c.val k.val).r (ra.toNat + 1)).toNat % 65536 * 65536 + ((s.thread c.val k.val).r ra.toNat).toNat % 65536 ∧ (s.thread c.val k.val).mayEmit d = false ∧ s.faultsAlone c k) ∧
    (∃ (s : State) (c : Fin 8) (k : Fin 128) (rd ra rb : BitVec 4) (imm : BitVec 18) (x : Frame) (n : Nat), s.issues c k 0x31 { rd := true, slot := true, imm := true } rd ra rb imm ∧ s.slotFrame (s.thread c.val k.val) rb = some x ∧ x.meta imm.toNat = some n) ∧
    (∃ (s : State) (c : Fin 8) (k : Fin 128) (rd ra rb : BitVec 4) (imm : BitVec 18), s.issues c k 0x31 { rd := true, slot := true, imm := true } rd ra rb imm ∧ 12 ≤ imm.toNat ∧ s.faultsAlone c k) ∧
    (∃ (s : State) (c : Fin 8) (k : Fin 128) (rd ra rb : BitVec 4) (imm : BitVec 18) (x : Frame), s.issues c k 0x32 { ra := true, slot := true, imm := true } rd ra rb imm ∧ s.slotFrame (s.thread c.val k.val) rb = some x ∧ imm = 3) ∧
    (∃ (s : State) (c : Fin 8) (k : Fin 128) (rd ra rb : BitVec 4) (imm : BitVec 18) (x : Frame), s.issues c k 0x32 { ra := true, slot := true, imm := true } rd ra rb imm ∧ s.slotFrame (s.thread c.val k.val) rb = some x ∧ imm = 10) ∧
    (∃ (s : State) (c : Fin 8) (k : Fin 128) (rd ra rb : BitVec 4) (imm : BitVec 18) (x : Frame), s.issues c k 0x32 { ra := true, slot := true, imm := true } rd ra rb imm ∧ s.slotFrame (s.thread c.val k.val) rb = some x ∧ imm = 11) ∧
    (∃ (s : State) (c : Fin 8) (k : Fin 128) (rd ra rb : BitVec 4) (imm : BitVec 18), s.issues c k 0x32 { ra := true, slot := true, imm := true } rd ra rb imm ∧ imm ≠ 3 ∧ imm ≠ 10 ∧ imm ≠ 11 ∧ s.faultsAlone c k) ∧
    (∃ (s : State) (c : Fin 8) (k : Fin 128) (rd ra rb : BitVec 4) (imm : BitVec 18) (x : Frame), s.issues c k 0x33 { slot := true, imm := true } rd ra rb imm ∧ s.slotFrame (s.thread c.val k.val) rb = some x ∧ imm.toNat < 2 ^ 17 ∧ imm.toNat < x.nonets.length) ∧
    (∃ (s : State) (c : Fin 8) (k : Fin 128) (rd ra rb : BitVec 4) (imm : BitVec 18) (x : Frame), s.issues c k 0x33 { slot := true, imm := true } rd ra rb imm ∧ s.slotFrame (s.thread c.val k.val) rb = some x ∧ 2 ^ 17 ≤ imm.toNat ∧ x.room + (2 ^ 18 - imm.toNat) ≤ 128) ∧
    (∃ (s : State) (c : Fin 8) (k : Fin 128) (rd ra rb : BitVec 4) (imm : BitVec 18) (x : Frame), s.issues c k 0x33 { slot := true, imm := true } rd ra rb imm ∧ s.slotFrame (s.thread c.val k.val) rb = some x ∧ ((imm.toNat < 2 ^ 17 ∧ x.nonets.length ≤ imm.toNat) ∨ (2 ^ 17 ≤ imm.toNat ∧ 128 < x.room + (2 ^ 18 - imm.toNat))) ∧ s.faultsAlone c k) ∧
    (∃ (s : State) (c : Fin 8) (k : Fin 128) (rd ra rb : BitVec 4) (imm : BitVec 18) (x : Frame) (d : Nat), s.issues c k 0x34 { ra := true, imm := true, slot := true, pairA := true } rd ra rb imm ∧ s.slotFrame (s.thread c.val k.val) rb = some x ∧ engAllowed imm = true ∧ d = ((s.thread c.val k.val).r (ra.toNat + 1)).toNat % 65536 * 65536 + ((s.thread c.val k.val).r ra.toNat).toNat % 65536 ∧ (s.thread c.val k.val).mayEmit d = true ∧ s.mayName (s.thread c.val k.val) x imm.toNat = true) ∧
    (∃ (s : State) (c : Fin 8) (k : Fin 128) (rd ra rb : BitVec 4) (imm : BitVec 18), s.issues c k 0x34 { ra := true, imm := true, slot := true, pairA := true } rd ra rb imm ∧ engAllowed imm = false ∧ s.faultsAlone c k) ∧
    (∃ (s : State) (c : Fin 8) (k : Fin 128) (rd ra rb : BitVec 4) (imm : BitVec 18), s.issues c k 0x35 { rd := true, ra := true, imm := true } rd ra rb imm ∧ imm &&& 0x3F8C8 = 0 ∧ (s.treg c k ra).toNat + 36 ≤ (s.thread c.val k.val).dlen ∧ (s.thread c.val k.val).dbase + (s.treg c k ra).toNat + 36 ≤ 65536 ∧ (s.thread c.val k.val).isBound = false) ∧
    (∃ (s : State) (c : Fin 8) (k : Fin 128) (rd ra rb : BitVec 4) (imm : BitVec 18), s.issues c k 0x35 { rd := true, ra := true, imm := true } rd ra rb imm ∧ imm &&& 0x3F8C8 = 0 ∧ (s.treg c k ra).toNat + 36 ≤ (s.thread c.val k.val).dlen ∧ (s.thread c.val k.val).dbase + (s.treg c k ra).toNat + 36 ≤ 65536 ∧ (s.thread c.val k.val).isBound = true ∧ imm.toNat % 8 = 5 ∧ s.faultsAlone c k) ∧
    (∃ (s : State) (c : Fin 8) (k : Fin 128) (rd ra rb : BitVec 4) (imm : BitVec 18), s.issues c k 0x35 { rd := true, ra := true, imm := true } rd ra rb imm ∧ imm &&& 0x3F8C8 ≠ 0 ∧ s.faultsAlone c k) :=
  ⟨⟨thr (dspS2 N) 2 18 (fun t => { t with bind := 8 }), 2, 18, 4, 0, 2, 0, { dspF with gate := some 0 }, by unfold State.issues; decide +kernel, by decide +kernel⟩,
   ⟨clu N 2 (fun x => { x with takers := [3] }), 2, 18, 4, 0, 2, 0, by unfold State.issues; decide +kernel, by decide +kernel⟩,
   ⟨W 1 1, 2, 18, 4, 0, 1, 0, by unfold State.issues; decide +kernel, by decide +kernel, by unfold State.faultsAlone; decide +kernel⟩,
   ⟨W 1 1, 2, 18, 0, 0, 1, 0, heldF, by unfold State.issues; decide +kernel, by decide +kernel⟩,
   ⟨W 1 1, 2, 18, 0, 6, 1, 0, heldF, 0x80001, by unfold State.issues; decide +kernel, by decide +kernel⟩,
   ⟨bind1 (thr (W 1 1) 2 18 (fun t => { t with regs := [0, 0, 0, 0, 0, 0, 3, 0x12000] })), 2, 18, 0, 6, 1, 0, heldF, 0x20000003, by unfold State.issues; decide +kernel, by decide +kernel, by decide +kernel, by decide +kernel, by unfold State.faultsAlone; decide +kernel⟩,
   ⟨W 1 1, 2, 18, 4, 0, 1, 1, heldF, 0, by unfold State.issues; decide +kernel, by decide +kernel⟩,
   ⟨W 1 1, 2, 18, 4, 0, 1, 12, by unfold State.issues; decide +kernel, by decide +kernel, by unfold State.faultsAlone; decide +kernel⟩,
   ⟨W 15 1, 2, 18, 0, 5, 1, 3, heldF, by unfold State.issues; decide +kernel, by decide +kernel⟩,
   ⟨W 0x3FFFF 1, 2, 18, 0, 5, 1, 10, heldF, by unfold State.issues; decide +kernel, by decide +kernel⟩,
   ⟨W 0x3FFFF 1, 2, 18, 0, 5, 1, 11, heldF, by unfold State.issues; decide +kernel, by decide +kernel⟩,
   ⟨W 0x3FFFF 1, 2, 18, 0, 5, 1, 4, by unfold State.issues; decide +kernel, by decide +kernel, by decide +kernel, by decide +kernel, by unfold State.faultsAlone; decide +kernel⟩,
   ⟨W 1 1, 2, 18, 0, 0, 1, 63, heldF, by unfold State.issues; decide +kernel, by decide +kernel⟩,
   ⟨W 1 1, 2, 18, 0, 0, 1, 0x3FFE4, heldF, by unfold State.issues; decide +kernel, by decide +kernel⟩,
   ⟨W 1 1, 2, 18, 0, 0, 1, 64, heldF, by unfold State.issues; decide +kernel, by decide +kernel, by decide +kernel, by unfold State.faultsAlone; decide +kernel⟩,
   ⟨W 1 1, 2, 18, 0, 6, 1, 12, heldF, 0x80001, by unfold State.issues; decide +kernel, by decide +kernel⟩,
   ⟨W 1 1, 2, 18, 0, 6, 1, 5, by unfold State.issues; decide +kernel, by decide +kernel, by unfold State.faultsAlone; decide +kernel⟩,
   ⟨thr (W 0x7DC 1) 2 18 (fun t => { t with data := 0x00200040 }), 2, 18, 4, 5, 0, 0x331, by unfold State.issues; decide +kernel, by decide +kernel⟩,
   ⟨bind1 (thr (W 0x7DC 1) 2 18 (fun t => { t with data := 0x00200040 })), 2, 18, 4, 5, 0, 0x335, by refine ⟨(by unfold State.issues; decide +kernel), ?_, ?_, ?_, ?_, ?_, (by unfold State.faultsAlone; decide +kernel)⟩ <;> decide +kernel⟩,
   ⟨W 1 1, 2, 18, 4, 5, 0, 8, by unfold State.issues; decide +kernel, by decide +kernel, by unfold State.faultsAlone; decide +kernel⟩⟩

/-- States and operands that meet the hypotheses of each clause of `NyateControlAndPageAccess`. -/
theorem witness_NyateControlAndPageAccess :
    (∃ (s : State) (c : Fin 8) (k : Fin 128) (rd ra rb : BitVec 4) (imm : BitVec 18), s.issues c k 0x36 { rd := true, imm := true } rd ra rb imm ∧ imm.toNat < 2 ^ 15 ∧ condHolds (s.thread c.val k.val).sw rd = true ∧ imm.toNat < (s.thread c.val k.val).ilen) ∧
    (∃ (s : State) (c : Fin 8) (k : Fin 128) (rd ra rb : BitVec 4) (imm : BitVec 18), s.issues c k 0x36 { rd := true, imm := true } rd ra rb imm ∧ imm.toNat < 2 ^ 15 ∧ condHolds (s.thread c.val k.val).sw rd = false) ∧
    (∃ (s : State) (c : Fin 8) (k : Fin 128) (rd ra rb : BitVec 4) (imm : BitVec 18), s.issues c k 0x36 { rd := true, imm := true } rd ra rb imm ∧ imm.toNat < 2 ^ 15 ∧ condHolds (s.thread c.val k.val).sw rd = true ∧ (s.thread c.val k.val).ilen ≤ imm.toNat ∧ s.faultsAlone c k) ∧
    (∃ (s : State) (c : Fin 8) (k : Fin 128) (rd ra rb : BitVec 4) (imm : BitVec 18), s.issues c k 0x37 { rd := true, imm := true } rd ra rb imm ∧ imm.toNat % 2 ^ 15 < (s.thread c.val k.val).ilen) ∧
    (∃ (s : State) (c : Fin 8) (k : Fin 128) (rd ra rb : BitVec 4) (imm : BitVec 18), s.issues c k 0x38 { ra := true } rd ra rb imm ∧ (s.treg c k ra).toNat % 2 ^ 15 < (s.thread c.val k.val).ilen) ∧
    (∃ (s : State) (c : Fin 8) (k : Fin 128) (rd ra rb : BitVec 4) (imm : BitVec 18), s.issues c k 0x39 { imm := true } rd ra rb imm ∧ imm = 0) ∧
    (∃ (s : State) (c : Fin 8) (k : Fin 128) (rd ra rb : BitVec 4) (imm : BitVec 18), s.issues c k 0x39 { imm := true } rd ra rb imm ∧ imm ≠ 0) ∧
    (∃ (s : State) (c : Fin 8) (k : Fin 128) (rd ra rb : BitVec 4) (imm : BitVec 18), s.issues c k 0x3A { imm := true } rd ra rb imm ∧ s.faultsAlone c k) ∧
    (∃ (s : State) (c : Fin 8) (k : Fin 128) (rd ra rb : BitVec 4) (imm : BitVec 18) (v : Word) (rivals : List Req), s.issues c k 0x3B { rd := true, imm := true, pairD := true } rd ra rb imm ∧ s.pageForm c k imm = true ∧ imm.toNat ≠ 0x24 ∧ v = s.view (.nyc c) imm.toNat) ∧
    (∃ (s : State) (c : Fin 8) (k : Fin 128) (rd ra rb : BitVec 4) (imm : BitVec 18) (rivals : List Req), s.issues c k 0x3B { rd := true, imm := true, pairD := true } rd ra rb imm ∧ s.pageForm c k imm = true ∧ imm.toNat = 0x24 ∧ rivals = [] ∧ s.mayWrite (.nyc c) (.nyate c) = true ∧ s.lockOf (.nyc c) = none ∧ s.sens.hot = false) ∧
    (∃ (s : State) (c : Fin 8) (k : Fin 128) (rd ra rb : BitVec 4) (imm : BitVec 18) (rivals : List Req), s.issues c k 0x3B { rd := true, imm := true, pairD := true } rd ra rb imm ∧ s.pageForm c k imm = false ∧ s.faultsAlone c k) ∧
    (∃ (s : State) (c : Fin 8) (k : Fin 128) (rd ra rb : BitVec 4) (imm : BitVec 18) (v : Word) (rivals : List Req), s.issues c k 0x3C { rd := true, imm := true, pairD := true } rd ra rb imm ∧ s.pageForm c k imm = true ∧ v = word (((s.thread c.val k.val).r (rd.toNat + 1)).toNat % 65536 * 65536 + ((s.thread c.val k.val).r rd.toNat).toNat % 65536)) ∧
    (∃ (s : State) (c : Fin 8) (k : Fin 128) (rd ra rb : BitVec 4) (imm : BitVec 18) (v : Word) (rivals : List Req), s.issues c k 0x3C { rd := true, imm := true, pairD := true } rd ra rb imm ∧ s.pageForm c k imm = true ∧ v = word (((s.thread c.val k.val).r (rd.toNat + 1)).toNat % 65536 * 65536 + ((s.thread c.val k.val).r rd.toNat).toNat % 65536) ∧ 0x280 ≤ imm.toNat ∧ imm.toNat < 0x2C0 ∧ s.grants (.nyc c) imm.toNat (.nyate c) v rivals ∧ bitOn (s.reg (.nyc c) 0x200) 1 = false) :=
  ⟨⟨A 1 1 5, 2, 18, 1, 0, 0, 0xFF, by unfold State.issues; decide +kernel, by decide +kernel⟩,
   ⟨A 1 1 5, 2, 18, 2, 0, 0, 0xFF, by unfold State.issues; decide +kernel, by decide +kernel⟩,
   ⟨A 1 1 5, 2, 18, 1, 0, 0, 0x100, by unfold State.issues; decide +kernel, by decide +kernel, by decide +kernel, by decide +kernel, by unfold State.faultsAlone; decide +kernel⟩,
   ⟨A 1 1 5, 2, 18, 4, 0, 0, 0x180FF, by unfold State.issues; decide +kernel, by decide +kernel⟩,
   ⟨A 0x180FF 1 5, 2, 18, 0, 5, 0, 0, by unfold State.issues; decide +kernel, by decide +kernel⟩,
   ⟨A 1 1 5, 2, 18, 0, 0, 0, 0, by unfold State.issues; decide +kernel, by decide +kernel⟩,
   ⟨A 1 1 5, 2, 18, 0, 0, 0, 1, by unfold State.issues; decide +kernel, by decide +kernel⟩,
   ⟨A 1 1 5, 2, 18, 0, 0, 0, 0x3FFFF, by unfold State.issues; decide +kernel, by unfold State.faultsAlone; decide +kernel⟩,
   ⟨put (put (A 1 1 5) [(.nyc 2, 0x48, 0x12)]) [(.nyc 2, 0x284, 0x12345678)], 2, 18, 4, 0, 0, 0x284, 0x12345678, [], by unfold State.issues; decide +kernel, by decide +kernel⟩,
   ⟨put (put (A 1 1 5) [(.nyc 2, 0x48, 0x12)]) [(.nyc 2, 0x20, 0x20008)], 2, 18, 4, 0, 0, 0x24, [], by unfold State.issues; decide +kernel, by decide +kernel⟩,
   ⟨A 1 1 5, 2, 18, 4, 0, 0, 0x285, [], by unfold State.issues; decide +kernel, by decide +kernel, by unfold State.faultsAlone; decide +kernel⟩,
   ⟨put (put (A 1 1 5) [(.nyc 2, 0x48, 0x12)]) [(.nyc 2, 0x20, 0x20008)], 2, 18, 6, 0, 0, 0x284, 0x80001, [], by unfold State.issues; decide +kernel, by decide +kernel⟩,
   ⟨put (put (A 1 1 5) [(.nyc 2, 0x48, 0x12)]) [(.nyc 2, 0x20, 0x20008)], 2, 18, 6, 0, 0, 0x2BC, 0x80001, [], by refine ⟨(by unfold State.issues; decide +kernel), ?_, ?_, ?_, ?_, (by unfold State.grants State.takes; decide +kernel), ?_⟩ <;> decide +kernel⟩⟩

/-- States and operands that meet the hypotheses of each clause of `IslandsSleepAndWake`. -/
theorem witness_IslandsSleepAndWake :
    (∃ (s : State) (m : Master) (v : Word) (rivals : List Req) (i : Island), s.grants .isl 0x48 m v rivals ∧ s.asksOnly v i ∧ (s.island i).awake = true ∧ (s.island i).entry = .none ∧ (asked v i = 2 ∨ (asked v i = 3 ∧ 4 ≤ i.num ∧ i.num ≤ 11))) ∧
    (∃ (s : State) (m : Master) (v : Word) (rivals : List Req) (i : Island), s.grants .isl 0x48 m v rivals ∧ s.asksOnly v i ∧ (asked v i = 1 ∨ (asked v i = 3 ∧ ¬ (4 ≤ i.num ∧ i.num ≤ 11)))) ∧
    (∃ (s : State) (m : Master) (v : Word) (rivals : List Req) (i : Island), s.grants .isl 0x48 m v rivals ∧ s.asksOnly v i ∧ asked v i = 0 ∧ (s.island i).mode = .retain ∧ (s.island i).entry = .none ∧ (s.island i).cold = false) ∧
    (∃ (s : State) (m : Master) (v : Word) (rivals : List Req) (c : Fin 8), s.grants .isl 0x48 m v rivals ∧ s.asksOnly v (.nyc c) ∧ asked v (.nyc c) = 0 ∧ (s.island (.nyc c)).mode = .off ∧ (s.island (.nyc c)).entry = .none ∧ (s.island (.nyc c)).cold = false) ∧
    (∃ (s : State) (i : Island), (s.island i).entry = .draining ∧ s.holdsWork i = false) ∧
    (∃ (s : State) (i : Island), (s.island i).entry = .draining ∧ s.holdsWork i = true) ∧
    (∃ (s : State) (i : Island), (s.island i).entry = .window ∧ (s.island i).toOff = false ∧ s.wakeRow i = none ∧ s.target i.num ≠ 0) ∧
    (∃ (s : State) (c : Fin 8), (s.island (.nyc c)).entry = .window ∧ (s.island (.nyc c)).toOff = true ∧ s.target (Island.nyc c).num ≠ 0) ∧
    (∃ (s : State) (i : Island), (s.island i).entry = .draining) ∧
    (∃ (s : State) (i : Island) (row : Fin 7), s.levelRow i row.val = true ∧ (s.island i).mode = .retain ∧ (s.island i).entry = .none) ∧
    (∃ (s : State) (i : Island) (row : Fin 7), s.levelRow i row.val = false) ∧
    (∃ s : State, s.timerReached &&& ~~~s.clk.timerMatched ≠ 0 ∧ bitOn (s.reg .isl 0x68) 15 = true) ∧
    (∃ (s : State) (i : Island), 3 ≤ i.num ∧ i.num ≤ 14 ∧ s.timerReached = bit (i.num - 3) ∧ s.clk.timerMatched = 0 ∧ bitOn (s.reg .isl 0x68) 15 = false ∧ (s.island i).mode = .retain ∧ (s.island i).entry = .none) ∧
    (∃ s : State, s.ptp.time < s.reg64 .isl 0x70) ∧
    (∃ (s : State) (p : Page) (r : Req) (l : List Req), ((s.held.filter (fun h => h.page = p)).map (·.reqs)).flatten = r :: l ∧ (s.island (accessIsland p r.off.toNat)).noClock = true ∧ ((∀ x ∈ r :: l, x.isRead = false))) ∧
    (∃ (s : State) (p : Page) (r : Req), ((s.held.filter (fun h => h.page = p)).map (·.reqs)).flatten = [r] ∧ (s.island (accessIsland p r.off.toNat)).noClock = true ∧ r.isRead = true) ∧
    (∃ (s : State) (p : Page) (r : Req) (l : List Req) (gs : List (List Req)), (s.held.filter (fun h => h.page = p)).map (·.reqs) = (r :: l) :: gs ∧ (s.island (accessIsland p r.off.toNat)).noClock = false) ∧
    (∃ (s : State) (p : Page), ((∀ h ∈ s.held, h.page ≠ p))) :=
  ⟨⟨P, .pf0, 0x80, [], .nyc 2, by unfold State.grants State.takes; decide +kernel, by unfold State.asksOnly; decide +kernel, by decide +kernel⟩,
   ⟨P, .pf0, 1, [], .pup, by unfold State.grants State.takes; decide +kernel, by unfold State.asksOnly; decide +kernel, by decide +kernel⟩,
   ⟨slept .cry, .pf0, 0, [], .cry, by unfold State.grants State.takes; decide +kernel, by unfold State.asksOnly; decide +kernel, by decide +kernel⟩,
   ⟨isle P (.nyc 3) (fun x => { x with mode := .off }), .pf0, 0, [], 3, by unfold State.grants State.takes; decide +kernel, by unfold State.asksOnly; decide +kernel, by decide +kernel⟩,
   ⟨isle P .tun (fun x => { x with entry := .draining }), .tun, by decide +kernel⟩,
   ⟨isle (withFrames P [frame0] [(0, 1)]) (Page.port 0).island (fun x => { x with entry := .draining }), (Page.port 0).island, by decide +kernel⟩,
   ⟨put (isle P .tun (fun x => { x with entry := .window })) [(.isl, 0x48, 0x200000)], .tun, by decide +kernel⟩,
   ⟨put (isle N (.nyc 2) (fun x => { x with entry := .window, toOff := true })) [(.isl, 0x48, 0xC0)], 2, by decide +kernel⟩,
   ⟨isle (withFrames P [frame0] [(0, 1)]) (Page.port 0).island (fun x => { x with entry := .draining }), (Page.port 0).island, by decide +kernel⟩,
   ⟨put (slept (.nyc 2)) [(.nyc 2, 0x200, 1)], .nyc 2, 5, by decide +kernel⟩,
   ⟨slept (.nyc 2), .nyc 2, 5, by decide +kernel⟩,
   ⟨put P [(.isl, 0x68, 0x8001)], by decide +kernel⟩,
   ⟨put (slept .cry) [(.isl, 0x68, 0x200)], .cry, by decide +kernel⟩,
   ⟨withClk (put P [(.isl, 0x68, 0x200), (.isl, 0x70, 5)]) (fun c => { c with timerMatched := 0x200 }), by decide +kernel⟩,
   ⟨heldReq (wr .pf0 0x44 7) .swt, .swt, wr .pf0 0x44 7, [], by decide +kernel⟩,
   ⟨heldReq { (wr .pf0 0x24 0) with kind := .lockRead } .swt, .swt, { (wr .pf0 0x24 0) with kind := .lockRead }, by decide +kernel⟩,
   ⟨{ P with held := [{ page := .swt, reqs := [wr .pf0 0x44 7] }] }, .swt, wr .pf0 0x44 7, [], [], by decide +kernel⟩,
   ⟨{ P with held := [{ page := .swt, reqs := [wr .pf0 0x44 7] }] }, .tbl, by decide +kernel⟩⟩

/-- States and operands that meet the hypotheses of each clause of `LevelsRailsAndClocks`. -/
theorem witness_LevelsRailsAndClocks :
    (∃ (s : State) (pl1 : Bool) (m : Master) (v : Word) (rivals : List Req), s.grants .isl (if pl1 then 0x50 else 0x4C) m v rivals ∧ s.regFault = false) ∧
    (∃ (s : State) (pl1 : Bool) (m : Master) (v : Word) (rivals : List Req), s.grants .isl (if pl1 then 0x50 else 0x4C) m v rivals ∧ s.regFault = true) ∧
    (∃ (s : State) (mv pl : Nat) (c : LvlChange) (r : List LvlStep), s.clk.change = some c ∧ c.todo = .sram pl :: .core pl :: r) ∧
    (∃ (s : State) (mv pl : Nat) (c : LvlChange), s.clk.change = some c ∧ c.todo = [.core pl] ∧ pl ≤ 4) ∧
    (∃ (s : State) (noAck : Bool) (pl : Nat) (c : LvlChange) (r : List LvlStep), s.clk.change = some c ∧ c.todo = .sram pl :: r ∧ s.regFault = false) ∧
    (∃ (s : State) (noAck : Bool) (pl : Nat) (c : LvlChange) (r : List LvlStep), s.clk.change = some c ∧ c.todo = .core pl :: r) ∧
    (∃ s : State, s.regFault = true ∧ s.field .pwr 0x88 1 0 ≠ 3) ∧
    (∃ s : State, s.field .pwr 0x88 1 0 = 3) ∧
    (∃ (s : State) (c : LvlChange) (j pl : Nat) (r : List LvlStep), s.clk.change = some c ∧ c.todo = .island j pl :: r ∧ s.muxBusy (varNum j) = false ∧ s.clk.refLost = false) ∧
    (∃ (s : State) (i : Fin 16) (pll : Bool), bitOn (s.reg .clk 0x44) i.val = !pll ∧ bitOn (s.reg .clk 0x40) (if pll then 31 else i.val) = true ∧ s.muxBusy i.val = false ∧ (s.island (islandOf i.val)).cold = false ∧ (s.island (islandOf i.val)).noClock = false ∧ s.sourceOk i.val pll = true) ∧
    (∃ (s : State) (i : Fin 16) (pll : Bool), bitOn (s.reg .clk 0x44) i.val = !pll ∧ bitOn (s.reg .clk 0x40) (if pll then 31 else i.val) = true ∧ s.muxBusy i.val = false ∧ (s.island (islandOf i.val)).cold = false ∧ s.sourceOk i.val pll = false) ∧
    (∃ (s : State) (i : Fin 16), s.muxBusy i.val = true ∧ bitOn (s.reg .clk 0x50) i.val = false) ∧
    (∃ (s : State) (i : Fin 16), s.muxBusy i.val = true ∧ bitOn (s.reg .clk 0x50) i.val = true ∧ 2 ≤ i.val ∧ (s.island (islandOf i.val)).noClock = true) ∧
    (∃ s : State, s.clk.refLost = false) ∧
    (∃ s : State, s.pwr.started = true) :=
  ⟨⟨put P [(.isl, 0x4C, 0x44444444), (.isl, 0x50, 0x40044)], false, .pf0, 0x44474441, [], by unfold State.grants State.takes; decide +kernel, by decide +kernel⟩,
   ⟨put P [(.pwr, 0x88, 8)], true, .pf0, 0x12, [], by unfold State.grants State.takes; decide +kernel, by decide +kernel⟩,
   ⟨changing P [.sram 4, .core 4, .assist false], 900, 4, chg [.sram 4, .core 4, .assist false], [.assist false], by decide +kernel⟩,
   ⟨changing P [.core 2], 800, 2, chg [.core 2], by decide +kernel⟩,
   ⟨changing P [.sram 4, .core 4], true, 4, chg [.sram 4, .core 4], [.core 4], by decide +kernel⟩,
   ⟨changing P [.core 4], true, 4, chg [.core 4], [], by decide +kernel⟩,
   ⟨put (slept .cry) [(.pwr, 0x88, 8)], by decide +kernel⟩,
   ⟨put P [(.pwr, 0x88, 0xB)], by decide +kernel⟩,
   ⟨changing P [.island 3 2], chg [.island 3 2], 3, 2, [], by decide +kernel⟩,
   ⟨put P [(.clk, 0x40, 0x8000FFFF), (.clk, 0x44, 0)], 7, true, by decide +kernel⟩,
   ⟨withClk (put P [(.clk, 0x40, 0x8000FFFF), (.clk, 0x44, 0)]) (fun c => { c with pllLost := 0x80 }), 7, true, by decide +kernel⟩,
   ⟨put P [(.clk, 0x48, 0x80), (.clk, 0x50, 0)], 7, by decide +kernel⟩,
   ⟨put (isle P (.nyc 3) (fun x => { x with noClock := true })) [(.clk, 0x48, 0x80), (.clk, 0x50, 0x80)], 7, by decide +kernel⟩,
   ⟨P, by decide +kernel⟩,
   ⟨P, by decide +kernel⟩⟩

/-- States and operands that meet the hypotheses of each clause of `MailboxesSetAndClearFull`. -/
theorem witness_MailboxesSetAndClearFull :
    (∃ (s : State) (f : Fin 1024) (rivals : List Req), s.grants (.mbx f) 0x44 (Master.ofFunc f) (bit 0) rivals ∧ f.val ≠ 0 ∧ s.boxFull f 0 = false) ∧
    (∃ (s : State) (f : Fin 1024) (rivals : List Req), s.grants (.mbx f) 0x44 (Master.ofFunc f) (bit 0) rivals ∧ f.val ≠ 0 ∧ s.boxFull f 0 = true) ∧
    (∃ (s : State) (f : Fin 1024) (rivals : List Req), s.grants (.mbx f) 0x44 .pf0 (bit 1) rivals ∧ f.val ≠ 0 ∧ s.boxFull f 0 = true) ∧
    (∃ (s : State) (f : Fin 1024) (rivals : List Req), s.grants (.mbx f) 0x44 .pf0 (bit 2) rivals ∧ f.val ≠ 0 ∧ s.boxFull f 1 = false) ∧
    (∃ (s : State) (f : Fin 1024) (rivals : List Req), s.grants (.mbx f) 0x44 (Master.ofFunc f) (bit 3) rivals ∧ f.val ≠ 0 ∧ s.boxFull f 1 = true) ∧
    (∃ (s : State) (f : Fin 1024) (rivals : List Req), s.grants (.mbx f) 0x44 (Master.ofFunc f) (bit 4) rivals ∧ f.val < 4 ∧ s.boxFull f 2 = false) ∧
    (∃ (s : State) (f : Fin 1024) (rivals : List Req), s.grants (.mbx f) 0x44 .mgt (bit 5) rivals ∧ f.val < 4 ∧ s.boxFull f 2 = true ∧ s.reg (.mbx f) 0x100 ≠ 3) ∧
    (∃ (s : State) (f : Fin 1024) (rivals : List Req), s.grants (.mbx f) 0x44 .mgt (bit 5) rivals ∧ f.val < 4 ∧ s.boxFull f 2 = true ∧ s.reg (.mbx f) 0x100 = 3 ∧ s.boxFull f 3 = false ∧ s.runs .host = true ∧ bitOn (s.reg .hlnk 0x4C) f.val = false) ∧
    (∃ (s : State) (f : Fin 1024) (rivals : List Req), s.grants (.mbx f) 0x44 .mgt (bit 6) rivals ∧ f.val < 4 ∧ s.boxFull f 3 = false ∧ bitOn (s.reg .hlnk 0x4C) f.val = false) ∧
    (∃ (s : State) (f : Fin 1024) (rivals : List Req), s.grants (.mbx f) 0x44 (Master.ofFunc f) (bit 7) rivals ∧ f.val < 4 ∧ s.boxFull f 3 = true) ∧
    (∃ (s : State) (c : Fin 8) (m : Master) (rivals : List Req), s.grants (.nyc c) 0x204 m (bit 0) rivals ∧ m.overseer = true) ∧
    (∃ (s : State) (c : Fin 8) (rivals : List Req), s.grants (.nyc c) 0x204 (.nyate c) (bit 1) rivals) ∧
    (∃ (s : State) (c : Fin 8) (rivals : List Req), s.grants (.nyc c) 0x204 (.nyate c) (bit 2) rivals) ∧
    (∃ (s : State) (c : Fin 8) (m : Master) (rivals : List Req), s.grants (.nyc c) 0x204 m (bit 3) rivals ∧ m.overseer = true) ∧
    (∃ (s : State) (c : Fin 8) (m : Master) (rivals : List Req), s.grants (.nyc c) 0x204 m (bit 0) rivals ∧ m.overseer = false) :=
  ⟨⟨put V [(.mbx 5, 0x20, 0x20005)], 5, [], by unfold State.grants State.takes; decide +kernel, by decide +kernel⟩,
   ⟨put V [(.mbx 5, 0x20, 0x20005), (.mbx 5, 0x40, 1)], 5, [], by unfold State.grants State.takes; decide +kernel, by decide +kernel⟩,
   ⟨put V [(.mbx 5, 0x40, 3)], 5, [], by unfold State.grants State.takes; decide +kernel, by decide +kernel⟩,
   ⟨put V [(.mbx 5, 0x40, 1)], 5, [], by unfold State.grants State.takes; decide +kernel, by decide +kernel⟩,
   ⟨put V [(.mbx 5, 0x20, 0x20005), (.mbx 5, 0x40, 3)], 5, [], by unfold State.grants State.takes; decide +kernel, by decide +kernel⟩,
   ⟨put V [(.mbx 2, 0x20, 3), (.mbx 2, 0x40, 3)], 2, [], by unfold State.grants State.takes; decide +kernel, by decide +kernel⟩,
   ⟨put V [(.mbx 2, 0x40, 4)], 2, [], by unfold State.grants State.takes; decide +kernel, by decide +kernel⟩,
   ⟨put V [(.mbx 2, 0x40, 4), (.mbx 2, 0x100, 3), (.mgt, 0x64, 77)], 2, [], by unfold State.grants State.takes; decide +kernel, by decide +kernel⟩,
   ⟨put V [(.mbx 2, 0x40, 4)], 2, [], by unfold State.grants State.takes; decide +kernel, by decide +kernel⟩,
   ⟨put V [(.mbx 2, 0x20, 3), (.mbx 2, 0x40, 0xF)], 2, [], by unfold State.grants State.takes; decide +kernel, by decide +kernel⟩,
   ⟨V, 2, .pf0, [], by unfold State.grants State.takes; decide +kernel, by decide +kernel⟩,
   ⟨put V [(.nyc 2, 0x20, 0x20008), (.nyc 2, 0x200, 3)], 2, [], by unfold State.grants State.takes; decide +kernel⟩,
   ⟨put V [(.nyc 2, 0x20, 0x20008), (.nyc 2, 0x200, 3)], 2, [], by unfold State.grants State.takes; decide +kernel⟩,
   ⟨put V [(.nyc 2, 0x200, 3)], 2, .mgt, [], by unfold State.grants State.takes; decide +kernel, by decide +kernel⟩,
   ⟨put V [(.nyc 2, 0x20, 0x20008)], 2, .nyate 2, [], by unfold State.grants State.takes; decide +kernel, by decide +kernel⟩⟩

/-- States and operands that meet the hypotheses of each clause of `SensorsLogAndImages`. -/
theorem witness_SensorsLogAndImages :
    (∃ (s : State) (k : Fin 32) (v w : Nat), s.pwr.started = true ∧ k.val < 12 ∧ v < 2 ^ 16 ∧ s.sens.hot = false ∧ signed16 v < signed16 (s.field .mgt 0x90 31 16) ∧ signed16 (s.field .mgt 0x90 15 0) ≤ signed16 v) ∧
    (∃ (s : State) (k : Fin 32) (v w : Nat), s.pwr.started = true ∧ k.val < 12 ∧ v < 2 ^ 16 ∧ signed16 (s.field .mgt 0x90 31 16) ≤ signed16 v ∧ s.regFault = false ∧ s.lockOf .isl = none) ∧
    (∃ (s : State) (k : Fin 32) (v w : Nat), s.pwr.started = true ∧ 12 ≤ k.val ∧ k.val < 28 ∧ v < 2 ^ 16 ∧ ((k.val = 19 ∨ k.val = 20 → s.clk.change = none)) ∧ 5 * w < 100 * (max v w - min v w) ∧ 20 + k.val ∉ s.sens.crossed) ∧
    (∃ (s : State) (k : Fin 32) (v w : Nat), s.pwr.started = true ∧ k.val = 28 ∧ v < 1024 ∧ w < 4) ∧
    (∃ (s : State) (k : Fin 32) (v w : Nat), s.pwr.started = true ∧ k.val = 29 ∧ v < 2 ^ 16 ∧ w < 2 ^ 16) ∧
    (∃ (s : State) (k : Fin 32) (v w : Nat), s.pwr.started = false) ∧
    (∃ s : State, s.pwr.started = true ∧ bitOn (s.reg .mgt 0xEC) 0 = false) ∧
    (∃ (s : State) (opened : Bool), s.pwr.started = true ∧ bitOn (s.reg .mgt 0xEC) 1 ≠ opened) ∧
    (∃ (s : State) (m : Master) (v : Word) (rivals : List Req) (r : LogRec), s.grants .log 0x50 m v rivals ∧ s.logRecord v = some r) ∧
    (∃ (s : State) (m : Master) (v : Word) (rivals : List Req), s.grants .log 0x50 m v rivals ∧ s.logRecord v = none) ∧
    (∃ (s : State) (m : Master) (v : Word) (rivals : List Req), s.grants .img 0x44 m (setFld v 3 0 1) rivals ∧ s.imgKeyed m v ∧ bitOn v 8 ≠ s.boot.activeB ∧ s.boot.trial = false ∧ s.inU2 = false ∧ s.boot.write = none) ∧
    (∃ (s : State) (m : Master) (v : Word) (data : List Byte) (rivals : List Req), s.grants .img 0x44 m (setFld v 3 0 2) rivals ∧ s.imgKeyed m v ∧ bitOn v 8 ≠ s.boot.activeB ∧ s.boot.other.st = 1 ∧ s.inU2 = false ∧ s.boot.write = none ∧ s.field .img 0x54 20 0 ≤ 2 ^ 20 ∧ s.field .img 0x50 25 0 + s.field .img 0x54 20 0 ≤ 2 ^ 26) ∧
    (∃ (s : State) (m : Master) (v : Word) (sigs : List Bool) (rivals : List Req) (ver : Nat), s.grants .img 0x44 m (setFld v 3 0 3) rivals ∧ s.imgKeyed m v ∧ bitOn v 8 ≠ s.boot.activeB ∧ s.boot.other.st = 1 ∧ s.boot.write = none ∧ s.boot.other.verdict sigs s.boot.rollback = .inr ver) ∧
    (∃ (s : State) (m : Master) (v : Word) (sigs : List Bool) (rivals : List Req) (k code : Nat), s.grants .img 0x44 m (setFld v 3 0 3) rivals ∧ s.imgKeyed m v ∧ bitOn v 8 ≠ s.boot.activeB ∧ s.boot.other.st = 1 ∧ s.boot.write = none ∧ s.boot.other.verdict sigs s.boot.rollback = .inl (k, code)) ∧
    (∃ (s : State) (m : Master) (v : Word) (rivals : List Req), s.grants .img 0x44 m (setFld v 3 0 4) rivals ∧ s.imgKeyed m v ∧ bitOn v 8 ≠ s.boot.activeB ∧ s.boot.other.st = 3 ∧ s.boot.trial = false) ∧
    (∃ (s : State) (m : Master) (v : Word) (rivals : List Req), s.grants .img 0x44 m (setFld v 3 0 4) rivals ∧ s.imgKeyed m v ∧ (bitOn v 8 = s.boot.activeB ∨ s.boot.other.st ≠ 3 ∨ s.boot.trial = true)) ∧
    (∃ (s : State) (m : Master) (v : Word) (rivals : List Req), s.grants .img 0x44 m (setFld v 3 0 5) rivals ∧ s.imgKeyed m v ∧ bitOn v 8 = s.boot.activeB ∧ s.boot.fromTrial = true) ∧
    (∃ (s : State) (m : Master) (v : Word) (rivals : List Req), s.grants .img 0x44 m (setFld v 3 0 6) rivals ∧ s.imgKeyed m v ∧ bitOn v 8 = s.boot.activeB ∧ s.boot.fromTrial = true) ∧
    (∃ (s : State) (m : Master) (v : Word) (rivals : List Req), s.grants .img 0x44 m (setFld v 3 0 7) rivals ∧ s.imgKeyed m v ∧ bitOn v 8 ≠ s.boot.activeB ∧ s.boot.other.st = 1) ∧
    (∃ (s : State) (m : Master) (v : Word) (pkg : List Byte) (sigOk : Bool) (rivals : List Req), s.grants .img 0x44 m (setFld v 3 0 8) rivals ∧ s.imgKeyed m v ∧ s.inU2 = false ∧ s.keys.wait = none ∧ s.field .img 0x54 20 0 ≠ 0) ∧
    (∃ (s : State) (id : Nat) (r : HostRead) (b : List Byte) (ok : Bool), s.runs .host = true ∧ s.readOf id = some r ∧ r.want = [] ∧ r.out = 1 ∧ r.use = .keys ∧ s.keys.wait = some (b, ok) ∧ s.inU2 = false) ∧
    (∃ (s : State) (b : List Byte) (key : List Byte), keyField b = some key ∧ byteAt b 4 = 1 ∧ byteAt b 5 = 0 ∧ s.keys.opKey = none ∧ leAt b 8 4 = s.keys.count % 16 ∧ s.log.dev0 = true ∧ s.log.dev1 = true ∧ s.admitsBurst ((b.length + 255) / 256) = true) ∧
    (∃ (s : State) (m : Master) (v : Word) (rivals : List Req), s.grants .img 0x44 m (setFld v 3 0 7) rivals ∧ (m.overseer = false ∨ fld v 31 16 ≠ 0x494D)) ∧
    (∃ s : State, s.boot.timer = true) ∧
    (∃ s : State, s.boot.timer = false) :=
  ⟨⟨SE, 11, 0x320, 0, by decide +kernel⟩,
   ⟨SE, 11, 0x384, 0, by decide +kernel⟩,
   ⟨SE, 19, 1061, 1000, by decide +kernel⟩,
   ⟨SE, 28, 900, 1, by decide +kernel⟩,
   ⟨SE, 29, 101, 65535, by decide +kernel⟩,
   ⟨withPwr SE (fun p => { p with started := false }), 29, 101, 65535, by decide +kernel⟩,
   ⟨put SE [(.mgt, 0xEC, 0xFFFF0000)], by decide +kernel⟩,
   ⟨SE, true, by decide +kernel⟩,
   ⟨withLog SE (fun l => { l with flash := [rec1] }), .pf0, 0, [], rec1, by unfold State.grants State.takes; decide +kernel, by decide +kernel⟩,
   ⟨withLog SE (fun l => { l with flash := [rec1] }), .pf0, 77, [], by unfold State.grants State.takes; decide +kernel, by decide +kernel⟩,
   ⟨SE, .pf0, 0x494D0100, [], by unfold State.grants State.takes; decide +kernel, by unfold State.imgKeyed; decide +kernel, by decide +kernel⟩,
   ⟨put (other SE (imgOf 1 3)) [(.img, 0x54, 8), (.img, 0x50, 0x3FFFFF8)], .pf0, 0x494D0100, [1, 2, 3], [], by unfold State.grants State.takes; decide +kernel, by unfold State.imgKeyed; decide +kernel, by decide +kernel⟩,
   ⟨other SE (imgOf 1 9), .pf0, 0x494D0100, [true, true, true, true], [], 9, by unfold State.grants State.takes; decide +kernel, by unfold State.imgKeyed; decide +kernel, by decide +kernel⟩,
   ⟨other SE (imgOf 1 9), .pf0, 0x494D0100, [true, true, false, true], [], 3, 2, by unfold State.grants State.takes; decide +kernel, by unfold State.imgKeyed; decide +kernel, by decide +kernel⟩,
   ⟨other SE (imgOf 3 9), .pf0, 0x494D0100, [], by unfold State.grants State.takes; decide +kernel, by unfold State.imgKeyed; decide +kernel, by decide +kernel⟩,
   ⟨other SE (imgOf 1 9), .pf0, 0x494D0100, [], by unfold State.grants State.takes; decide +kernel, by unfold State.imgKeyed; decide +kernel, by decide +kernel⟩,
   ⟨withBoot SE (fun b => { b with fromTrial := true, trial := true, timer := true }), .pf0, 0x494D0000, [], by unfold State.grants State.takes; decide +kernel, by unfold State.imgKeyed; decide +kernel, by decide +kernel⟩,
   ⟨withBoot (other SE (imgOf 3 0)) (fun b => { b with fromTrial := true, trial := true, timer := true, setA := { b.setA with ver := 7 }, setB := { b.setB with ver := 6 } }), .pf0, 0x494D0000, [], by unfold State.grants State.takes; decide +kernel, by unfold State.imgKeyed; decide +kernel, by decide +kernel⟩,
   ⟨other SE (imgOf 1 9), .pf0, 0x494D0100, [], by unfold State.grants State.takes; decide +kernel, by unfold State.imgKeyed; decide +kernel, by decide +kernel⟩,
   ⟨put SE [(.img, 0x54, 161)], .pf0, 0x494D0100, keyPkg, false, [], by unfold State.grants State.takes; decide +kernel, by unfold State.imgKeyed; decide +kernel, by decide +kernel⟩,
   ⟨withReads { (put charged [(.img, 0x54, 161)]) with keys := { SE.keys with wait := some (keyPkg, false) } } [rd 9 0 .keys [] 1], 9, rd 9 0 .keys [] 1, keyPkg, false, by decide +kernel⟩,
   ⟨charged, keyPkg, [4] ++ List.replicate 96 7, by decide +kernel⟩,
   ⟨SE, .pf0, 0x494E0100, [], by unfold State.grants State.takes; decide +kernel, by decide +kernel⟩,
   ⟨withBoot SE (fun b => { b with fromTrial := true, trial := true, timer := true }), by decide +kernel⟩,
   ⟨SE, by decide +kernel⟩⟩

/-- States and operands that meet the hypotheses of each clause of `KrdsSessionsAndRequests`. -/
theorem witness_KrdsSessionsAndRequests :
    (∃ (s : State) (id : Nat) (operate : Bool) (peer : Word), s.keys.anchor.isSome = true ∧ s.krds.length < 4 ∧ s.session id = none ∧ s.pwr.started = true ∧ s.boot.recovery = false) ∧
    (∃ (s : State) (id : Nat) (certOk operate : Bool) (peer : Word), (s.keys.anchor = none ∨ certOk = false ∨ 4 ≤ s.krds.length)) ∧
    (∃ (s : State) (id : Nat) (x : KrdsSession), s.session id = some x) ∧
    (∃ (s : State) (id req : Nat) (x : KrdsSession), s.freshRequest id req false x) ∧
    (∃ (s : State) (id req : Nat) (p : Page) (off : BitVec 12) (v : Word) (rivals : List Req) (x : KrdsSession) (e : Nat × Nat × List Word), s.session id = some x ∧ x.past.find? (fun e => e.1 = req) = some e) ∧
    (∃ (s : State) (id req : Nat) (p : Page) (off : BitVec 12) (v : Word) (rivals : List Req) (x : KrdsSession), s.freshRequest id req false x ∧ x.operate = false) ∧
    (∃ (s : State) (id req : Nat) (p : Page) (off : BitVec 12) (v : Word) (rivals : List Req), s.session id = none) ∧
    (∃ (s : State) (id req : Nat) (x : KrdsSession), s.freshRequest id req false x) ∧
    (∃ (s : State) (id req : Nat) (x : KrdsSession), s.freshRequest id req false x) ∧
    (∃ (s : State) (id req count : Nat) (seq : Word) (x : KrdsSession), s.freshRequest id req false x ∧ 1 ≤ count ∧ count ≤ 32) ∧
    (∃ (s : State) (id req off count : Nat) (p : Page) (x : KrdsSession), s.freshRequest id req false x ∧ s.plainPage p ∧ 1 ≤ count ∧ count ≤ 256 ∧ off % 4 = 0 ∧ off + 4 * count ≤ 0x1000) ∧
    (∃ (s : State) (id req : Nat) (p : Page) (x : KrdsSession), s.freshRequest id req false x ∧ s.plainPage p) ∧
    (∃ (s : State) (id req : Nat) (p : Page) (off : BitVec 12) (v : Word) (rivals : List Req) (x : KrdsSession), s.freshRequest id req true x ∧ off.toNat % 4 = 0 ∧ s.takes (accessIsland p off.toNat)) ∧
    (∃ (s : State) (id req : Nat) (v : Word) (rivals : List Req) (x : KrdsSession), s.freshRequest id req true x ∧ s.takes .mgt) ∧
    (∃ (s : State) (id req : Nat) (p : Page) (rivals : List Req) (x : KrdsSession), s.freshRequest id req true x ∧ s.takes (accessIsland p 0x24)) ∧
    (∃ (s : State) (id req : Nat) (p : Page) (rivals : List Req) (x : KrdsSession) (m : Master), s.freshRequest id req true x ∧ s.takes (accessIsland p 0x24) ∧ s.lockOf p = some m ∧ p ≠ .met) ∧
    (∃ (s : State) (id req off : Nat) (v : Word) (data : List Byte) (sigs : List Bool) (x : KrdsSession), s.freshRequest id req true x ∧ fld v 3 0 = 1 ∧ data.length ≤ 1024 ∧ s.grants .img 0x44 .krds (word (0x494D * 65536 + fld v 8 8 * 256 + 1)) [] ∧ s.boot.recovery = false ∧ bitOn v 8 ≠ s.boot.activeB ∧ s.boot.trial = false ∧ s.inU2 = false ∧ s.boot.write = none) ∧
    (∃ (s : State) (id req : Nat) (i : Island) (x : KrdsSession), s.freshRequest id req true x ∧ s.takes .mgt ∧ s.sens.hot = false ∧ s.lockOf .isl = none ∧ i ∉ [Island.fab, .host, .mgt, .saf] ∧ s.runs i = true) ∧
    (∃ (s : State) (id req : Nat) (i : Island) (x : KrdsSession), s.freshRequest id req true x ∧ 16 ≤ i.num) ∧
    (∃ (s : State) (id req : Nat) (i : Fin 16) (pll : Bool) (x : KrdsSession), s.freshRequest id req true x ∧ s.takes .mgt ∧ s.sens.hot = false ∧ s.lockOf .clk = none ∧ bitOn (s.reg .clk 0x44) i.val = !pll ∧ bitOn (s.reg .clk 0x40) (if pll then 31 else i.val) = true ∧ s.muxBusy i.val = false ∧ (s.island (islandOf i.val)).cold = false ∧ (s.island (islandOf i.val)).noClock = false ∧ s.sourceOk i.val pll = true) ∧
    (∃ (s : State) (id req : Nat) (x : KrdsSession), s.freshRequest id req true x ∧ bitOn (s.reg .hlnk 0x4C) 8 = true) ∧
    (∃ (s : State) (id req : Nat) (k : Fin 4) (text : List Word) (x : KrdsSession), s.freshRequest id req true x ∧ s.runs .host = true ∧ bitOn (s.reg (mbxPage k.val) 0x40) 3 = false ∧ text.length ≤ 15 ∧ bitOn (s.reg .hlnk 0x4C) k.val = false) ∧
    (∃ (s : State) (id req : Nat) (k : Fin 4) (text : List Word) (x : KrdsSession), s.freshRequest id req true x ∧ s.runs .host = true ∧ bitOn (s.reg (mbxPage k.val) 0x40) 3 = true) ∧
    (∃ (s : State) (id req : Nat) (rivals : List Req) (x : KrdsSession), s.freshRequest id req false x) ∧
    (∃ (s : State) (id req : Nat) (rivals : List Req) (x : KrdsSession), s.freshRequest id req false x) ∧
    (∃ (s : State) (id req off slot : Nat) (final : Bool) (body sig : List Byte) (x : KrdsSession), s.freshRequest id req true x) ∧
    (∃ (s : State) (id req op off slot : Nat) (final : Bool) (body sig : List Byte) (x : KrdsSession), s.freshRequest id req true x ∧ (op = 3 ∨ op = 4) ∧ body.length ≤ 1024 ∧ off + body.length ≤ 2048 ∧ s.field (.saf 0) 0x48 15 0 = s.field .mbxSaf 0x40 15 0 ∧ s.lockOf .mbxSaf = none) ∧
    (∃ (s : State) (id req op off slot : Nat) (final : Bool) (body sig : List Byte) (x : KrdsSession), s.freshRequest id req true x ∧ 1 ≤ op ∧ op ≤ 4 ∧ body.length ≤ 1024 ∧ off + body.length ≤ 2048 ∧ s.field (.saf 0) 0x48 15 0 ≠ s.field .mbxSaf 0x40 15 0) ∧
    (∃ (s : State) (id req off : Nat) (part : List Byte) (sigOk : Bool) (x : KrdsSession), s.freshRequest id req true x ∧ part.length ≤ 1020 ∧ off + part.length ≤ 3072) ∧
    (∃ (s : State) (id req off : Nat) (part : List Byte) (sigOk : Bool) (x : KrdsSession) (code : Nat), s.freshRequest id req true x ∧ part.length ≤ 1020 ∧ off + part.length ≤ 3072 ∧ s.inU2 = false ∧ code = ({ s with keys := { s.keys with part := [] } }.keyPackage (slice (spliceAt s.keys.part off part) 0 (off + part.length)) sigOk).2) :=
  ⟨⟨{ P with keys := { P.keys with anchor := some [1] } }, 3, true, 5, by decide +kernel⟩,
   ⟨P, 3, true, true, 5, by decide +kernel⟩,
   ⟨lk (KP true) .img .krds, 3, ses0 true, by decide +kernel⟩,
   ⟨lk (KP true) .img .krds, 3, 9, ses0 true, by unfold State.freshRequest; decide +kernel⟩,
   ⟨KP true, 3, 8, .clk, 0x40, 5, [], ses0 true, (8, 0, [1, 2]), by decide +kernel⟩,
   ⟨KP false, 3, 9, .clk, 0x40, 5, [], ses0 false, by unfold State.freshRequest; decide +kernel, by decide +kernel⟩,
   ⟨KP false, 4, 9, .clk, 0x40, 5, [], by decide +kernel⟩,
   ⟨KP false, 3, 9, ses0 false, by unfold State.freshRequest; decide +kernel⟩,
   ⟨withKrds SE false, 3, 9, ses0 false, by unfold State.freshRequest; decide +kernel⟩,
   ⟨withKrds (withLog P (fun l => { l with tail := [{ entry := rec1, inFlash := false }], next := 1 })) false, 3, 9, 5, 0, ses0 false, by unfold State.freshRequest; decide +kernel, by decide +kernel⟩,
   ⟨KP false, 3, 9, 0x20, 8, .clk, ses0 false, by unfold State.freshRequest; decide +kernel, by unfold State.plainPage State.takes; decide +kernel, by decide +kernel⟩,
   ⟨KP false, 3, 9, .clk, ses0 false, by unfold State.freshRequest; decide +kernel, by unfold State.plainPage State.takes; decide +kernel⟩,
   ⟨KP true, 3, 9, .clk, 0x20, 5, [wr .pf0 0x20 7], ses0 true, by unfold State.freshRequest; decide +kernel, by decide +kernel, by unfold State.takes; decide +kernel⟩,
   ⟨KP true, 3, 9, 0x4B520003, [], ses0 true, by unfold State.freshRequest; decide +kernel, by unfold State.takes; decide +kernel⟩,
   ⟨KP true, 3, 9, .clk, [], ses0 true, by unfold State.freshRequest; decide +kernel, by unfold State.takes; decide +kernel⟩,
   ⟨lk (KP true) .clk .krds, 3, 9, .clk, [], ses0 true, .krds, by unfold State.freshRequest; decide +kernel, by unfold State.takes; decide +kernel, by decide +kernel⟩,
   ⟨K true, 3, 9, 0, 0x101, [], [], ses0 true, by unfold State.freshRequest; decide +kernel, by decide +kernel, by decide +kernel, by unfold State.grants State.takes; decide +kernel, by decide +kernel⟩,
   ⟨KP true, 3, 9, (.nyc 2), ses0 true, by unfold State.freshRequest; decide +kernel, by unfold State.takes; decide +kernel, by decide +kernel⟩,
   ⟨KP true, 3, 9, .mgt, ses0 true, by unfold State.freshRequest; decide +kernel, by decide +kernel⟩,
   ⟨withKrds (put P [(.clk, 0x44, 0), (.clk, 0x40, 0x8000FFFF)]) true, 3, 9, 5, true, ses0 true, by unfold State.freshRequest; decide +kernel, by unfold State.takes; decide +kernel, by decide +kernel⟩,
   ⟨withKrds (pmeOn P) true, 3, 9, ses0 true, by unfold State.freshRequest; decide +kernel, by decide +kernel⟩,
   ⟨KP true, 3, 9, 1, [7, 8], ses0 true, by unfold State.freshRequest; decide +kernel, by decide +kernel⟩,
   ⟨withKrds (put P [(mbxPage 1, 0x40, 8)]) true, 3, 9, 1, [7, 8], ses0 true, by unfold State.freshRequest; decide +kernel, by decide +kernel⟩,
   ⟨withKrds SE false, 3, 9, [], ses0 false, by unfold State.freshRequest; decide +kernel⟩,
   ⟨KP false, 3, 9, [], ses0 false, by unfold State.freshRequest; decide +kernel⟩,
   ⟨KP true, 3, 9, 0, 0, false, [], [], ses0 true, by unfold State.freshRequest; decide +kernel⟩,
   ⟨KP true, 3, 9, 4, 0, 6, true, [1, 2, 3], [4], ses0 true, by unfold State.freshRequest; decide +kernel, by decide +kernel⟩,
   ⟨withKrds (put P [(.mbxSaf, 0x40, 1)]) true, 3, 9, 2, 0, 6, true, [1, 2, 3], [4], ses0 true, by unfold State.freshRequest; decide +kernel, by decide +kernel⟩,
   ⟨KP true, 3, 9, 64, keyPkg, true, ses0 true, by unfold State.freshRequest; decide +kernel, by decide +kernel⟩,
   ⟨K true, 3, 9, 0, keyPkg, true, ses0 true, 0, by unfold State.freshRequest; decide +kernel, by decide +kernel⟩⟩

/-- States and operands that meet the hypotheses of each clause of `YemorLinesAndTheirAnswers`. -/
theorem witness_YemorLinesAndTheirAnswers :
    (∃ s : State, s.console.open_ = false ∧ s.boot.recovery = false ∧ s.pwr.started = true) ∧
    (∃ s : State, s.console.open_ = true) ∧
    (∃ s : State, s.console.open_ = false) ∧
    (∃ s : State, s.serves) ∧
    (∃ s : State, s.serves) ∧
    (∃ s : State, s.serves) ∧
    (∃ s : State, s.serves) ∧
    (∃ (s : State) (seq : Word) (count : Nat), s.serves ∧ count ≤ 32) ∧
    (∃ (s : State) (p : Page) (off count : Nat), s.serves ∧ s.plainPage p ∧ 1 ≤ count ∧ count ≤ 64 ∧ off % 4 = 0 ∧ off + 4 * count ≤ 0x1000) ∧
    (∃ (s : State) (p : Page) (off count : Nat), s.serves ∧ (count = 0 ∨ 64 < count ∨ off % 4 ≠ 0 ∨ 0x1000 < off + 4 * count)) ∧
    (∃ (s : State) (p : Page), s.serves ∧ s.plainPage p) ∧
    (∃ (s : State) (p : Page) (off : BitVec 12) (v : Word) (rivals : List Req), s.serves ∧ bitOn (s.reg .yem 0x40) 0 = true ∧ s.plainPage p ∧ off.toNat % 4 = 0 ∧ off.toNat ≠ 0x24) ∧
    (∃ (off : Nat) (before after : Word), off < 0x1000 ∧ off % 4 = 0) ∧
    (∃ (s : State) (p : Page) (rivals : List Req), s.serves ∧ bitOn (s.reg .yem 0x40) 0 = true ∧ s.takes (accessIsland p 0x24)) ∧
    (∃ (s : State) (p : Page) (rivals : List Req) (m : Master), s.serves ∧ bitOn (s.reg .yem 0x40) 0 = true ∧ s.takes (accessIsland p 0x24) ∧ s.lockOf p = some m ∧ p ≠ .met) ∧
    (∃ (s : State) (keepRing selMgt : Bool) (rivals : List Req), s.serves ∧ bitOn (s.reg .yem 0x40) 0 = true ∧ s.takes .mgt) ∧
    (∃ (s : State) (i : Island), s.serves ∧ bitOn (s.reg .yem 0x40) 0 = true ∧ s.takes .mgt ∧ s.sens.hot = false ∧ s.lockOf .isl = none ∧ i ∉ [Island.fab, .host, .mgt, .saf] ∧ s.runs i = true) ∧
    (∃ (s : State) (i : Fin 16) (pll : Bool), s.serves ∧ bitOn (s.reg .yem 0x40) 0 = true ∧ s.takes .mgt ∧ s.sens.hot = false ∧ s.lockOf .clk = none ∧ bitOn (s.reg .clk 0x44) i.val = !pll ∧ bitOn (s.reg .clk 0x40) (if pll then 31 else i.val) = true ∧ s.muxBusy i.val = false ∧ (s.island (islandOf i.val)).cold = false ∧ (s.island (islandOf i.val)).noClock = false ∧ s.sourceOk i.val pll = true) ∧
    (∃ s : State, s.serves ∧ bitOn (s.reg .yem 0x40) 0 = true ∧ bitOn (s.reg .hlnk 0x4C) 8 = true) ∧
    (∃ s : State, s.serves) :=
  ⟨⟨P, by decide +kernel⟩,
   ⟨lk Y .clk .yemor, by decide +kernel⟩,
   ⟨P, by decide +kernel⟩,
   ⟨Y, Y_serves⟩,
   ⟨Y, Y_serves⟩,
   ⟨Y, Y_serves⟩,
   ⟨Y, Y_serves⟩,
   ⟨withLog Y (fun l => { l with tail := [{ entry := rec1, inFlash := false }], next := 1 }), 0, 5, by unfold State.serves; decide +kernel, by decide +kernel⟩,
   ⟨lk Y .clk .pf0, .clk, 0x20, 8, by unfold State.serves; decide +kernel, by unfold State.plainPage State.takes; decide +kernel, by decide +kernel⟩,
   ⟨Y, .clk, 0x21, 8, Y_serves, by decide +kernel⟩,
   ⟨lk Y .clk .pf0, .clk, by unfold State.serves; decide +kernel, by unfold State.plainPage State.takes; decide +kernel⟩,
   ⟨Y, .clk, 0x20, 5, [], Y_serves, by decide +kernel, by unfold State.plainPage State.takes; decide +kernel, by decide +kernel⟩,
   ⟨0x40, 0x00010009, 0x78100002, by decide +kernel⟩,
   ⟨Y, .clk, [], Y_serves, by decide +kernel, by unfold State.takes; decide +kernel⟩,
   ⟨lk Y .clk .pf0, .clk, [], .pf0, by unfold State.serves; decide +kernel, by decide +kernel, by unfold State.takes; decide +kernel, by decide +kernel⟩,
   ⟨Y, true, true, [], Y_serves, by decide +kernel, by unfold State.takes; decide +kernel⟩,
   ⟨Y, (.nyc 2), Y_serves, by decide +kernel, by unfold State.takes; decide +kernel, by decide +kernel⟩,
   ⟨put Y [(.clk, 0x44, 0), (.clk, 0x40, 0x8000FFFF)], 5, true, by unfold State.serves; decide +kernel, by decide +kernel, by unfold State.takes; decide +kernel, by decide +kernel⟩,
   ⟨pmeOn Y, by unfold State.serves; decide +kernel, by decide +kernel⟩,
   ⟨lk Y .clk .yemor, by unfold State.serves; decide +kernel⟩⟩

/-- States and operands that meet the hypotheses of each clause of `RecoveryAndTheTwoWirePort`. -/
theorem witness_RecoveryAndTheTwoWirePort :
    (∃ s : State, s.boot.recovery = true) ∧
    (∃ (s : State) (setB : Bool), s.boot.recovery = true) ∧
    (∃ (s : State) (num : Nat) (data : List Byte) (sigs : List Bool), s.boot.recovery = true ∧ s.console.loading = true ∧ num % 256 = s.console.block % 256 ∧ data.length ≤ 1024 ∧ s.console.fill + data.length ≤ 2 ^ 26 ∧ s.inU2 = false ∧ s.admitsBurst ((data.length + 255) / 256) = true) ∧
    (∃ (s : State) (num : Nat) (data : List Byte) (sigs : List Bool), s.boot.recovery = true ∧ s.console.loading = true ∧ num % 256 = s.console.block % 256 ∧ data.length ≤ 1024 ∧ s.console.fill + data.length ≤ 2 ^ 26 ∧ s.inU2 = false ∧ s.admitsBurst ((data.length + 255) / 256) = false) ∧
    (∃ (s : State) (num : Nat) (data : List Byte) (sigs : List Bool), s.boot.recovery = true ∧ s.console.loading = true) ∧
    (∃ (s : State) (num ver : Nat) (data : List Byte) (crcOk : Bool) (sigs : List Bool), s.boot.recovery = true ∧ s.console.loading = true ∧ (s.boot.named s.console.rloadB).verdict sigs s.boot.rollback = .inr ver) ∧
    (∃ (s : State) (num k code : Nat) (data : List Byte) (crcOk : Bool) (sigs : List Bool), s.boot.recovery = true ∧ s.console.loading = true ∧ (s.boot.named s.console.rloadB).verdict sigs s.boot.rollback = .inl (k, code)) ∧
    (∃ s : State, s.boot.recovery = true ∧ s.console.rloadOk = true) ∧
    (∃ s : State, s.boot.recovery = true ∧ s.console.rloadOk = false) ∧
    (∃ (s : State) (addr : BitVec 7) (v : BitVec 16), s.pwr.started = true ∧ addr.toNat = s.field .twp 0x40 6 0) ∧
    (∃ (s : State) (addr : BitVec 7), s.pwr.started = true ∧ addr.toNat = s.field .twp 0x40 6 0) ∧
    (∃ (s : State) (p : Page) (rivals : List Req), s.pwr.started = true ∧ s.twp.deaf = false ∧ s.twp.fetch = none ∧ s.twp.ptr < 0x8000 ∧ s.twpPage s.twp.ptr = some p ∧ s.plainPage p ∧ s.twp.ptr % 0x1000 / 4 ≠ 9) ∧
    (∃ (s : State) (w : Word) (rivals : List Req), s.pwr.started = true ∧ s.twp.deaf = false ∧ s.twp.fetch = some (s.twp.ptr / 4 * 4, w)) ∧
    (∃ (s : State) (p : Page) (a b c d : Byte) (rivals : List Req), s.pwr.started = true ∧ s.twp.deaf = false ∧ s.twp.ptr % 4 = 0 ∧ s.twpPage s.twp.ptr = some p) ∧
    (∃ (s : State) (bytes : List Byte) (rivals : List Req), s.pwr.started = true ∧ s.twp.deaf = false ∧ s.twp.ptr % 4 = 0 ∧ 1 ≤ bytes.length ∧ bytes.length < 4) ∧
    (∃ s : State, s.pwr.started = true) ∧
    (∃ s : State, s.pwr.started = true ∧ s.twp.held = false) ∧
    (∃ s : State, s.twp.held = true) ∧
    (∃ s : State, s.pwr.started = true) :=
  ⟨⟨REC, by decide +kernel⟩,
   ⟨REC, true, by decide +kernel⟩,
   ⟨REC, 5, [1, 2, 3], [], by decide +kernel⟩,
   ⟨put REC [(.pwr, 0x4C, 3)], 5, [1, 2, 3], [], by decide +kernel⟩,
   ⟨REC, 5, [1, 2, 3], [], by decide +kernel⟩,
   ⟨REC, 5, 4, [], true, List.replicate 4 true, by decide +kernel⟩,
   ⟨REC, 5, 1, 2, [], true, [], by decide +kernel⟩,
   ⟨{ REC with console := { REC.console with rloadOk := true } }, by decide +kernel⟩,
   ⟨REC, by decide +kernel⟩,
   ⟨twpS 5 none, 0x48, 0x9002, by decide +kernel⟩,
   ⟨twpS 5 none, 0x48, by decide +kernel⟩,
   ⟨twpS 0x1042 none, .unit, [], by refine ⟨?_, ?_, ?_, ?_, ?_, (by unfold State.plainPage State.takes; decide +kernel), ?_⟩ <;> decide +kernel⟩,
   ⟨twpS 0x1042 (some (0x1040, 0x01020304)), 0x01020304, [], by decide +kernel⟩,
   ⟨twpS 0x1020 none, .unit, 1, 2, 3, 4, [], by decide +kernel⟩,
   ⟨twpS 0x1020 none, [1, 2], [], by decide +kernel⟩,
   ⟨lk (twpS 5 none) .clk .twp, by decide +kernel⟩,
   ⟨P, by decide +kernel⟩,
   ⟨{ P with twp := { P.twp with held := true } }, by decide +kernel⟩,
   ⟨SE, by decide +kernel⟩⟩

/-- States and operands that meet the hypotheses of each clause of `WriteEnableStopsConsoleWrites`. -/
theorem witness_WriteEnableStopsConsoleWrites :
    (∃ (s : State) (p : Page) (off : BitVec 12) (v : Word) (rivals : List Req) (keepRing selMgt pll : Bool) (i : Island) (k : Fin 16) (o : Host.Outcome State Fault Refusal), s.serves ∧ bitOn (s.reg .yem 0x40) 0 = false ∧ o ∈ [exec (.yemWr p off v rivals) s, exec (.yemLock p rivals) s, exec (.yemUnlock p rivals) s, exec (.yemReset keepRing selMgt rivals) s, exec (.yemCold i) s, exec (.yemClk k pll) s, exec .yemWake s]) ∧
    (∃ (s : State) (id req : Nat) (l : YemLine) (rivals : List Req) (x : KrdsSession), s.freshRequest id req true x ∧ l ≠ .bye) ∧
    (∃ (s : State) (w : Word) (setB : Bool), s.boot.recovery = true) ∧
    (∃ (s : State) (w : Word), s.boot.recovery = true) ∧
    (∃ (s : State) (w : Word) (num : Nat) (data : List Byte) (crcOk final : Bool) (sigs : List Bool), s.boot.recovery = true) ∧
    (∃ (s : State) (w : Word), s.boot.recovery = true ∧ s.console.rloadOk = true) :=
  ⟨⟨put Y [(.yem, 0x40, 0)], .clk, 0x20, 5, [], true, true, true, (.nyc 2), 5, exec (.yemWr .clk 0x20 5 []) (put Y [(.yem, 0x40, 0)]), by unfold State.serves; decide +kernel, by decide +kernel, .head _⟩,
   ⟨KP true, 3, 9, .wr .clk 0x20 5, [], ses0 true, by unfold State.freshRequest; decide +kernel, by decide +kernel⟩,
   ⟨REC, 1, true, by decide +kernel⟩,
   ⟨REC, 1, by decide +kernel⟩,
   ⟨REC, 1, 5, [1, 2, 3], true, false, [], by decide +kernel⟩,
   ⟨{ REC with console := { REC.console with rloadOk := true } }, 1, by decide +kernel⟩⟩

/-- States and operands that meet the hypotheses of each clause of `SafetyPartition`. -/
theorem witness_SafetyPartition :
    (∃ s : State, s.saf.started = true) ∧
    (∃ (s : State) (copies : List (List Byte × Nat)), s.saf.started = false ∧ s.saf.testing = false ∧ s.pwr.started = true ∧ ((∀ c ∈ copies, c ∈ s.saf.store))) ∧
    (∃ (s : State) (inB quiet : Bool), s.saf.started = true ∧ s.saf.useEstop = true ∧ s.saf.cause.getLsbD 2 = false) ∧
    (∃ (s : State) (inB high : Bool) (recent : Nat), 5 ≤ recent ∧ s.saf.started = true ∧ s.saf.useEstop = true ∧ s.saf.cause.getLsbD 4 = false) ∧
    (∃ (s : State) (inB high : Bool) (recent : Nat), recent < 5) ∧
    (∃ s : State, s.saf.started = true ∧ s.saf.useEstop = true ∧ s.saf.actA ≠ s.saf.actB ∧ s.saf.cause.getLsbD 3 = false) ∧
    (∃ (s : State) (ms : Nat), s.saf.started = true ∧ s.saf.useLocal = true ∧ 100 ≤ ms ∧ ms ≤ 5000) ∧
    (∃ (s : State) (ms : Nat), (s.saf.useLocal = false ∨ ms < 100 ∨ 5000 < ms)) ∧
    (∃ s : State, s.saf.on = true ∧ s.saf.started = true ∧ s.saf.cause = 0) ∧
    (∃ (s : State) (mv : Nat), mv < 19200 ∧ s.saf.started = true ∧ s.saf.cause.getLsbD 10 = false) ∧
    (∃ (s : State) (mv : Nat), 20400 ≤ mv ∧ s.saf.started = true ∧ s.saf.cause = 0x400) ∧
    (∃ (s : State) (mv : Nat), 20400 ≤ mv ∧ s.saf.cause &&& ~~~0x400 ≠ 0) ∧
    (∃ (x : SafSt) (b : List Byte) (k : Nat), x.judge b = (0, some k)) ∧
    (∃ (s : State) (tel : List Byte) (k : Nat), s.saf.started = true ∧ s.saf.block ≠ [] ∧ byteAt tel 13 = 1 ∧ s.saf.judge tel = (0, some k)) ∧
    (∃ (s : State) (tel : List Byte) (k : Nat), s.saf.started = true ∧ s.saf.block ≠ [] ∧ byteAt tel 13 = 2 ∧ s.saf.judge tel = (0, some k) ∧ s.saf.cause.getLsbD 5 = false) ∧
    (∃ (s : State) (tel : List Byte) (k : Nat), s.saf.started = true ∧ s.saf.block ≠ [] ∧ byteAt tel 13 = 3 ∧ s.saf.judge tel = (0, some k)) ∧
    (∃ (s : State) (tel : List Byte) (k : Nat), s.saf.started = true ∧ s.saf.block ≠ [] ∧ byteAt tel 13 = 4 ∧ s.saf.judge tel = (0, some k)) ∧
    (∃ (s : State) (tel : List Byte) (r : Nat) (k : Option Nat) (o : Host.Outcome State Fault Refusal), s.saf.started = true ∧ s.saf.block ≠ [] ∧ s.saf.judge tel = (r, k) ∧ r ≠ 0 ∧ ((o = exec (.heartbeat tel) s ∧ byteAt tel 13 = 1) ∨ (o = exec (.stopTelegram tel) s ∧ byteAt tel 13 = 2) ∨ (o = exec (.release tel) s ∧ byteAt tel 13 = 3) ∨ (o = exec (.dyingGasp tel) s ∧ byteAt tel 13 = 4))) ∧
    (∃ (s : State) (id r : Nat) (k : Option Nat) (x : Frame), s.frame id = some x ∧ x.loc = .safIn ∧ x.bad = false ∧ x.func = false ∧ s.saf.started = true ∧ s.saf.block ≠ [] ∧ s.saf.judge (x.body.drop (etherPos (hsrPos x.body).isSome x.body + 2)) = (r, k) ∧ r ≠ 0) ∧
    (∃ (s : State) (id k : Nat) (x : Frame) (tel : List Byte), s.frame id = some x ∧ x.loc = .safIn ∧ x.bad = false ∧ x.func = false ∧ s.saf.started = true ∧ s.saf.block ≠ [] ∧ tel = x.body.drop (etherPos (hsrPos x.body).isSome x.body + 2) ∧ s.saf.judge tel = (0, some k)) ∧
    (∃ s : State, s.saf.started = true ∧ s.saf.heldRel + s.saf.heldLoc = 0) ∧
    (∃ s : State, s.saf.started = true ∧ 0 < s.saf.heldRel + s.saf.heldLoc ∧ s.saf.anyStop = true) ∧
    (∃ (s : State) (watched : Bool), s.saf.started = true ∧ 0 < s.saf.heldRel + s.saf.heldLoc ∧ s.saf.anyStop = false ∧ ((watched = true ↔ ∀ k ∈ s.saf.validPeers, s.saf.peerBit k 4 = true → 3 ≤ (s.saf.peer k).run))) ∧
    (∃ (s : State) (k : Fin 8), s.saf.started = true ∧ k.val ∈ s.saf.validPeers ∧ s.saf.peerBit k.val 4 = true ∧ s.saf.cause.getLsbD 6 = false) ∧
    (∃ (s : State) (k : Fin 8), s.saf.peerBit k.val 4 = false) ∧
    (∃ s : State, s.saf.started = true) ∧
    (∃ (s : State) (within : Nat), s.saf.testing = true) ∧
    (∃ (s : State) (block : List Byte) (slot : Nat) (seq : BitVec 16), s.asked seq = true ∧ s.saf.key slot ≠ [] ∧ blockFault block = 0) ∧
    (∃ (s : State) (block : List Byte) (slot reason : Nat) (sigOk : Bool) (seq : BitVec 16), s.asked seq = true ∧ ((s.saf.key slot = [] ∧ reason = 5) ∨ (s.saf.key slot ≠ [] ∧ blockFault block ≠ 0 ∧ reason = blockFault block) ∨ (s.saf.key slot ≠ [] ∧ blockFault block = 0 ∧ sigOk = false ∧ reason = 1))) ∧
    (∃ (s : State) (slot : Nat) (seq : BitVec 16), s.asked seq = true ∧ s.outSafe ∧ s.saf.prop ≠ [] ∧ s.saf.key slot ≠ [] ∧ slot ≠ s.saf.propBy) ∧
    (∃ (s : State) (slot reason : Nat) (sigOk : Bool) (seq : BitVec 16), s.asked seq = true ∧ ((s.saf.prop = [] ∧ reason = 2) ∨ (s.saf.prop ≠ [] ∧ s.saf.key slot = [] ∧ reason = 5) ∨ (s.saf.prop ≠ [] ∧ s.saf.key slot ≠ [] ∧ slot = s.saf.propBy ∧ reason = 4) ∨ (s.saf.prop ≠ [] ∧ s.saf.key slot ≠ [] ∧ slot ≠ s.saf.propBy ∧ sigOk = false ∧ reason = 1))) ∧
    (∃ (s : State) (seq : BitVec 16), s.asked seq = true) ∧
    (∃ (s : State) (slot : Nat) (key : List Byte) (seq : BitVec 16), s.asked seq = true ∧ (slot = 1 ∨ slot = 2) ∧ key.length = 97 ∧ byteAt key 0 = 4 ∧ key ≠ s.saf.key (3 - slot)) ∧
    (∃ (s : State) (slot : Nat) (key : List Byte) (seq : BitVec 16), s.asked seq = true ∧ (slot ≠ 1 ∧ slot ≠ 2 ∨ key.length ≠ 97 ∨ key = s.saf.key (3 - slot))) ∧
    (∃ (s : State) (sec : Nat), s.saf.started = true ∧ (s.saf.enSlot = 1 ∨ s.saf.enSlot = 2) ∧ 10 ≤ sec ∧ sec ≤ 20) ∧
    (∃ (s : State) (sec : Nat), (s.saf.enSlot = 0 ∨ sec < 10 ∨ 20 < sec)) ∧
    (∃ s : State, s.saf.enSlot ≠ 0) ∧
    (∃ s : State, s.saf.prop ≠ []) ∧
    (∃ (s : State) (session : Nat), s.krds.any (fun x => x.id = session) = true) ∧
    (∃ (s : State) (seq : BitVec 16), s.saf.doneSeq = seq.toNat) :=
  ⟨⟨SF, by decide +kernel⟩,
   ⟨withSaf P (fun x => { x with started := false, actA := true, store := [(blk 5, 3), (blk 6, 4), ([1], 9)] }), [(blk 5, 3), (blk 6, 4), ([1], 9)], by decide +kernel⟩,
   ⟨SF, true, true, by decide +kernel⟩,
   ⟨SF, true, true, 5, by decide +kernel⟩,
   ⟨SF, true, true, 4, by decide +kernel⟩,
   ⟨withSaf SF (fun x => { x with actA := true }), by decide +kernel⟩,
   ⟨SF, 5000, by decide +kernel⟩,
   ⟨SF, 5001, by decide +kernel⟩,
   ⟨SF, by decide +kernel⟩,
   ⟨SF, 19199, by decide +kernel⟩,
   ⟨sfc 0x400, 20400, by decide +kernel⟩,
   ⟨sfc 0x402, 20400, by decide +kernel⟩,
   ⟨SF.saf, tl 1 8, 0, by decide +kernel⟩,
   ⟨SF, tl 1 8, 0, by decide +kernel⟩,
   ⟨SF, tl 2 8, 0, by decide +kernel⟩,
   ⟨SF, tl 3 8, 0, by decide +kernel⟩,
   ⟨SF, tl 4 8, 0, by decide +kernel⟩,
   ⟨SF, tl 2 7, 7, some 0, exec (.stopTelegram (tl 2 7)) SF, by refine ⟨?_, ?_, ?_, ?_, .inr (.inl ⟨rfl, by decide +kernel⟩)⟩ <;> decide +kernel⟩,
   ⟨kptS (tl 2 7), 1, 7, some 0, kptF (tl 2 7), by decide +kernel⟩,
   ⟨kptS (tl 2 8), 1, 0, kptF (tl 2 8), tl 2 8, by decide +kernel⟩,
   ⟨SF, by decide +kernel⟩,
   ⟨withSaf (sfc 0x20) (fun x => { x with heldRel := 1, heldLoc := 2, anyStop := true }), by decide +kernel⟩,
   ⟨withSaf (sfc 0x3F2) (fun x => { x with heldRel := 1, quiet := true, peers := peer0 :: peer0 :: List.replicate 6 PeerSt.reset }), true, by decide +kernel⟩,
   ⟨SF, 0, by decide +kernel⟩,
   ⟨SF, 2, by decide +kernel⟩,
   ⟨SF, by decide +kernel⟩,
   ⟨withSaf SF (fun x => { x with started := false, testing := true, high := false, low := false }), 3, by decide +kernel⟩,
   ⟨SF, blk 6, 2, 5, by decide +kernel, by decide +kernel, blk_ok⟩,
   ⟨SF, [1], 2, 2, true, 5, by decide +kernel⟩,
   ⟨withSaf SF (fun x => { x with prop := blk 6, propBy := 2 }), 1, 5, by decide +kernel, by unfold State.outSafe; decide +kernel, by decide +kernel⟩,
   ⟨SF, 1, 2, true, 5, by decide +kernel⟩,
   ⟨withSaf SF (fun x => { x with prop := blk 6, propBy := 2, enSlot := 1 }), 5, by decide +kernel⟩,
   ⟨SF, 2, 4 :: List.replicate 96 1, 5, by decide +kernel⟩,
   ⟨SF, 2, List.replicate 96 1, 5, by decide +kernel⟩,
   ⟨withSaf SF (fun x => { x with enSlot := 2, enKey := [9] }), 10, by decide +kernel⟩,
   ⟨withSaf SF (fun x => { x with enSlot := 2, enKey := [9] }), 21, by decide +kernel⟩,
   ⟨withSaf SF (fun x => { x with enSlot := 2, enKey := [9] }), by decide +kernel⟩,
   ⟨withSaf SF (fun x => { x with prop := blk 6, propBy := 2 }), by decide +kernel⟩,
   ⟨withKrds SF true, 3, by decide +kernel⟩,
   ⟨SF, 4, by decide +kernel⟩⟩

/-- States and operands that meet the hypotheses of each clause of `MeterCore`. -/
theorem witness_MeterCore :
    (∃ (s : State) (ppm : Nat) (matched : Bool), s.metOn = true ∧ s.meter.measuring = true ∧ ppm ≤ 500 ∧ (s.meter.slot = 0 ∨ matched = true)) ∧
    (∃ (s : State) (ppm : Nat) (matched : Bool), s.metOn = true ∧ s.meter.measuring = true ∧ s.meter.slot ≠ 0 ∧ (500 < ppm ∨ matched = false) ∧ s.meter.log.length < 1000) ∧
    (∃ (s : State) (p q : Int) (volts amps : List Nat), s.metOn = true ∧ s.meter.measuring = true) ∧
    (∃ s : State, s.metOn = true ∧ s.meter.periodOf s.meter.time ≠ s.meter.mark) ∧
    (∃ s : State, s.metOn = true ∧ s.meter.periodOf s.meter.time = s.meter.mark) ∧
    (∃ s : State, s.metOn = true ∧ dayOf s.meter.time ≠ s.meter.dayMark ∧ s.meter.unlogged = 0) ∧
    (∃ s : State, s.metOn = true ∧ dayOf s.meter.time ≠ s.meter.dayMark ∧ 0 < s.meter.unlogged ∧ s.meter.log.length < 1024) ∧
    (∃ s : State, s.metOn = true ∧ s.pwr.started = true) ∧
    (∃ s : State, s.metOn = false) ∧
    (∃ (s : State) (r : MetRec), s.metAsked 1 = true ∧ s.field .mbxMet 0x48 1 0 < 3 ∧ s.field .mbxMet 0x48 1 0 = 2 ∧ (s.reg .mbxMet 0x44).toNat < 1024 ∧ s.meter.held (s.field .mbxMet 0x48 1 0) (s.reg .mbxMet 0x44).toNat = some r) ∧
    (∃ (s : State) (r : MetRec), s.metAsked 1 = true ∧ s.field .mbxMet 0x48 1 0 < 2 ∧ s.meter.held (s.field .mbxMet 0x48 1 0) (s.reg .mbxMet 0x44).toNat = some r) ∧
    (∃ s : State, s.metAsked 1 = true ∧ (s.field .mbxMet 0x48 1 0 = 3 ∨ (s.field .mbxMet 0x48 1 0 = 2 ∧ 1024 ≤ (s.reg .mbxMet 0x44).toNat))) ∧
    (∃ s : State, s.metAsked 1 = true ∧ s.field .mbxMet 0x48 1 0 < 2 ∧ s.meter.held (s.field .mbxMet 0x48 1 0) (s.reg .mbxMet 0x44).toNat = none) ∧
    (∃ s : State, s.metAsked 3 = true) ∧
    (∃ s : State, s.metAsked 3 = false) ∧
    (∃ (s : State) (ns : Nat) (state : Fin 4), (s.metAsked 2 = false ∨ s.ptpSample ns state.val = false)) ∧
    (∃ (s : State) (ns : Nat) (state : Fin 4) (off : Int), s.metAsked 2 = true ∧ s.ptpSample ns state.val = true ∧ off = (ns / 1000000 : Nat) - (BitVec.ofNat 16 (s.field .mbxMet 0x48 15 0)).toInt * 1000 - s.meter.time) ∧
    (∃ s : State, s.hasMeter = true ∧ bitOn (s.reg .mbxMet 0x4C) 1 = true) ∧
    (∃ s : State, (s.hasMeter = false ∨ bitOn (s.reg .mbxMet 0x4C) 1 = false)) ∧
    (∃ s : State, s.metOn = true ∧ s.meter.slew ≠ 0 ∧ s.meter.clockSet = true ∧ 0 ≤ s.meter.time + s.meter.slew) ∧
    (∃ s : State, s.hasMeter = true ∧ s.meter.fitted = true ∧ s.meter.supplied = true) ∧
    (∃ s : State, s.hasMeter = true ∧ s.meter.fitted = true ∧ s.meter.holdup = true ∧ s.meter.log.length < 1000) ∧
    (∃ s : State, s.hasMeter = true ∧ s.meter.fitted = true ∧ s.meter.supplied = false ∧ s.meter.holdup = false) ∧
    (∃ s : State, (s.hasMeter = false ∨ s.meter.supplied = true ∨ s.meter.holdup = true)) ∧
    (∃ (s : State) (sec : Nat), s.hasMeter = true ∧ s.meter.fitted = true ∧ s.meter.supplied = false ∧ s.meter.holdup = true) ∧
    (∃ (s : State) (sec : Nat), s.hasMeter = true ∧ s.meter.fitted = true ∧ s.meter.supplied = false ∧ s.meter.holdup = false ∧ s.meter.backupGone = false ∧ s.meter.clockSet = true ∧ s.meter.log.length < 1000) ∧
    (∃ (s : State) (sec : Nat), s.hasMeter = true ∧ s.meter.fitted = true ∧ s.meter.supplied = false ∧ s.meter.holdup = false ∧ s.meter.backupGone = true ∧ s.meter.log.length < 999) ∧
    (∃ (s : State) (k : Fin 3), s.metOn = true ∧ s.meter.phase.getD k.val false = false ∧ s.meter.log.length < 1000) ∧
    (∃ (s : State) (k : Fin 3), s.metOn = true ∧ s.meter.phase.getD k.val false = true ∧ s.meter.log.length < 1000) ∧
    (∃ (s : State) (k : Fin 3) (began : Bool), s.meter.phase.getD k.val false = began) ∧
    (∃ (s : State) (opened : Bool), s.metOn = true ∧ s.meter.log.length < 1000) ∧
    (∃ (s : State) (opened : Bool), s.metOn = true ∧ 1000 ≤ s.meter.log.length) ∧
    (∃ s : State, s.metOn = true) ∧
    (∃ s : State, s.metOn = true) ∧
    (∃ s : State, s.metOn = true) ∧
    (∃ (s : State) (id fw : Nat) (pubkey : List Byte), s.hasMeter = true) ∧
    (∃ (s : State) (setting old new : Nat), s.metOn = true ∧ s.meter.log.length < 1024) ∧
    (∃ (s : State) (old new : Nat), s.metOn = true ∧ s.meter.log.length < 1024 ∧ new ∈ [1, 5, 10, 15, 30, 60] ∧ new ≠ s.meter.period) ∧
    (∃ (s : State) (firmware : Bool) (setting old new : Nat), 1024 ≤ s.meter.log.length) :=
  ⟨⟨ME, 500, true, by decide +kernel⟩,
   ⟨ME, 501, true, by decide +kernel⟩,
   ⟨ME, -5, -7, [2300, 2310, 2290], [1, 2, 3], by decide +kernel⟩,
   ⟨ME, by decide +kernel⟩,
   ⟨withMet ME (fun x => { x with mark := 97 }), by decide +kernel⟩,
   ⟨withMet ME (fun x => { x with time := 86400000 }), by decide +kernel⟩,
   ⟨withMet ME (fun x => { x with time := 86400000, unlogged := 4 }), by decide +kernel⟩,
   ⟨metAsk 1 [], by decide +kernel⟩,
   ⟨P, by decide +kernel⟩,
   ⟨metAsk 1 [(.mbxMet, 0x48, 2), (.mbxMet, 0x44, 0)], mr 1 4 2, by decide +kernel⟩,
   ⟨metAsk 1 [(.mbxMet, 0x48, 0), (.mbxMet, 0x44, 2)], mr 2 1 0, by decide +kernel⟩,
   ⟨metAsk 1 [(.mbxMet, 0x48, 2), (.mbxMet, 0x44, 1024)], by decide +kernel⟩,
   ⟨metAsk 1 [(.mbxMet, 0x48, 1), (.mbxMet, 0x44, 9)], by decide +kernel⟩,
   ⟨metAsk 3 [(.mbxMet, 0x44, 0x55)], by decide +kernel⟩,
   ⟨ME, by decide +kernel⟩,
   ⟨metAsk 2 [], 87305010 * 1000000, 2, by decide +kernel⟩,
   ⟨ptpIs (metAsk 2 []) (87305010 * 1000000) 2, 87305010 * 1000000, 2, 10, by decide +kernel⟩,
   ⟨metAsk 3 [], by decide +kernel⟩,
   ⟨ME, by decide +kernel⟩,
   ⟨withMet ME (fun x => { x with slew := -40 }), by decide +kernel⟩,
   ⟨ME, by decide +kernel⟩,
   ⟨withMet ME (fun x => { x with holdup := true, supplied := false }), by decide +kernel⟩,
   ⟨withMet ME (fun x => { x with supplied := false }), by decide +kernel⟩,
   ⟨ME, by decide +kernel⟩,
   ⟨withMet ME (fun x => { x with holdup := true, supplied := false }), 5, by decide +kernel⟩,
   ⟨withMet ME (fun x => { x with supplied := false, measuring := false, answered := false }), 5, by decide +kernel⟩,
   ⟨withMet ME (fun x => { x with supplied := false, measuring := false, answered := false, backupGone := true, downAt := 77 }), 5, by decide +kernel⟩,
   ⟨ME, 1, by decide +kernel⟩,
   ⟨withMet ME (fun x => { x with phase := [false, true, false] }), 1, by decide +kernel⟩,
   ⟨ME, 1, false, by decide +kernel⟩,
   ⟨fullLog 999 ME, true, by decide +kernel⟩,
   ⟨fullLog 1000 ME, true, by decide +kernel⟩,
   ⟨withMet ME (fun x => { x with item := 11 }), by decide +kernel⟩,
   ⟨ME, by decide +kernel⟩,
   ⟨ME, by decide +kernel⟩,
   ⟨ME, 7, 8, [1, 2], by decide +kernel⟩,
   ⟨ME, 0, 1, 5, by decide +kernel⟩,
   ⟨ME, 1, 60, by decide +kernel⟩,
   ⟨fullLog 1024 ME, false, 0, 1, 5, by decide +kernel⟩⟩

/-- States and operands that meet the hypotheses of each clause of `HoldLimitFaultsAndFreesTheFrame`. -/
theorem witness_HoldLimitFaultsAndFreesTheFrame :
    (∃ (s : State) (c : Fin 8) (k : Fin 128) (id slot us : Nat) (x : Frame), (s.thread c.val k.val).slots.getD slot none = some id ∧ s.frame id = some x ∧ x.loc = .held c.val k.val slot ∧ s.field (.nyc c) 0x4C 15 0 < us ∧ (s.thread c.val k.val).st ≠ .halted ∧ (s.thread c.val k.val).st ≠ .idle ∧ s.runs (.nyc c) = true ∧ (s.cluster c.val).halt = 0 ∧ (s.cluster c.val).faults.length < 64) ∧
    (∃ (s : State) (c : Fin 8) (k : Fin 128) (us : Nat), us ≤ s.field (.nyc c) 0x4C 15 0) :=
  ⟨⟨W 1 2, 2, 18, 1, 1, 1001, heldF, by decide +kernel⟩,
   ⟨W 1 2, 2, 18, 1000, by decide +kernel⟩⟩

/-! ## Commands that are not well-formed -/

/-- A request that is no request: nine bytes wide. -/
def wide : List Req := [{ master := .mgt, off := 0x40, width := 9, kind := .write 0 }]

theorem test_ill_formed_requests :
    Instr.wf (.registerWrite .clk ⟨[], []⟩) = false ∧ Instr.wf (.registerWrite .clk ⟨wide, []⟩) = false ∧ Instr.wf (.lockRead .clk .mgt wide) = false ∧
      Instr.wf (.registerWrite .clk ⟨[{ master := .mgt, off := 0x40, width := 4, kind := .lockRead }], []⟩) = false ∧
      Instr.wf (.rcFieldRead .clk .mgt 0x40 0) = false ∧ Instr.wf (.barAccess 0 6 0 4 none false) = false ∧
      Instr.wf (.barAccess 0 0 0 9 none false) = false ∧ Instr.wf (.wqDoorbell 0 0 0 0) = false ∧ Instr.wf (.cqDoorbell 0 0 9 0) = false ∧
      Instr.wf (.nPgw 0 0 0 0 0 0 wide) = false ∧ Instr.wf (.imgWrite .mgt 2 [] false wide) = false := by decide +kernel

theorem test_ill_formed_ranges :
    Instr.wf (.linkUp 0 1) = false ∧ Instr.wf (.linkUp 6 1) = false ∧ Instr.wf (.linkUp 5 3) = false ∧ Instr.wf (.msixUnmask 0 2048) = false ∧
      Instr.wf (.l1Entry 3) = false ∧ Instr.wf (.pmeStatusSet 3 0) = false ∧ Instr.wf (.descriptorReadReturn 1 [[0]]) = false ∧
      Instr.wf (.hamTransfer 1 19) = false ∧ Instr.wf (.tblScrub 0 0 0) = false ∧ Instr.wf (.stoOpStart 0 0 []) = false ∧
      Instr.wf (.c2hdataRx 0 65536 0 [] true true true) = false ∧ Instr.wf (.capsulerespRx 0 65536 (List.replicate 16 0)) = false ∧
      Instr.wf (.capsulerespRx 0 1 []) = false ∧ Instr.wf (.stoCmdTimeout 0 65536) = false ∧ Instr.wf (.pduR2tRx 0 65536 0 0) = false := by
  decide +kernel

theorem test_ill_formed_service :
    Instr.wf (.krdsInfo 1 65536) = false ∧ Instr.wf (.krdsImage 1 1 2 0 (List.replicate 1025 0) []) = false ∧
      Instr.wf (.krdsSaf 1 1 16 0 true [] [] 1) = false ∧ Instr.wf (.krdsSaf 1 1 3 0 true (List.replicate 1025 0) [] 1) = false ∧
      Instr.wf (.krdsSaf 1 1 3 0 true [] [] 4) = false ∧ Instr.wf (.krdsKeys 1 1 0 true (List.replicate 1021 0) true) = false ∧
      Instr.wf (.xmodemBlock 256 [] true false []) = false ∧ Instr.wf (.xmodemBlock 1 (List.replicate 1025 0) true false []) = false ∧
      Instr.wf (.safStart [([], 1), ([], 2), ([], 3)]) = false ∧ Instr.wf (.energyIntegrate 0 0 [1, 2] [1, 2, 3]) = false := by decide +kernel

/-! ## Examples of the manual -/

/-- Does a command go on to a state of which `f` holds? -/
def gives (o : Host.Outcome State Fault Refusal) (f : State → Bool) : Bool := match o with | .next t => f t | _ => false

/-- Chapter 2, "A lost write on WTG-B07". -/
theorem test_lost_write :
    gives (exec (.registerWrite (.port 2) ⟨[wr .pf0 0xA0 5, wr .krds 0xB4 0], []⟩) (put P [(.port 2, 0x2C, 0x1F40)]))
      (fun t => t.view (.port 2) 0x2C = 0x1F41 && t.view (.port 2) 0x28 = 0x10280001 && t.view .prec 0x60 = 1) = true := by decide +kernel

/-- Chapter 2, "A lock contest on the HAM page of OSS-1", cycle 0. -/
theorem test_lock_contest :
    gives (exec (.lockRead .ham .mgt [{ master := .pf0, off := 0x24, width := 4, kind := .lockRead }]) P)
      (fun t => t.out.contains (.data .mgt 0) && t.view .ham 0x28 = 0x10090001 && t.view .ham 0x2C = 1 && t.lockOf .ham = some .mgt) = true := by
  decide +kernel

/-- The same, cycle 40: Yemor's refused write. -/
theorem test_lock_refusal :
    gives (exec (.registerWrite .ham ⟨[wr .yemor 0x44 1], []⟩) (lk (put P [(.ham, 0x28, 0x10090001)]) .ham .mgt))
      (fun t => t.view .ham 0x28 = 0x78110002 && t.view .prec 0x6C = 0x70110005) = true := by decide +kernel

/-- Chapter 23, "Safety telegrams": before commissioning SAF_STATE reads 0x0003_0000. -/
theorem test_saf_state_uncommissioned :
    gives (exec (.safStart []) (withSaf P (fun x => { x with started := false })))
      (fun t => t.saf.shown.contains (0x40, 0x00030000)) = true := by decide +kernel

/-- Chapter 23, "Safety telegrams": the first signature makes SAF_COMM read 0x1001_0001. -/
theorem test_saf_comm_proposed (b : List Byte) (h : blockFault b = 0) :
    ∃ t, exec (.propose b 1 true 1) SF = .next t ∧ t.saf.commWord = 0x10010001 := by
  refine ⟨SF.setSaf { SF.saf with prop := b, propBy := 1, auth1 := true, auth2 := false, comm := 1, reason := 0, doneSeq := 1 }, ?_, ?_⟩
  case refine_2 => simp only [State.setSaf, SafSt.commWord]; decide
  show execPropose b 1 true 1 SF = _
  unfold execPropose
  have a : SF.asked 1#16 = true := by decide +kernel
  have k : (SF.saf.key 1).isEmpty = false := by decide +kernel
  simp [a, k, h]

/-- Chapter 23, "The first signed record": MET_CMD_DONE reads 0x0102_0003, and 400 ms are slewed back. -/
theorem test_met_time_proposal :
    gives (exec (.timeProposal ((900000 * 97 + 5000 - 400 + 37000) * 1000000) 2)
        (ptpIs (put (metAsk 2 [(.mbxMet, 0x48, 37)]) [(.mbxMet, 0x4C, 0x01000003)]) ((900000 * 97 + 5000 - 400 + 37000) * 1000000) 2))
      (fun t => t.meter.done = 0x01020003 && t.meter.slew = -400 && t.view .met 0x58 = 0x01020003) = true := by decide +kernel

/-- R325: an addition that carries out of bit 17 and leaves 0 sets C and Z. -/
theorem test_add_wraps :
    gives (exec (.nAdd 2 18 4 5 6 0) (A 0x3FFFF 1 0))
      (fun t => (t.thread 2 18).r 4 = 0 && (t.thread 2 18).sw.getLsbD 0 && (t.thread 2 18).sw.getLsbD 2 && (t.thread 2 18).pc = 8) = true := by
  decide +kernel

/-- R342, R364: an island that is ready and holds no work shows IDLE; FAB never does; before it is ready it shows ACTIVE. -/
theorem test_island_without_work :
    (let s := State.reset.setIsland .tun { IslSt.reset with ready := true }
     decide (s.islandCode .tun = 1) && decide (s.islandCode .fab = 0) && decide (State.reset.islandCode .tun = 0)) = true := by decide +kernel

/-- R8, R232, R228: the reserved bits of a MAC entry and of its DEST read 0. -/
theorem test_reserved_bits :
    cleanEntry 0 ([2, 0, 0, 0, 0, 5, 0x07, 0xF1] ++ [0xFA, 0xFF, 0xFF, 0x3F] ++ [0x04, 0xFC, 0xF5, 9]) =
      [2, 0, 0, 0, 0, 5, 0x07, 0x01] ++ [0x02, 0, 0, 0x20] ++ [0x04, 0x80, 0x05, 9] := by decide +kernel

end Sys2Proof.Tests
end

section
/-!
PROOFS. Who may write a page (R21, R25, R28, R29, R38) and which request a page cycle applies (R32): the arbiter's checks as
equivalences, and `ArbiterAppliesHighestRankedRequest` from them.
-/
namespace Sys2Proof.Machine

open Sys2Proof

/-! ## The overseers (R25) -/

theorem Master.overseer_iff_num (m : Master) : m.overseer = true ↔ m.num = 6 ∨ m.num = 12 ∨ m.num = 1 := by
  cases m with
  | pf k => simp only [Master.overseer, Master.num, Bool.false_eq_true, false_iff]; omega
  | _ => simp [Master.overseer, Master.num]

/-- An overseer is neither of the two masters confined to a domain of their own (R21). -/
theorem Master.ne_saf_meter_of_overseer {m : Master} (h : m.overseer = true) : m ≠ .saf ∧ m ≠ .meter := by
  constructor <;> rintro rfl <;> cases h

theorem Master.num_eq_seven_iff (m : Master) : m.num = 7 ↔ m = .yemor := by
  cases m with
  | pf k => simp only [Master.num, reduceCtorEq, iff_false]; omega
  | _ => simp [Master.num]

theorem Master.num_saf : Master.num .saf = 9 := rfl

theorem Master.num_meter : Master.num .meter = 10 := rfl

/-! ## The master that PG_OWNER names (R28) -/

/-- Only master 5 (by its VF) and master 8 (by its cluster) are told apart by SUB. -/
theorem State.owns_iff (s : State) (p : Page) (m : Master) :
    s.owns p m = true ↔
      s.field p 0x20 3 0 = m.num ∧ (∀ n : Fin 1020, m = .vf n → s.field p 0x20 25 16 = n.val + 1) ∧
        (∀ c : Fin 8, m = .nyate c → s.field p 0x20 25 16 = c.val) := by
  simp only [State.owns, State.field, Bool.and_eq_true, Bool.or_eq_true, decide_eq_true_eq]
  refine and_congr_right fun _ => ?_
  cases m with
  | pf k =>
    have h : 2 + k.val ≠ 5 ∧ 2 + k.val ≠ 8 := by omega
    simp [Master.num, h]
  | _ => simp [Master.num, Master.sub]

/-! ## Who may write a page (R21, R28) -/

theorem State.mayWrite_safety {s : State} {p : Page} {m : Master} (h : p.safety = true) : s.mayWrite p m = true ↔ m = .saf := by
  simp [State.mayWrite, h]

theorem State.mayWrite_metering {s : State} {p : Page} {m : Master} (hs : p.safety = false) (h : p.metering = true) :
    s.mayWrite p m = true ↔ m = .meter ∧ s.hasMeter = true := by
  simp [State.mayWrite, hs, h]

theorem State.mayWrite_main {s : State} {p : Page} {m : Master} (hs : p.safety = false) (hm : p.metering = false) :
    s.mayWrite p m = true ↔
      m ≠ .saf ∧ m ≠ .meter ∧
        (m.overseer = true ∨ s.owns p m = true ∨ (m = .yemor ∧ bitOn (s.reg p 0x20) 29 = true)) := by
  by_cases h : m = .saf ∨ m = .meter
  · have barred : s.mayWrite p m = false := by simp [State.mayWrite, hs, hm, h]
    simp only [barred, Bool.false_eq_true, false_iff]
    rintro ⟨h9, h10, _⟩
    exact h.elim h9 h10
  · obtain ⟨h9, h10⟩ := not_or.mp h
    simp [State.mayWrite, hs, hm, h9, h10, or_assoc]

/-- An overseer writes every main-domain page (R25). -/
theorem State.mayWrite_of_overseer {s : State} {p : Page} {m : Master} (hs : p.safety = false) (hm : p.metering = false)
    (h : m.overseer = true) : s.mayWrite p m = true :=
  have ⟨h9, h10⟩ := Master.ne_saf_meter_of_overseer h
  (State.mayWrite_main hs hm).2 ⟨h9, h10, .inl h⟩

/-- On a main-domain page whose PG_OWNER names neither master 9 nor 10: an overseer, the owner, or master 7 in service (R28). -/
theorem State.mayWrite_main_iff {s : State} {p : Page} {m : Master} (hs : p.safety = false) (hm : p.metering = false)
    (h9 : s.field p 0x20 3 0 ≠ 9) (h10 : s.field p 0x20 3 0 ≠ 10) :
    s.mayWrite p m = true ↔
      m.overseer = true ∨ s.owns p m = true ∨ (m.num = 7 ∧ bitOn (s.reg p 0x20) 29 = true) := by
  rw [State.mayWrite_main hs hm, Master.num_eq_seven_iff]
  refine ⟨fun h => h.2.2, fun h => ⟨?_, ?_, h⟩⟩
  · rintro rfl
    simp [Master.overseer, State.owns_iff, Master.num_saf, h9] at h
  · rintro rfl
    simp [Master.overseer, State.owns_iff, Master.num_meter, h10] at h

/-! ## The values of PG_OWNER (R29) -/

/-- The pages of fixed owner are those of the two domains and the pages of the functions. -/
theorem Page.fixedOwner_eq_false_iff (p : Page) :
    p.fixedOwner = false ↔ p.safety = false ∧ p.metering = false ∧ ∀ f : Fin 1024, p ≠ .func f ∧ p ≠ .mbx f := by
  cases p <;> simp [Page.fixedOwner, Page.safety, Page.metering]

theorem ownerOk_iff (p : Page) (v : Word) :
    ownerOk p v = true ↔
      fld v 3 0 ∉ [0, 9, 10, 13, 14, 15] ∧
      (fld v 3 0 = 5 → 1 ≤ fld v 25 16 ∧ fld v 25 16 ≤ 1020) ∧ (fld v 3 0 = 8 → fld v 25 16 ≤ 7) ∧
      p.safety = false ∧ p.metering = false ∧ (∀ f : Fin 1024, p ≠ .func f ∧ p ≠ .mbx f) ∧
      (p = .cry → bitOn v 29 = false) := by
  have lt : fld v 3 0 < 16 := fld_lt v 3 0
  have named : fld v 3 0 ∉ [0, 9, 10, 13, 14, 15] ↔
      fld v 3 0 ≠ 0 ∧ fld v 3 0 ≠ 9 ∧ fld v 3 0 ≠ 10 ∧ fld v 3 0 < 13 := by
    simp only [List.mem_cons, List.not_mem_nil, or_false]; omega
  simp only [ownerOk, Bool.and_eq_true, Bool.or_eq_true, Bool.not_eq_true', decide_eq_true_eq, Bool.and_eq_false_iff,
    decide_eq_false_iff_not, Page.fixedOwner_eq_false_iff, named, ne_eq, ← Decidable.imp_iff_not_or]
  constructor
  · rintro ⟨⟨⟨⟨⟨⟨⟨⟨hs, hm, hf⟩, h0⟩, h9⟩, h10⟩, h13⟩, h5⟩, h8⟩, hc⟩
    exact ⟨⟨h0, h9, h10, h13⟩, h5, h8, hs, hm, hf, hc⟩
  · rintro ⟨⟨h0, h9, h10, h13⟩, h5, h8, hs, hm, hf, hc⟩
    exact ⟨⟨⟨⟨⟨⟨⟨⟨hs, hm, hf⟩, h0⟩, h9⟩, h10⟩, h13⟩, h5⟩, h8⟩, hc⟩

/-! ## Which writes are accepted (R7, R21, R28, R38) -/

/-- Is a master one of the page's domain (R21, R22)? The metering domain of a unit without a meter has none (R2). -/
def State.inDomain (s : State) (p : Page) (m : Master) : Bool :=
  if p.safety then decide (m = .saf) else if p.metering then decide (m = .meter) && s.hasMeter
  else decide (m ≠ .saf) && decide (m ≠ .meter)

/-- The master that may write a page stands in its domain. -/
theorem State.inDomain_of_mayWrite {s : State} {p : Page} {m : Master} (w : s.mayWrite p m = true) : s.inDomain p m = true := by
  cases hs : p.safety with
  | true => simpa [State.inDomain, hs] using (State.mayWrite_safety hs).1 w
  | false =>
    cases hm : p.metering with
    | true => simpa [State.inDomain, hs, hm] using (State.mayWrite_metering hs hm).1 w
    | false =>
      obtain ⟨h9, h10, _⟩ := (State.mayWrite_main hs hm).1 w
      simp [State.inDomain, hs, hm, h9, h10]

/-- A write is accepted only as an aligned word from a master of the page's domain (R7, R21). -/
theorem State.accepts_guard {s : State} {p : Page} {r : Req} (h : s.accepts p r = true) :
    r.width = 4 ∧ r.off.toNat % 4 = 0 ∧ s.inDomain p r.master = true := by
  cases guard : (decide (r.width ≠ 4) || decide (r.off.toNat % 4 ≠ 0) || !s.inDomain p r.master) with
  | true =>
    rw [State.inDomain] at guard
    simp only [State.accepts, guard, if_true, Bool.false_eq_true] at h
  | false =>
    simp only [Bool.or_eq_false_iff, decide_eq_false_iff_not, Decidable.not_not, ne_eq, Bool.not_eq_false'] at guard
    obtain ⟨⟨hw, ha⟩, domain⟩ := guard
    exact ⟨hw, ha, domain⟩

/-- A write outside PG_LOCK needs an aligned word, the right to write the page, no other master's lock and, to PG_OWNER, an
overseer and a value that R29 accepts. -/
theorem State.accepts_iff {s : State} {p : Page} {r : Req} (h : r.off.toNat ≠ 0x24) :
    s.accepts p r = true ↔
      r.width = 4 ∧ r.off.toNat % 4 = 0 ∧ s.mayWrite p r.master = true ∧
        (s.lockOf p = none ∨ s.lockOf p = some r.master) ∧
        (r.off.toNat = 0x20 → r.master.overseer = true ∧ ownerOk p r.val = true) := by
  cases w : s.mayWrite p r.master with
  | false => simp [State.accepts, h, w]
  | true =>
    have domain := State.inDomain_of_mayWrite w
    rw [State.inDomain] at domain
    simp only [State.accepts, domain, w]
    cases s.lockOf p <;> simp [h, and_assoc, ← Decidable.imp_iff_not_or]

/-! ## The request a page cycle applies (R32) -/

theorem State.winner_highest {s : State} {p : Page} {rs : List Req} {w : Req} (h : s.winner p rs = some w) :
    ∀ r ∈ rs, (if r.isRead then s.competes p r.master else s.accepts p r) = true → w.master.rank ≤ r.master.rank :=
  fun r hr c => topReq_rank h r (List.mem_filter.2 ⟨hr, c⟩)

theorem State.winner_eq_none_iff (s : State) (p : Page) (rs : List Req) :
    s.winner p rs = none ↔ ∀ r ∈ rs, (if r.isRead then s.competes p r.master else s.accepts p r) = false := by
  simp only [State.winner, topReq_none, State.candidates, List.filter_eq_nil_iff, Bool.not_eq_true]

/-! ## Writes to a main-domain page, to PG_OWNER and to a page of another domain -/

/-- An aligned word to an unlocked register other than PG_OWNER and PG_LOCK is accepted from the masters that may write the page. -/
theorem State.accepts_plain_iff {s : State} {p : Page} {r : Req} (hw : r.width = 4) (ha : r.off.toNat % 4 = 0)
    (ho : r.off.toNat ≠ 0x20) (hl : r.off.toNat ≠ 0x24) :
    s.accepts p r = true ↔ s.mayWrite p r.master = true ∧ (s.lockOf p = none ∨ s.lockOf p = some r.master) := by
  simp [State.accepts_iff hl, hw, ha, ho]

/-- PG_OWNER takes a value that R29 accepts, and only from an overseer (R29). -/
theorem State.accepts_owner_iff {s : State} {p : Page} {r : Req} (ho : r.off.toNat = 0x20) (hw : r.width = 4)
    (free : s.lockOf p = none ∨ s.lockOf p = some r.master) :
    s.accepts p r = true ↔ r.master.overseer = true ∧ ownerOk p r.val = true := by
  have hl : r.off.toNat ≠ 0x24 := by omega
  have ha : r.off.toNat % 4 = 0 := by omega
  rw [State.accepts_iff hl]
  constructor
  · rintro ⟨_, _, _, _, owner⟩
    exact owner ho
  · rintro ⟨ov, ok⟩
    obtain ⟨_, _, _, hs, hm, _⟩ := (ownerOk_iff p r.val).1 ok
    exact ⟨hw, ha, State.mayWrite_of_overseer hs hm ov, free, fun _ => ⟨ov, ok⟩⟩

/-- A safety page takes writes of the safety supervisor alone (R21). -/
theorem State.accepts_safety {s : State} {i : Fin 2} {r : Req} (h : s.accepts (.saf i) r = true) : r.master = .saf := by
  obtain ⟨_, _, domain⟩ := State.accepts_guard h
  simpa [State.inDomain, Page.safety] using domain

/-- MET takes writes of the meter core alone (R21). -/
theorem State.accepts_met {s : State} {r : Req} (h : s.accepts .met r = true) : r.master = .meter := by
  obtain ⟨_, _, domain⟩ := State.accepts_guard h
  have : r.master = .meter ∧ s.hasMeter = true := by simpa [State.inDomain, Page.safety, Page.metering] using domain
  exact this.1

/-- A held lock keeps every other master's write out, but for PG_LOCK (R38). -/
theorem State.holder_of_accepts {s : State} {p : Page} {r : Req} {h : Master} (held : s.lockOf p = some h)
    (acc : s.accepts p r = true) (hl : r.off.toNat ≠ 0x24) : r.master = h := by
  obtain ⟨_, _, _, own, _⟩ := (State.accepts_iff hl).1 acc
  simpa [held, eq_comm] using own

/-- Settles O5: each clause is one of the rules above. -/
theorem arbiterAppliesHighestRankedRequest : Obligations.ArbiterAppliesHighestRankedRequest := by
  unfold Obligations.ArbiterAppliesHighestRankedRequest
  refine ⟨Master.overseer_iff_num, ?overseer, ?main, ?owner,
    fun s p rs w h => ⟨(State.winner_spec h).1, (State.winner_spec h).2, State.winner_highest h⟩,
    State.winner_eq_none_iff,
    fun s p r h => ⟨(State.accepts_guard h).1, (State.accepts_guard h).2.1⟩,
    fun s i r h => State.accepts_safety h, fun s r h => State.accepts_met h,
    fun s p r h held acc hl => State.holder_of_accepts held acc hl⟩
  case overseer =>
    intro s p r hs hm hw ha ho hl ov
    rw [State.accepts_plain_iff hw ha ho hl, State.mayWrite_of_overseer hs hm ov]
    simp only [true_and]
  case main =>
    intro s p r hs hm hw ha ho hl free h9 h10
    rw [State.accepts_plain_iff hw ha ho hl, State.mayWrite_main_iff hs hm h9 h10, State.owns_iff]
    exact and_iff_left (.inl free)
  case owner =>
    intro s p r v hk ho hw free
    have hv : r.val = v := by simp only [Req.val, hk]
    rw [State.accepts_owner_iff ho hw free, hv, ownerOk_iff]

end Sys2Proof.Machine
end

section
/-!
PROOFS. What a fault of a thread does (R309, R315 to R317, R319): the frames that are dropped, the thread's state, the fault queue and
the order gates (R308), and `HoldLimitFaultsAndFreesTheFrame` from them.
-/
namespace Sys2Proof.Machine

open Sys2Proof

/-! ## Frames that only leave -/

/-- Every frame of `t` stood in `s`, with the same number and in the same order gate. -/
def State.shedsTo (s t : State) : Prop := ∀ z ∈ t.frames, ∃ w ∈ s.frames, w.id = z.id ∧ w.gate = z.gate

theorem State.shedsTo_of_frames_subset {s t : State} (h : ∀ z ∈ t.frames, z ∈ s.frames) : s.shedsTo t :=
  fun z hz => ⟨z, h z hz, rfl, rfl⟩

theorem State.shedsTo_of_frames_eq {s t : State} (h : t.frames = s.frames) : s.shedsTo t :=
  State.shedsTo_of_frames_subset (fun _ hz => h ▸ hz)

theorem State.shedsTo_trans {s t u : State} (h : s.shedsTo t) (k : t.shedsTo u) : s.shedsTo u := by
  intro z hz
  obtain ⟨y, hy, yid, ygate⟩ := k z hz
  obtain ⟨w, hw, wid, wgate⟩ := h y hy
  exact ⟨w, hw, wid.trans yid, wgate.trans ygate⟩

/-- A number that no frame has stays without a frame. -/
theorem State.shedsTo_id_ne {s t : State} (h : s.shedsTo t) {id : Nat} (absent : ∀ z ∈ s.frames, z.id ≠ id) :
    ∀ z ∈ t.frames, z.id ≠ id := by
  intro z hz
  obtain ⟨w, hw, wid, _⟩ := h z hz
  exact wid ▸ absent w hw

/-- A frame changed in neither number nor gate. -/
theorem State.shedsTo_setFrame {s : State} {x y : Frame} (hy : y ∈ s.frames) (hid : y.id = x.id) (hgate : y.gate = x.gate) :
    s.shedsTo (s.setFrame x) := by
  intro z hz
  obtain ⟨v, hv, rfl⟩ := List.mem_map.1 hz
  split
  · exact ⟨y, hy, hid, hgate⟩
  · exact ⟨v, hv, rfl, rfl⟩

/-- No frame has a number that the state finds no frame of. -/
theorem State.frame_eq_none_iff (s : State) (id : Nat) : s.frame id = none ↔ ∀ z ∈ s.frames, z.id ≠ id := by
  simp [State.frame]

/-! ## The end of a frame (R172, R231) -/

@[simp] theorem State.frames_giveBack (s : State) (p : Part) (n : Nat) : (s.giveBack p n).frames = s.frames := by
  cases p <;> rfl

@[simp] theorem State.nyate_giveBack (s : State) (p : Part) (n : Nat) : (s.giveBack p n).nyate = s.nyate := by
  cases p <;> rfl

@[simp] theorem State.frames_reportTx (s : State) (x : Frame) (e : FrameEnd) (b : Bool) : (s.reportTx x e b).frames = s.frames := by
  unfold State.reportTx
  split <;> simp

@[simp] theorem State.nyate_reportTx (s : State) (x : Frame) (e : FrameEnd) (b : Bool) : (s.reportTx x e b).nyate = s.nyate := by
  unfold State.reportTx
  split <;> simp

/-- The state without the frames of x's number. -/
def State.without (s : State) (x : Frame) : State := { s with frames := s.frames.filter (fun y => y.id ≠ x.id) }

/-- The cells of a frame pass to a copy that is left, or return to their part (R172). -/
def State.passCells (s : State) (x : Frame) : State :=
  if x.cells = 0 then s else
    match s.frames.find? (fun y => y.group = x.group) with
    | some y => s.setFrame { y with part := x.part, cells := x.cells }
    | none => s.giveBack x.part x.cells

/-- The end of a frame in its three steps: it goes, its cells pass on, a function's work queue is told. -/
theorem State.endFrame_eq (s : State) (x : Frame) (e : FrameEnd) :
    s.endFrame x e =
      if x.func then
        ((s.without x).passCells x).reportTx x e ((s.without x).frames.find? (fun y => y.group = x.group)).isNone
      else (s.without x).passCells x := rfl

theorem State.shedsTo_passCells (s : State) (x : Frame) : s.shedsTo (s.passCells x) := by
  unfold State.passCells
  split
  · exact State.shedsTo_of_frames_eq rfl
  · split
    next y hy => exact State.shedsTo_setFrame (List.mem_of_find?_eq_some hy) rfl rfl
    next => exact State.shedsTo_of_frames_eq (s.frames_giveBack ..)

@[simp] theorem State.nyate_passCells (s : State) (x : Frame) : (s.passCells x).nyate = s.nyate := by
  unfold State.passCells
  split
  · rfl
  · split <;> simp

theorem State.without_shedsTo_endFrame (s : State) (x : Frame) (e : FrameEnd) : (s.without x).shedsTo (s.endFrame x e) := by
  rw [State.endFrame_eq]
  split
  · exact State.shedsTo_trans (State.shedsTo_passCells _ x) (State.shedsTo_of_frames_eq (State.frames_reportTx ..))
  · exact State.shedsTo_passCells _ x

theorem State.shedsTo_endFrame (s : State) (x : Frame) (e : FrameEnd) : s.shedsTo (s.endFrame x e) :=
  State.shedsTo_trans (State.shedsTo_of_frames_subset fun _ hz => (List.mem_filter.1 hz).1) (s.without_shedsTo_endFrame x e)

/-- A frame that ended is gone. -/
theorem State.id_ne_of_mem_endFrame (s : State) (x : Frame) (e : FrameEnd) : ∀ z ∈ (s.endFrame x e).frames, z.id ≠ x.id :=
  State.shedsTo_id_ne (s.without_shedsTo_endFrame x e) (fun _ hz => of_decide_eq_true (List.mem_filter.1 hz).2)

@[simp] theorem State.nyate_endFrame (s : State) (x : Frame) (e : FrameEnd) : (s.endFrame x e).nyate = s.nyate := by
  have kept : (s.without x).nyate = s.nyate := rfl
  rw [State.endFrame_eq]
  split <;> simp [kept]

/-! ## Frames dropped one by one (R315) -/

/-- One step of `State.dropEach`: the frame of this number ends, counted, where it still stands. -/
def State.dropOne (s : State) (c off : Nat) (x : Frame) : State :=
  match s.frame x.id with | some y => (s.endFrame y (.drop 2)).count (nycPage c) off | none => s

theorem State.dropEach_cons (s : State) (c off : Nat) (x : Frame) (l : List Frame) :
    s.dropEach c off (x :: l) = (s.dropOne c off x).dropEach c off l := rfl

theorem State.shedsTo_dropOne (s : State) (c off : Nat) (x : Frame) : s.shedsTo (s.dropOne c off x) := by
  unfold State.dropOne
  split
  next y _ => exact State.shedsTo_trans (s.shedsTo_endFrame y (.drop 2)) (State.shedsTo_of_frames_eq (by simp))
  next => exact State.shedsTo_of_frames_eq rfl

theorem State.id_ne_of_mem_dropOne (s : State) (c off : Nat) (x : Frame) : ∀ z ∈ (s.dropOne c off x).frames, z.id ≠ x.id := by
  unfold State.dropOne
  split
  next y hy =>
    have yid : y.id = x.id := by simpa using List.find?_some hy
    simpa [yid] using s.id_ne_of_mem_endFrame y (.drop 2)
  next hn => exact (s.frame_eq_none_iff x.id).1 hn

@[simp] theorem State.nyate_dropOne (s : State) (c off : Nat) (x : Frame) : (s.dropOne c off x).nyate = s.nyate := by
  unfold State.dropOne
  split <;> simp

theorem State.shedsTo_dropEach (s : State) (c off : Nat) (l : List Frame) : s.shedsTo (s.dropEach c off l) := by
  induction l generalizing s with
  | nil => exact State.shedsTo_of_frames_eq rfl
  | cons x l ih => exact State.shedsTo_trans (s.shedsTo_dropOne c off x) (ih _)

/-- Each frame of the list is gone. -/
theorem State.id_ne_of_mem_dropEach (s : State) (c off : Nat) {l : List Frame} {x : Frame} (hx : x ∈ l) :
    ∀ z ∈ (s.dropEach c off l).frames, z.id ≠ x.id := by
  induction l generalizing s with
  | nil => cases hx
  | cons y l ih =>
    rw [State.dropEach_cons]
    rcases List.mem_cons.1 hx with rfl | hx
    · exact State.shedsTo_id_ne (State.shedsTo_dropEach _ c off l) (s.id_ne_of_mem_dropOne c off x)
    · exact ih _ hx

@[simp] theorem State.nyate_dropEach (s : State) (c off : Nat) (l : List Frame) : (s.dropEach c off l).nyate = s.nyate :=
  State.foldl_keep State.nyate (fun u x => u.dropOne c off x) l s (fun u x => u.nyate_dropOne c off x)

/-! ## Threads and clusters -/

/-- Threads and clusters do not depend on what else is in the state. -/
theorem State.thread_congr {s t : State} (h : t.nyate = s.nyate) (c k : Nat) : t.thread c k = s.thread c k := by
  simp [State.thread, h]

theorem State.cluster_congr {s t : State} (h : t.nyate = s.nyate) (c : Nat) : t.cluster c = s.cluster c := by
  simp [State.cluster, h]

@[simp] theorem State.cluster_setCluster_same (s : State) (c : Nat) (x : Cluster) : (s.setCluster c x).cluster c = x := by
  simp [State.cluster, State.setCluster]

@[simp] theorem State.cluster_setThread (s : State) (c t d : Nat) (x : Thread) : (s.setThread c t x).cluster d = s.cluster d := rfl

@[simp] theorem State.thread_setCluster (s : State) (c d u : Nat) (x : Cluster) : (s.setCluster c x).thread d u = s.thread d u := rfl

@[simp] theorem State.thread_raise (s : State) (p : Page) (b d u : Nat) : (s.raise p b).thread d u = s.thread d u :=
  State.thread_congr (by simp) d u

@[simp] theorem State.cluster_raise (s : State) (p : Page) (b d : Nat) : (s.raise p b).cluster d = s.cluster d :=
  State.cluster_congr (by simp) d

@[simp] theorem State.thread_count (s : State) (p : Page) (off d u : Nat) : (s.count p off).thread d u = s.thread d u := rfl

@[simp] theorem State.cluster_count (s : State) (p : Page) (off d : Nat) : (s.count p off).cluster d = s.cluster d := rfl

@[simp] theorem State.thread_dropEach (s : State) (c off : Nat) (l : List Frame) (d u : Nat) :
    (s.dropEach c off l).thread d u = s.thread d u := State.thread_congr (by simp) d u

@[simp] theorem State.cluster_dropEach (s : State) (c off : Nat) (l : List Frame) (d : Nat) :
    (s.dropEach c off l).cluster d = s.cluster d := State.cluster_congr (by simp) d

/-! ## A thread emptied and a cluster halted (R315, R319) -/

theorem State.shedsTo_strip (s : State) (c t : Nat) : s.shedsTo (s.strip c t) :=
  s.shedsTo_dropEach c 0xCC _

/-- A frame that the thread holds is gone. -/
theorem State.id_ne_of_mem_strip {s : State} {c t : Nat} {x : Frame} (hx : x ∈ s.frames) (held : x.loc.ofThread c t = true) :
    ∀ z ∈ (s.strip c t).frames, z.id ≠ x.id :=
  s.id_ne_of_mem_dropEach c 0xCC (List.mem_filter.2 ⟨hx, held⟩)

@[simp] theorem State.faults_strip (s : State) (c t : Nat) : ((s.strip c t).cluster c).faults = (s.cluster c).faults := by
  have before : ((s.dropHeld c t).deadTreq c t).cluster c = s.cluster c := s.cluster_dropEach c 0xCC _ c
  simp [State.strip, State.noTaker, before]

@[simp] theorem State.thread_haltCluster (s : State) (c cause d u : Nat) : (s.haltCluster c cause).thread d u = s.thread d u := by
  simp [State.haltCluster]

@[simp] theorem State.faults_haltCluster (s : State) (c cause : Nat) :
    ((s.haltCluster c cause).cluster c).faults = (s.cluster c).faults := by
  simp [State.haltCluster]

theorem State.shedsTo_haltCluster (s : State) (c cause : Nat) : s.shedsTo (s.haltCluster c cause) := by
  unfold State.haltCluster
  extract_lets cl s1 queued s2
  have dropped : s1.shedsTo s2 := s1.shedsTo_dropEach c 0xC8 queued
  have raised : s2.shedsTo (s2.raise (nycPage c) 1) := State.shedsTo_of_frames_eq (by simp)
  exact State.shedsTo_trans dropped raised

/-! ## A fault (R316, R317) -/

/-- The record of a fault of thread t with the sequence number `seq` (R317). -/
def Thread.faultRecord (th : Thread) (t cause detail : Nat) (seq : NWord) : FaultRec :=
  { w0 := BitVec.ofNat 18 (t / 16 * 2 ^ 15 + t % 16 * 2 ^ 11 + cause * 2 ^ 5),
    w1 := BitVec.ofNat 18 ((th.ibase + th.pc) % 2 ^ 15), w2 := BitVec.ofNat 18 detail, w3 := seq }

/-- A fault before the cluster is halted for it: the thread is emptied and HALTED, the record stands in the queue, FAULT is raised. -/
def State.recordFault (s : State) (c t cause detail : Nat) : State :=
  let s1 := (s.strip c t).setThread c t { s.thread c t with st := .halted, park := 0, slots := [none, none, none, none] }
  let cl := s1.cluster c
  let r := (s.thread c t).faultRecord t cause detail cl.seq
  ((s1.setCluster c { cl with faults := cl.faults ++ [r], seq := cl.seq + 1 }).count (nycPage c) 0xC0).raise (nycPage c) 0

/-- With room in its queue a fault is recorded, and at most halts the cluster after that (R319). -/
theorem State.nFault_cases {s : State} {c t : Nat} (cause detail : Nat) (room : (s.cluster c).faults.length < 64) :
    s.nFault c t cause detail = s.recordFault c t cause detail ∨
      ∃ why, s.nFault c t cause detail = (s.recordFault c t cause detail).haltCluster c why := by
  have short : ¬ 64 ≤ ((s.strip c t).cluster c).faults.length := by simpa using room
  have eq : s.nFault c t cause detail =
      let u := s.recordFault c t cause detail
      if (u.cluster c).halt ≠ 0 then u
      else if t = u.supervisor c then u.haltCluster c 2
      else if (u.cluster c).faults.length = 64 then u.haltCluster c 1 else u := if_neg short
  rw [eq]
  dsimp only
  split
  · exact .inl rfl
  · split
    · exact .inr ⟨2, rfl⟩
    · split
      · exact .inr ⟨1, rfl⟩
      · exact .inl rfl

theorem State.thread_recordFault (s : State) (c t cause detail : Nat) :
    (s.recordFault c t cause detail).thread c t =
      { s.thread c t with st := .halted, park := 0, slots := [none, none, none, none] } := by
  simp [State.recordFault]

theorem State.faults_recordFault (s : State) (c t cause detail : Nat) :
    ((s.recordFault c t cause detail).cluster c).faults =
      (s.cluster c).faults ++ [(s.thread c t).faultRecord t cause detail ((s.strip c t).cluster c).seq] := by
  simp [State.recordFault]

theorem State.strip_shedsTo_recordFault (s : State) (c t cause detail : Nat) :
    (s.strip c t).shedsTo (s.recordFault c t cause detail) :=
  State.shedsTo_of_frames_eq (by simp [State.recordFault])

section
variable {s : State} {c t : Nat} (cause detail : Nat) (room : (s.cluster c).faults.length < 64)
include room

theorem State.st_nFault : ((s.nFault c t cause detail).thread c t).st = .halted := by
  rcases s.nFault_cases (t := t) cause detail room with e | ⟨why, e⟩ <;> simp [e, State.thread_recordFault]

theorem State.faults_nFault : ((s.nFault c t cause detail).cluster c).faults =
    (s.cluster c).faults ++ [(s.thread c t).faultRecord t cause detail ((s.strip c t).cluster c).seq] := by
  rcases s.nFault_cases (t := t) cause detail room with e | ⟨why, e⟩ <;> simp [e, State.faults_recordFault]

/-- A fault drops frames, first those that the thread holds, and changes no other frame's number or gate. -/
theorem State.strip_shedsTo_nFault : (s.strip c t).shedsTo (s.nFault c t cause detail) := by
  have recorded := s.strip_shedsTo_recordFault c t cause detail
  rcases s.nFault_cases (t := t) cause detail room with e | ⟨why, e⟩
  · exact e ▸ recorded
  · exact e ▸ State.shedsTo_trans recorded (State.shedsTo_haltCluster _ c why)

end

/-! ## The words of a record (R317) -/

/-- The first word names core, thread and cause. -/
theorem Thread.toNat_w0_faultRecord (th : Thread) {t cause : Nat} (detail : Nat) (seq : NWord) (ht : t < 128) (hc : cause < 64) :
    (th.faultRecord t cause detail seq).w0.toNat = t / 16 * 2 ^ 15 + t % 16 * 2 ^ 11 + cause * 2 ^ 5 := by
  simp only [Thread.faultRecord, BitVec.toNat_ofNat]
  omega

/-- The third word holds the detail. -/
theorem Thread.toNat_w2_faultRecord (th : Thread) (t cause : Nat) {detail : Nat} (seq : NWord) (hd : detail < 2 ^ 18) :
    (th.faultRecord t cause detail seq).w2.toNat = detail := by
  simp only [Thread.faultRecord, BitVec.toNat_ofNat, Nat.mod_eq_of_lt hd]

/-! ## The order gate (R308) -/

/-- A gate is clear for a frame when no other frame stands in it. -/
theorem gateClear_of_forall_ne {id : Nat} {key : Option Nat} {l : List Frame} (h : ∀ z ∈ l, z.id ≠ id → z.gate ≠ key) :
    gateClear id key l = true := by
  induction l with
  | nil => rfl
  | cons x l ih =>
    rw [gateClear]
    split
    · rfl
    next ne =>
      rw [ih fun z hz => h z (List.mem_cons_of_mem _ hz)]
      simp [h x List.mem_cons_self ne]

/-- A frame that waited for the frames of one number alone may leave once these are gone. -/
theorem State.gateClear_of_shedsTo {s t : State} {id j : Nat} {key : Option Nat} (h : s.shedsTo t) (gone : ∀ z ∈ t.frames, z.id ≠ id)
    (alone : ∀ z ∈ s.frames, z.id ≠ id → z.id ≠ j → z.gate ≠ key) : gateClear j key t.frames = true := by
  refine gateClear_of_forall_ne fun z hz zj => ?_
  obtain ⟨w, hw, wid, wgate⟩ := h z hz
  exact wgate ▸ alone w hw (wid ▸ gone z hz) (wid ▸ zj)

/-! ## HOLD_LIMIT (R309) -/

theorem exec_holdLimit_exceeded {s : State} {c : Fin 8} {k : Fin 128} {us : Nat} (long : s.field (.nyc c) 0x4C 15 0 < us)
    (holds : (s.thread c.val k.val).slots.any (·.isSome) = true) (nh : (s.thread c.val k.val).st ≠ .halted)
    (ni : (s.thread c.val k.val).st ≠ .idle) (hr : s.runs (.nyc c) = true) (hh : (s.cluster c.val).halt = 0) :
    exec (.holdLimit c k us) s = .next (s.nFault c.val k.val 8 (min us 262143)) := by
  have page : nycPage c.val = .nyc c := by simp [nycPage]
  have island : nycIsland c.val = .nyc c := by simp [nycIsland]
  exact if_pos ⟨by rwa [page], holds, nh, ni, hh, by rwa [island]⟩

theorem exec_holdLimit_within {s : State} {c : Fin 8} {us : Nat} (k : Fin 128) (within : us ≤ s.field (.nyc c) 0x4C 15 0) :
    exec (.holdLimit c k us) s = .next s := by
  have page : nycPage c.val = .nyc c := by simp [nycPage]
  refine if_neg fun h => ?_
  rw [page] at h
  exact Nat.not_lt.2 within h.1

/-- A slot that names a frame is a slot in use. -/
theorem any_isSome_of_getD {l : List (Option Nat)} {i id : Nat} (h : l.getD i none = some id) : l.any (·.isSome) = true := by
  rw [List.getD_eq_getElem?_getD] at h
  cases e : l[i]? with
  | none => simp [e] at h
  | some a =>
    have ha : a = some id := by simpa [e] using h
    exact List.any_eq_true.2 ⟨a, List.mem_of_getElem? e, by simp [ha]⟩

/-- Settles O60: the fault drops the frame that the thread holds, records its cause, and changes no other frame's gate. -/
theorem holdLimitFaultsAndFreesTheFrame : Obligations.HoldLimitFaultsAndFreesTheFrame := by
  unfold Obligations.HoldLimitFaultsAndFreesTheFrame
  refine ⟨?exceeded, fun s c k us within => exec_holdLimit_within k within⟩
  case exceeded =>
    intro s c k id slot us x hslot hframe hloc long nh ni hr hh room
    have hx : x ∈ s.frames := List.mem_of_find?_eq_some hframe
    have xid : x.id = id := by simpa using List.find?_some hframe
    have sheds := State.strip_shedsTo_nFault (t := k.val) 8 (min us 262143) room
    have held : x.loc.ofThread c.val k.val = true := by simp [hloc, Loc.ofThread]
    have gone := State.shedsTo_id_ne sheds (State.id_ne_of_mem_strip hx held)
    rw [xid] at gone
    exact ⟨_, _, exec_holdLimit_exceeded long (any_isSome_of_getD hslot) nh ni hr hh, State.st_nFault _ _ room,
      State.faults_nFault _ _ room, Thread.toNat_w0_faultRecord _ _ _ k.isLt (by decide),
      Thread.toNat_w2_faultRecord _ _ _ _ (by omega), (State.frame_eq_none_iff _ id).2 gone, gone,
      fun j => State.gateClear_of_shedsTo (State.shedsTo_trans (s.shedsTo_strip c.val k.val) sheds) gone⟩

end Sys2Proof.Machine
end

section
/-!
PROOFS. Which registers a unit reset can still change once UNIT_RESET_STAT reads IN_PROGRESS (R73, R314, R351): the drop counters of the
clusters whose programs are loaded, and the registers of a level change.
-/
namespace Sys2Proof.Machine

open Sys2Proof

/-! ## Frames of registers -/

/-- Registers that no step of a fold changes, the fold does not change. -/
theorem State.keepsRegs_foldl {α : Type} {f : State → α → State} {l : List (Page × Nat)} (h : ∀ (t : State) (x : α), t.keepsRegs (f t x) l)
    (xs : List α) (s : State) : s.keepsRegs (xs.foldl f s) l := by
  induction xs generalizing s with
  | nil => exact s.keepsRegs_refl l
  | cons x xs ih => exact State.keepsRegs_trans (h s x) (ih (f s x))

/-! ## Threads emptied and programs loaded (R314, R315) -/

@[simp] theorem State.regs_giveBack (s : State) (p : Part) (n : Nat) : (s.giveBack p n).regs = s.regs := by
  cases p <;> rfl

@[simp] theorem State.regs_passCells (s : State) (x : Frame) : (s.passCells x).regs = s.regs := by
  unfold State.passCells
  split
  · rfl
  · split <;> simp

@[simp] theorem State.regs_reportTx (s : State) (x : Frame) (e : FrameEnd) (b : Bool) : (s.reportTx x e b).regs = s.regs := by
  unfold State.reportTx
  split <;> simp

@[simp] theorem State.regs_endFrame (s : State) (x : Frame) (e : FrameEnd) : (s.endFrame x e).regs = s.regs := by
  have kept : (s.without x).regs = s.regs := rfl
  rw [State.endFrame_eq]
  split <;> simp [kept]

theorem State.keepsRegs_dropOne (s : State) (c off : Nat) (x : Frame) : s.keepsRegs (s.dropOne c off x) [(nycPage c, off)] := by
  unfold State.dropOne
  split
  next y _ =>
    have ended : s.keepsRegs (s.endFrame y (.drop 2)) [(nycPage c, off)] := State.keepsRegs_of_eq (s.regs_endFrame y _) _
    exact State.keepsRegs_trans ended (State.keepsRegs_setReg (s.endFrame y (.drop 2)) (nycPage c) off _)
  next => exact s.keepsRegs_refl _

theorem State.keepsRegs_strip (s : State) (c t : Nat) : s.keepsRegs (s.strip c t) [(nycPage c, 0xCC)] :=
  State.keepsRegs_foldl (fun u x => u.keepsRegs_dropOne c 0xCC x) (s.frames.filter (fun x => x.loc.ofThread c t)) s

/-- The counters of frames that stopped threads held (R315), one in each cluster. -/
def dropCounters : List (Page × Nat) := (List.finRange 8).map (fun c => (Page.nyc c, 0xCC))

theorem nycPage_mem_dropCounters (c : Nat) : (nycPage c, 0xCC) ∈ dropCounters :=
  List.mem_map.2 ⟨Fin.ofNat 8 c, List.mem_finRange _, rfl⟩

theorem State.keepsRegs_restoreThread (s : State) (c core : Nat) (x : ThreadSetting) :
    s.keepsRegs (s.restoreThread c core x) dropCounters := by
  have emptied : s.keepsRegs (s.strip c (16 * core + x.t.val)) dropCounters :=
    State.keepsRegs_mono (s.keepsRegs_strip c _) (List.forall_mem_singleton.2 (nycPage_mem_dropCounters c))
  exact State.keepsRegs_trans emptied (State.keepsRegs_of_eq rfl _)

theorem State.keepsRegs_loadProgram (s : State) (x : Program) : s.keepsRegs (s.loadProgram x) dropCounters :=
  State.keepsRegs_foldl (fun t y => t.keepsRegs_restoreThread x.cluster.val x.core.val y) x.threads _

theorem State.keepsRegs_loadPrograms (s : State) (p : Nat → Bool) : s.keepsRegs (s.loadPrograms p) dropCounters := by
  unfold State.loadPrograms
  dsimp only
  split
  · exact s.keepsRegs_refl _
  · exact State.keepsRegs_foldl State.keepsRegs_loadProgram _ s

@[simp] theorem State.regs_releaseReady (s : State) : s.releaseReady.regs = s.regs := rfl

@[simp] theorem State.regs_holdRecovery (s : State) : s.holdRecovery.regs = s.regs := by
  unfold State.holdRecovery
  split
  · rw [State.regs_releaseReady]
    exact State.foldl_keep State.regs _ Island.shedFirst s (fun _ _ => rfl)
  · rfl

/-! ## Level changes (R345, R349, R351) -/

theorem State.keepsRegs_muxTo (s : State) (i : Nat) (pll : Bool) : s.keepsRegs (s.muxTo i pll) levelRegs := by
  have switched (off j : Nat) (b : Bool) (named : (Page.clk, off) ∈ levelRegs) :
      s.keepsRegs ((s.setBit .clk off j b).followClock j) levelRegs :=
    State.keepsRegs_mono (s.keepsRegs_setReg .clk off _) (List.forall_mem_singleton.2 named)
  unfold State.muxTo
  extract_lets now running
  split
  · exact s.keepsRegs_refl _
  · split
    · exact switched 0x48 i true (by decide)
    · exact switched 0x44 i pll (by decide)

theorem State.keepsRegs_beginStep (s : State) (l : List LvlStep) : s.keepsRegs (s.beginStep l) levelRegs := by
  have written (t : State) (off : Nat) (v : Word) (named : (Page.pwr, off) ∈ levelRegs) : t.keepsRegs (t.setReg .pwr off v) levelRegs :=
    State.keepsRegs_mono (t.keepsRegs_setReg .pwr off v) (List.forall_mem_singleton.2 named)
  unfold State.beginStep
  split
  · exact State.keepsRegs_trans (written s 0x84 _ (by decide)) (written _ 0x88 _ (by decide))
  · exact State.keepsRegs_trans (written s 0x80 _ (by decide)) (written _ 0x88 _ (by decide))
  · exact s.keepsRegs_muxTo _ false
  · exact s.keepsRegs_refl _

@[simp] theorem State.regs_doAssist (s : State) (l : List LvlStep) : (s.doAssist l).1.regs = s.regs := by
  unfold State.doAssist
  split <;> rfl

theorem State.keepsRegs_kickLevels (s : State) (w0 w1 : Word) : s.keepsRegs (s.kickLevels w0 w1) levelRegs := by
  unfold State.kickLevels
  split
  · exact s.keepsRegs_refl _
  · dsimp only
    split
    · exact s.keepsRegs_refl _
    · exact State.keepsRegs_trans (State.keepsRegs_of_eq (s.regs_doAssist _) _) (State.keepsRegs_beginStep _ _)

/-- A unit reset that takes MGT leaves IN_PROGRESS standing (R81, R86): what follows its setting writes other registers. -/
theorem State.inProgress_unitReset (s : State) (m : Master) (keepRing : Bool) (cause : Nat) :
    bitOn ((s.unitReset m true keepRing cause).reg .unit 0x50) 0 = true := by
  obtain ⟨a, b, e⟩ : ∃ (a : State) (b : BootSt), s.unitReset m true keepRing cause =
      (State.loadPrograms (State.holdRecovery { a.setBit .unit 0x50 0 true with boot := b }) (fun _ => true)).followLevels :=
    ⟨_, _, rfl⟩
  have levels (t : State) : t.followLevels.reg .unit 0x50 = t.reg .unit 0x50 :=
    t.keepsRegs_kickLevels _ _ .unit 0x50 (by decide)
  have programs (t : State) : (t.loadPrograms (fun _ => true)).reg .unit 0x50 = t.reg .unit 0x50 :=
    t.keepsRegs_loadPrograms _ .unit 0x50 (by decide)
  have standing : State.reg { a.setBit .unit 0x50 0 true with boot := b } .unit 0x50 = putBit (a.reg .unit 0x50) 0 true :=
    a.reg_setReg_same .unit 0x50 _
  rw [e, levels, programs, State.reg_congr (State.regs_holdRecovery _), standing, bitOn_putBit_same _ _ (by decide)]

end Sys2Proof.Machine
end

section
/-!
PROOFS. What the recovery commands do does not depend on YEM_CFG (R400): states that differ in this one register differ in nothing else
after a line of the log, an event of PWR or LOG, a short record (R62), or a block of an image transfer (R403).
-/
namespace Sys2Proof.Machine

open Sys2Proof

/-! ## States alike but for YEM_CFG -/

/-- u is s but for its registers, and no register but YEM_CFG reads differently. -/
def State.alikeButCfg (s u : State) : Prop :=
  (∃ m, u = { s with regs := m }) ∧ ∀ q o, regKey q o ≠ regKey .yem 0x40 → u.reg q o = s.reg q o

/-- An update that neither reads nor writes registers. -/
def regBlind (f : State → State) : Prop := ∀ (t : State) (m : Sparse Word), f { t with regs := m } = { f t with regs := m }

theorem State.alikeButCfg_setCfg (s : State) (w : Word) : s.alikeButCfg (s.setReg .yem 0x40 w) :=
  ⟨⟨_, rfl⟩, fun q o ne => s.reg_setReg_ne .yem q 0x40 o w ne⟩

/-- YEM_CFG is word 16 of its page. -/
theorem regKey_ne_cfg (p : Page) {off : Nat} (ne : off / 4 % 1024 ≠ 16) : regKey p off ≠ regKey .yem 0x40 := by
  simp only [regKey, Page.code]
  omega

/-- What a register reads as after a write depends, of all that was stored before, on that register alone. -/
theorem Sparse.get_set_congr {α : Type} [DecidableEq α] {d d' : α} {m n : Sparse α} {k j : Nat} (v : α)
    (same : j ≠ k → Sparse.get d' n j = Sparse.get d' m j) :
    Sparse.get d' (Sparse.set d n k v) j = Sparse.get d' (Sparse.set d m k v) j := by
  by_cases e : j = k
  · subst e
    unfold Sparse.set Sparse.get
    split <;> simp
  · rw [Sparse.get_set_ne d d' n e v, Sparse.get_set_ne d d' m e v, same e]

theorem eventKey_pwr {b k : Nat} (e : eventKey .pwr b = some k) : (b = 10 ∨ b = 11) ∧ 0x88 = k := by
  have e : (if b = 10 ∨ b = 11 then some 0x88 else none) = some k := e
  simpa using e

theorem eventKey_log {b k : Nat} (e : eventKey .log b = some k) : 0x4C = k ∨ 0x80 = k := by
  have e : (if b = 0 then some 0x4C else some 0x80) = some k := e
  split at e
  · exact .inl (Option.some.inj e)
  · exact .inr (Option.some.inj e)

theorem eventType_pwr_log {p : Page} (hp : p = .pwr ∨ p = .log) (b : Nat) : eventType p b = 2 ∨ eventType p b = 1 := by
  rcases hp with rfl | rfl
  · rw [eventType]
    split <;> simp
  · exact .inr rfl

theorem State.shown_pwr_fault (s : State) : s.shown .pwr 0x88 = none := rfl

theorem State.shown_log_lost (s : State) : s.shown .log 0x4C = none := rfl

/-- What LOG_DEV shows of the flash devices stands in no register. -/
theorem State.shown_log_devices (s : State) (m : Sparse Word) : State.shown { s with regs := m } .log 0x80 = s.shown .log 0x80 := rfl

/-- The short record that a refused burst leaves (R62). -/
def State.shortRec (s : State) (reason pages : Nat) : ShortRec :=
  let w := s.log.waiting
  { reason := reason, first := (match w.head? with | some x => x.seq | none => s.log.next),
    last := (match w.getLast? with | some x => x.seq | none => s.log.next), time := s.ptp.time, gauge := s.energy,
    need := (s.burstNeed pages + 999) / 1000, pages := pages, mains := s.mainsStat.toNat % 65536 }

theorem State.shortRecord_eq (s : State) (reason pages : Nat) :
    s.shortRecord reason pages =
      (State.count { s with log := { s.log with shorts := (s.shortRec reason pages :: s.log.shorts).take 64 } } .pwr 0x68).raise .pwr 5 :=
  rfl

/-- The end of a transfer (R403) asks no register. -/
theorem regBlind_rloadEnd (sigs : List Bool) : regBlind (fun t => t.rloadEnd sigs) := by
  intro t m
  simp only [State.rloadEnd]
  generalize (t.boot.named t.console.rloadB).verdict sigs t.boot.rollback = verdict
  cases verdict <;> rfl

theorem State.alikeButCfg_ite {c : Prop} [Decidable c] {s s' u u' : State} (pos : s.alikeButCfg u) (neg : s'.alikeButCfg u') :
    (if c then s else s').alikeButCfg (if c then u else u') := by
  split
  · exact pos
  · exact neg

theorem State.alikeButCfg_foldl {α : Type} {f : State → α → State}
    (step : ∀ (s u : State) (x : α), s.alikeButCfg u → (f s x).alikeButCfg (f u x)) (l : List α) {s u : State} (h : s.alikeButCfg u) :
    (l.foldl f s).alikeButCfg (l.foldl f u) := by
  induction l generalizing s u with
  | nil => exact h
  | cons x l ih => exact ih (step s u x h)

/-- Both outcomes go on, to states alike but for YEM_CFG. -/
def goOnAlike (o p : Host.Outcome State Fault Refusal) : Prop := ∃ t v, o = .next t ∧ p = .next v ∧ t.alikeButCfg v

theorem goOnAlike_next {t v : State} (h : t.alikeButCfg v) : goOnAlike (.next t) (.next v) := ⟨t, v, rfl, rfl, h⟩

theorem goOnAlike_ite {c : Prop} [Decidable c] {o o' p p' : Host.Outcome State Fault Refusal} (pos : goOnAlike o p)
    (neg : goOnAlike o' p') : goOnAlike (if c then o else o') (if c then p else p') := by
  split
  · exact pos
  · exact neg

section
variable {s u : State} (h : s.alikeButCfg u)
include h

theorem State.reg_of_alike {p : Page} {off : Nat} (ne : regKey p off ≠ regKey .yem 0x40) : u.reg p off = s.reg p off := h.2 p off ne

theorem State.field_of_alike {p : Page} {off : Nat} (hi lo : Nat) (ne : regKey p off ≠ regKey .yem 0x40) :
    u.field p off hi lo = s.field p off hi lo := by
  rw [State.field, State.field, State.reg_of_alike h ne]

theorem State.alikeButCfg_map {f : State → State} (blind : regBlind f) : (f s).alikeButCfg (f u) := by
  obtain ⟨⟨m, rfl⟩, same⟩ := h
  have kept := congrArg State.regs (blind s s.regs)
  refine ⟨⟨m, blind s m⟩, fun q o ne => ?_⟩
  calc (f { s with regs := m }).reg q o = State.reg { s with regs := m } q o := State.reg_congr (congrArg State.regs (blind s m)) q o
    _ = s.reg q o := same q o ne
    _ = (f s).reg q o := (State.reg_congr kept q o).symm

theorem State.alikeButCfg_setReg (p : Page) (off : Nat) (v : Word) : (s.setReg p off v).alikeButCfg (u.setReg p off v) := by
  obtain ⟨⟨m, rfl⟩, same⟩ := h
  exact ⟨⟨_, rfl⟩, fun q o ne => Sparse.get_set_congr v (fun _ => same q o ne)⟩

theorem State.alikeButCfg_count {p : Page} {off : Nat} (ne : regKey p off ≠ regKey .yem 0x40) :
    (s.count p off).alikeButCfg (u.count p off) := by
  simp only [State.count, State.add, State.setField, State.field, State.reg_of_alike h ne]
  exact State.alikeButCfg_setReg h p off _

theorem State.alikeButCfg_emit (o : Out) : (s.emit o).alikeButCfg (u.emit o) :=
  State.alikeButCfg_map h (f := fun t => t.emit o) (fun _ _ => rfl)

/-! ## Recording (R377, R378) -/

theorem State.log_of_alike : u.log = s.log := by
  obtain ⟨⟨m, rfl⟩, _⟩ := h
  rfl

theorem State.ptp_of_alike : u.ptp = s.ptp := by
  obtain ⟨⟨m, rfl⟩, _⟩ := h
  rfl

theorem State.alikeButCfg_withLog (l : LogSt) : State.alikeButCfg { s with log := l } { u with log := l } :=
  State.alikeButCfg_map h (f := fun t => { t with log := l }) (fun _ _ => rfl)

theorem State.alikeButCfg_logOne (ty code page : Nat) (d0 d1 d2 : Word) :
    (s.logOne ty code page d0 d1 d2).alikeButCfg (u.logOne ty code page d0 d1 d2) := by
  have counted := regKey_ne_cfg .log (off := 0x4C) (by decide)
  obtain ⟨m, rfl⟩ := h.1
  unfold State.logOne
  dsimp only
  generalize (if decide (512 ≤ s.log.tail.length) = true then s.log.tail.head? else none) = gone
  cases gone with
  | none => exact State.alikeButCfg_withLog h _
  | some t =>
    exact State.alikeButCfg_ite (State.alikeButCfg_withLog h _) (State.alikeButCfg_count (State.alikeButCfg_withLog h _) counted)

theorem State.alikeButCfg_logRaw (ty code page : Nat) (d0 d1 d2 : Word) :
    (s.logRaw ty code page d0 d1 d2).alikeButCfg (u.logRaw ty code page d0 d1 d2) := by
  unfold State.logRaw
  rw [State.log_of_alike h]
  exact State.alikeButCfg_logOne
    (State.alikeButCfg_ite h (State.alikeButCfg_logOne (State.alikeButCfg_withLog h _) _ _ _ _ _ _)) _ _ _ _ _ _

theorem State.mainsStat_of_alike : u.mainsStat = s.mainsStat := by
  obtain ⟨⟨m, rfl⟩, _⟩ := h
  rfl

/-- A register other than YEM_CFG whose page shows no other state in it, or the same, is read the same (R7, R20). -/
theorem State.view_of_alike {p : Page} {off : Nat} (aligned : off / 4 * 4 = off) (main : 0x40 ≤ off) (nm : p ≠ .met)
    (ne : regKey p off ≠ regKey .yem 0x40) (shown : u.shown p off = s.shown p off) : u.view p off = s.view p off := by
  have snaps : u.snaps = s.snaps := by
    obtain ⟨⟨m, rfl⟩, _⟩ := h
    rfl
  have frozen := State.reg_of_alike h (regKey_ne_cfg p (off := 0x08) (by decide))
  have plain : off ≠ 0x0C ∧ off ≠ 0x18 ∧ off ≠ 0x24 ∧ ¬ off < 0x40 := by omega
  simp only [State.view, aligned, plain, nm, false_and, if_false, snaps, frozen, shown, State.reg_of_alike h ne]

/-- The key registers of the events of PWR and LOG (R461) show registers and the log. -/
theorem State.viewKey_of_alike {p : Page} (hp : p = .pwr ∨ p = .log) {b k : Nat} (e : eventKey p b = some k) :
    u.view p k = s.view p k := by
  have stored (off : Nat) (ne : off / 4 % 1024 ≠ 16) : regKey p off ≠ regKey .yem 0x40 := regKey_ne_cfg p ne
  rcases hp with rfl | rfl
  · obtain ⟨_, rfl⟩ := eventKey_pwr e
    exact State.view_of_alike h (by decide) (by decide) (by decide) (stored 0x88 (by decide))
      (u.shown_pwr_fault.trans s.shown_pwr_fault.symm)
  · obtain rfl | rfl := eventKey_log e
    · exact State.view_of_alike h (by decide) (by decide) (by decide) (stored 0x4C (by decide))
        (u.shown_log_lost.trans s.shown_log_lost.symm)
    · refine State.view_of_alike h (by decide) (by decide) (by decide) (stored 0x80 (by decide)) ?_
      obtain ⟨m, rfl⟩ := h.1
      exact s.shown_log_devices m

/-- The detail words of an event of PWR or LOG (R460) come from other registers. -/
theorem State.eventDetail_of_alike {p : Page} (hp : p = .pwr ∨ p = .log) (b rep : Nat) :
    u.eventDetail p b rep = s.eventDetail p b rep := by
  have pend := State.reg_of_alike h (regKey_ne_cfg p (off := 0x10) (by decide))
  have stored (off : Nat) (ne : off / 4 % 1024 ≠ 16) : u.reg .pwr off = s.reg .pwr off := State.reg_of_alike h (regKey_ne_cfg _ ne)
  unfold State.eventDetail
  obtain type | type := eventType_pwr_log hp b
  · simp only [type, State.mainsStat_of_alike h, stored 0x4C (by decide), stored 0x58 (by decide)]
  · simp only [type, pend]
    cases e : eventKey p b with
    | none => rfl
    | some k => simp only [State.viewKey_of_alike h hp e]

theorem State.alikeButCfg_logEvent {p : Page} (hp : p = .pwr ∨ p = .log) (b rep : Nat) :
    (s.logEvent p b rep).alikeButCfg (u.logEvent p b rep) := by
  unfold State.logEvent
  rw [State.eventDetail_of_alike h hp, State.log_of_alike h]
  exact State.alikeButCfg_logRaw h _ _ _ _ _ _

theorem State.alikeButCfg_logRoute {p : Page} (hp : p = .pwr ∨ p = .log) (b : Nat) :
    (s.logRoute p b).alikeButCfg (u.logRoute p b) := by
  have entered := State.alikeButCfg_logEvent h hp b 0
  unfold State.logRoute
  rw [State.log_of_alike h]
  split
  · exact State.alikeButCfg_withLog h _
  · dsimp only
    rw [State.log_of_alike entered]
    exact State.alikeButCfg_withLog entered _

/-! ## Raising an event (R46) -/

theorem State.alikeButCfg_sendMsix (f v : Nat) : (s.sendMsix f v).alikeButCfg (u.sendMsix f v) := by
  have same : u.func f = s.func f ∧ u.canSend f = s.canSend f ∧ u.msix f v = s.msix f v ∧ u.host = s.host := by
    obtain ⟨⟨m, rfl⟩, _⟩ := h
    exact ⟨rfl, rfl, rfl, rfl⟩
  obtain ⟨func, able, vector, host⟩ := same
  have pended (w : HostSt) : State.alikeButCfg { s with host := w } { u with host := w } :=
    State.alikeButCfg_map h (f := fun t => { t with host := w }) (fun _ _ => rfl)
  unfold State.sendMsix
  rw [func, able, vector, host]
  exact State.alikeButCfg_ite h
    (State.alikeButCfg_ite (State.alikeButCfg_emit h _) (State.alikeButCfg_ite h (pended _)))

theorem State.alikeButCfg_route {p : Page} (hp : p = .pwr ∨ p = .log) (b : Nat) : (s.route p b).alikeButCfg (u.route p b) := by
  unfold State.route
  rw [State.reg_of_alike h (regKey_ne_cfg p (by decide))]
  extract_lets r s1 s2 u1 u2
  have recorded : s1.alikeButCfg u1 := State.alikeButCfg_ite (State.alikeButCfg_logRoute h hp b) h
  have noticed : s2.alikeButCfg u2 := State.alikeButCfg_ite (State.alikeButCfg_emit recorded _) recorded
  have target : u2.routeFunc p = s2.routeFunc p := by
    simp only [State.routeFunc, State.field_of_alike noticed _ _ (regKey_ne_cfg p (off := 0x20) (by decide))]
  rw [target]
  exact State.alikeButCfg_ite (State.alikeButCfg_sendMsix noticed _ _) noticed

theorem State.alikeButCfg_raiseBits {p : Page} (hp : p = .pwr ∨ p = .log) (m : Word) :
    (s.raiseBits p m).alikeButCfg (u.raiseBits p m) := by
  unfold State.raiseBits
  rw [State.reg_of_alike h (regKey_ne_cfg p (off := 0x10) (by decide)), State.reg_of_alike h (regKey_ne_cfg p (off := 0x14) (by decide))]
  refine State.alikeButCfg_foldl (fun t v b k => ?_) _ (State.alikeButCfg_setReg h p 0x10 _)
  exact State.alikeButCfg_ite (State.alikeButCfg_route k hp b) k

theorem State.alikeButCfg_raise {p : Page} (hp : p = .pwr ∨ p = .log) (b : Nat) : (s.raise p b).alikeButCfg (u.raise p b) := by
  have lost := regKey_ne_cfg .log (off := 0x4C) (by decide)
  have raised := State.alikeButCfg_raiseBits h hp (bit b)
  unfold State.raise State.noteLoss
  rw [State.reg_of_alike h lost, State.reg_of_alike raised lost]
  exact State.alikeButCfg_ite raised (State.alikeButCfg_raiseBits raised (.inr rfl) 1)

/-! ## Bursts and transfers (R60, R62, R403) -/

theorem State.energy_of_alike : u.energy = s.energy :=
  State.field_of_alike h _ _ (regKey_ne_cfg .pwr (off := 0x4C) (by decide))

theorem State.burstNeed_of_alike (pages : Nat) : u.burstNeed pages = s.burstNeed pages := by
  simp only [State.burstNeed, State.field_of_alike h _ _ (regKey_ne_cfg .pwr (off := 0x58) (by decide)),
    State.field_of_alike h _ _ (regKey_ne_cfg .pwr (off := 0x5C) (by decide))]

theorem State.admitsBurst_of_alike (pages : Nat) : u.admitsBurst pages = s.admitsBurst pages := by
  simp only [State.admitsBurst, State.burstNeed_of_alike h, State.energy_of_alike h]

theorem State.shortRec_of_alike (reason pages : Nat) : u.shortRec reason pages = s.shortRec reason pages := by
  simp only [State.shortRec, State.log_of_alike h, State.ptp_of_alike h, State.energy_of_alike h, State.burstNeed_of_alike h,
    State.mainsStat_of_alike h]

theorem State.alikeButCfg_shortRecord (reason pages : Nat) :
    (s.shortRecord reason pages).alikeButCfg (u.shortRecord reason pages) := by
  have counted := regKey_ne_cfg .pwr (off := 0x68) (by decide)
  rw [State.shortRecord_eq, State.shortRecord_eq, State.shortRec_of_alike h, State.log_of_alike h]
  exact State.alikeButCfg_raise (State.alikeButCfg_count (State.alikeButCfg_withLog h _) counted) (.inl rfl) 5

theorem State.alikeButCfg_withLoad (b : BootSt) (c : ConsoleSt) :
    State.alikeButCfg { s with boot := b, console := c } { u with boot := b, console := c } :=
  State.alikeButCfg_map h (f := fun t => { t with boot := b, console := c }) (fun _ _ => rfl)

theorem State.load_of_alike : u.boot = s.boot ∧ u.console = s.console ∧ u.pwr = s.pwr := by
  obtain ⟨⟨m, rfl⟩, _⟩ := h
  exact ⟨rfl, rfl, rfl⟩

/-- A block of a transfer is taken or refused alike (R403). -/
theorem State.xmodemBlock_of_alike (num : Nat) (data : List Byte) (crcOk final : Bool) (sigs : List Bool) :
    goOnAlike (exec (.xmodemBlock num data crcOk final sigs) s) (exec (.xmodemBlock num data crcOk final sigs) u) := by
  obtain ⟨boot, console, pwr⟩ := State.load_of_alike h
  have counted := regKey_ne_cfg .pwr (off := 0x64) (by decide)
  have inU2 : u.inU2 = s.inU2 := by rw [State.inU2, State.inU2, pwr]
  have idle := goOnAlike_next h
  have ended := goOnAlike_next (State.alikeButCfg_map h (regBlind_rloadEnd sigs))
  have answered (n : Nat) := goOnAlike_next (State.alikeButCfg_emit h (.console n []))
  have short (pages : Nat) := goOnAlike_next (State.alikeButCfg_emit (State.alikeButCfg_shortRecord h 4 pages) (.console 8 []))
  have written (b : BootSt) (c : ConsoleSt) :=
    goOnAlike_next (State.alikeButCfg_emit (State.alikeButCfg_count (State.alikeButCfg_withLoad h b c) counted) (.console 7 []))
  show goOnAlike (execXmodemBlock num data crcOk final sigs s) (execXmodemBlock num data crcOk final sigs u)
  unfold execXmodemBlock
  rw [boot, console, inU2, State.admitsBurst_of_alike h]
  exact goOnAlike_ite idle (goOnAlike_ite ended (goOnAlike_ite (answered 7) (goOnAlike_ite (answered 8)
    (goOnAlike_ite (short _) (written _ _)))))

end

end Sys2Proof.Machine
end

section
/-!
PROOFS. YEM_CFG.WRITE_EN (R400): what a denied console line does, that a line carried through KRDS is never denied for want of it (R402),
and `WriteEnableStopsConsoleWrites` from them.
-/
namespace Sys2Proof.Machine

open Sys2Proof

/-! ## Lines on the console (R397, R400) -/

/-- What leaves the unit by another way than the host link changes nothing but what has left. -/
theorem State.keeps_emit_of_not_toHost (s : State) {o : Out} (away : o.toHost = false) : s.keeps (s.emit o) [.out] := by
  have host : (s.emit o).host = s.host := by simp [State.host_emit, wakeLink, away]
  intro a ha
  by_cases e : a = .host
  · exact e ▸ host
  · exact s.keeps_emit o a (by simp_all)

/-- The state after a denied line: the line and the denial are counted, the status line is sent. -/
def State.denied (s : State) : State := (s.lineBegun.count .yem 0x4C).emit (.console 1 [])

/-- While WRITE_EN is 0 a writing command is denied, whatever it asks. -/
theorem State.consoleLine_of_writeDisabled {s : State} {l : YemLine} (rivals : List Req) (serves : s.serves) (writes : l.operate = true)
    (off : bitOn (s.reg .yem 0x40) 0 = false) : s.consoleLine l rivals = s.denied := by
  obtain ⟨isOpen, normal⟩ := serves
  have served : (!s.console.open_ || s.boot.recovery) = false := by simp [isOpen, normal]
  have denies : (l.operate && !bitOn (s.reg .yem 0x40) 0) = true := by simp [writes, off]
  have stays : l ≠ .bye := by
    rintro rfl
    cases writes
  simp only [State.consoleLine, served, denies, stays, if_false, Bool.false_eq_true]
  rfl

theorem State.reg_denied_line (s : State) : s.denied.reg .yem 0x48 = s.reg .yem 0x48 + 1 := by
  rw [State.denied, State.reg_emit, State.reg_count_ne _ _ _ _ _ (by decide), State.lineBegun, State.reg_count_same]
  rfl

theorem State.reg_denied_denial (s : State) : s.denied.reg .yem 0x4C = s.reg .yem 0x4C + 1 := by
  rw [State.denied, State.reg_emit, State.reg_count_same, State.lineBegun, State.reg_count_ne _ _ _ _ _ (by decide)]
  rfl

theorem State.keepsRegs_denied (s : State) : s.keepsRegs s.denied [(.yem, 0x48), (.yem, 0x4C)] := by
  intro q o other
  simp only [List.mem_cons, List.not_mem_nil, or_false, forall_eq_or_imp, forall_eq] at other
  obtain ⟨notLine, notDenial⟩ := other
  rw [State.denied, State.reg_emit, State.reg_count_ne _ _ _ _ _ notDenial, State.lineBegun, State.reg_count_ne _ _ _ _ _ notLine]
  rfl

theorem State.keeps_denied (s : State) : s.keeps s.denied [.regs, .console, .out] := by
  have begun : s.keeps s.lineBegun [.regs, .console, .out] := by
    intro a ha
    cases a <;> simp_all [Area.same, State.lineBegun]
  have counted : s.lineBegun.keeps (s.lineBegun.count .yem 0x4C) [.regs, .console, .out] :=
    State.keeps_mono (s.lineBegun.keeps_setReg .yem 0x4C _) (by simp)
  have sent := (s.lineBegun.count .yem 0x4C).keeps_emit_of_not_toHost (o := .console 1 []) rfl
  exact State.keeps_trans (State.keeps_trans begun counted) (State.keeps_mono sent (by simp))

/-! ## Lines carried through KRDS (R390, R402) -/

theorem judgeWrite_ne_denied (m : Master) (off : Nat) (before after : Word) : judgeWrite m off before after ≠ 1 := by
  unfold judgeWrite
  dsimp only
  split
  · decide
  · split
    · split <;> decide
    · decide

theorem State.judged_ne_denied (s : State) (m : Master) (p : Page) (off : Nat) (v : Word) (rivals : List Req) :
    (s.judged m p off v rivals).2.1 ≠ 1 := by
  unfold State.judged
  split
  · exact (by decide : 5 ≠ 1)
  · exact judgeWrite_ne_denied m off _ _

/-- A line that is run is not denied (R397): its status says what came of it. -/
theorem State.runLine_ne_denied (s : State) (m : Master) (l : YemLine) (rivals : List Req) : (s.runLine m l rivals).2.1 ≠ 1 := by
  have either {c : Prop} [Decidable c] {a b : State × Nat × List Word} (ha : a.2.1 ≠ 1) (hb : b.2.1 ≠ 1) : (if c then a else b).2.1 ≠ 1 := by
    split
    · exact ha
    · exact hb
  have okOrRefused {c : Prop} [Decidable c] : (if c then 0 else 2) ≠ 1 := by split <;> decide
  have ok : 0 ≠ 1 := by decide
  have badRequest : 4 ≠ 1 := by decide
  have unavailable : 5 ≠ 1 := by decide
  cases l with
  | help | info | sens | wake | twp | bye => exact ok
  | bad => exact badRequest
  | rd p off n => exact either badRequest (either unavailable ok)
  | dump p => exact either unavailable ok
  | wr p off v => exact either badRequest (s.judged_ne_denied m p off.toNat v rivals)
  | lock p => exact either unavailable okOrRefused
  | unlock p => exact s.judged_ne_denied m p 0x24 _ rivals
  | log seq n => exact either badRequest ok
  | reset keepRing selMgt => exact s.judged_ne_denied m .unit 0x4C _ rivals
  | cold i => exact okOrRefused
  | clk i pll => exact okOrRefused

/-- A new request of a session with the right runs, and is answered with what its command says (R390, R391). -/
theorem State.request_of_fresh {s : State} {id req : Nat} {oper : Bool} {x : KrdsSession} (act : State → State × Nat × List Word)
    (fresh : s.freshRequest id req oper x) :
    s.request id req oper act = (act s).1.respond id req (act s).2.1 (act s).2.2 := by
  obtain ⟨session, new, role⟩ := fresh
  have unanswered : x.past.find? (fun e => e.1 = req) = none := by simpa using new
  have allowed : (oper && !x.operate) = false := by cases oper <;> simp_all
  simp only [State.request, session, unanswered, allowed, Bool.false_eq_true, if_false]

/-- A session that stands after a response has been sent it (R390). -/
theorem State.out_respond {s : State} {id req st : Nat} {body : List Word} (stands : (s.respond id req st body).session id ≠ none) :
    (s.respond id req st body).out = .krds id req st body :: s.out := by
  unfold State.respond at stands ⊢
  cases e : s.session id with
  | none => simp [e] at stands
  | some x => rfl

/-- A line that does not end the session, carried by a request that is new and allowed, is run, whatever WRITE_EN is. -/
theorem exec_krdsYem {s : State} {id req : Nat} {l : YemLine} {x : KrdsSession} (rivals : List Req)
    (fresh : s.freshRequest id req true x) (stays : l ≠ .bye) :
    exec (.krdsYem id req l rivals) s =
      .next ((s.krdsLine l rivals).1.respond id req 0 (s.krdsLine l rivals).2.2) := by
  have allowed : s.freshRequest id req l.operate x := ⟨fresh.1, fresh.2.1, fun _ => fresh.2.2 rfl⟩
  show execKrdsYem id req l rivals s = _
  rw [execKrdsYem, if_neg stays, State.request_of_fresh _ allowed]
  rfl

/-! ## The recovery commands (R403) -/

theorem BootSt.not_normal {b : BootSt} (recovery : b.recovery = true) : ¬ (!b.recovery) = true := by simp [recovery]

/-- RBOOT, once an image set is loaded, is a unit reset in progress, whatever the registers hold. -/
theorem exec_rboot {s : State} (recovery : s.boot.recovery = true) (loaded : s.console.rloadOk = true) :
    exec .rboot s = .next (s.unitReset .mgt true false 5) := by
  show execRboot s = _
  rw [execRboot, if_neg (BootSt.not_normal recovery), if_pos loaded]

/-- Settles O57: a denied line counts and answers; a carried line runs; no recovery command asks YEM_CFG. -/
theorem writeEnableStopsConsoleWrites : Obligations.WriteEnableStopsConsoleWrites := by
  unfold Obligations.WriteEnableStopsConsoleWrites
  refine ⟨?console, ?krds, ?rload, ?rinfo, ?xmodem, ?rboot⟩
  case console =>
    intro s p off v rivals keepRing selMgt pll i k o serves disabled ho
    have denied (l : YemLine) (r : List Req) (writes : l.operate = true) :
        (.next (s.consoleLine l r) : Host.Outcome State Fault Refusal) = .next s.denied :=
      congrArg Host.Outcome.next (State.consoleLine_of_writeDisabled r serves writes disabled)
    have same : o = .next s.denied := by
      simp only [List.mem_cons, List.not_mem_nil, or_false] at ho
      obtain rfl | rfl | rfl | rfl | rfl | rfl | rfl := ho
      · exact denied (.wr p off v) rivals rfl
      · exact denied (.lock p) rivals rfl
      · exact denied (.unlock p) rivals rfl
      · exact denied (.reset keepRing selMgt) rivals rfl
      · exact denied (.cold i) [] rfl
      · exact denied (.clk k pll) [] rfl
      · exact denied .wake [] rfl
    exact ⟨s.denied, same, rfl, rfl, s.reg_denied_line, s.reg_denied_denial, s.keepsRegs_denied, s.keeps_denied⟩
  case krds =>
    intro s id req l rivals x fresh stays
    let run := (s.count .yem 0x48).runLine .krds l rivals
    exact ⟨_, run.2.1, run.2.2, exec_krdsYem rivals fresh stays, State.runLine_ne_denied _ .krds l rivals,
      fun stands => congrArg List.head? (State.out_respond stands)⟩
  case rload =>
    intro s w setB recovery
    exact ⟨_, _, if_neg (BootSt.not_normal recovery), if_neg (BootSt.not_normal recovery), rfl⟩
  case rinfo =>
    intro s w recovery
    exact ⟨_, _, if_neg (BootSt.not_normal recovery), if_neg (BootSt.not_normal recovery), rfl⟩
  case xmodem =>
    intro s w num data crcOk final sigs _
    obtain ⟨t, u, atS, atW, alike⟩ := State.xmodemBlock_of_alike (s.alikeButCfg_setCfg w) num data crcOk final sigs
    obtain ⟨⟨m, rfl⟩, _⟩ := alike
    exact ⟨t, _, atS, atW, rfl, rfl, rfl⟩
  case rboot =>
    intro s w recovery loaded
    exact ⟨_, exec_rboot (s := s.setReg .yem 0x40 w) recovery loaded, State.inProgress_unitReset _ .mgt false 5⟩

end Sys2Proof.Machine
end
